-- ==== Sys2Proof/Word.lean ====
section
/-!
DEFINITION. The byte of the serial port (R169, R189). Everything else the part keeps is a number, a mark or a name.
-/

namespace Sys2Proof

/-- One byte on the wire. -/
abbrev Byte := BitVec 8

/-- The byte that carries the number `n` in one byte (R189). -/
abbrev byte (n : Nat) : Byte := BitVec.ofNat 8 n

end Sys2Proof
end

