-- ==== Sys2Proof/Config.lean ====
section
/-!
DEFINITION. What the part fixes: its capacities (R178), its port bytes (R170, R190) and its number of ticks in a
second (log 3). The spec leaves no result of a command to an implementation, so there is no free value here.
-/

namespace Sys2Proof.Config

/-- Pack records (R33). -/
def packCapacity : Nat := 2048

/-- Order records (R60). -/
def orderCapacity : Nat := 32

/-- Lines of one order (R58). -/
def linesPerOrder : Nat := 4

/-- The greatest sum of an order's quantities (R59). -/
def packsPerOrder : Nat := 24

/-- Task records (R117). -/
def taskCapacity : Nat := 48

/-- Loader stations (R118). -/
def stationCount : Nat := 8

/-- Bays (R1). -/
def bayCount : Nat := 64

/-- The most stacks a bay may have (R1). -/
def stacksPerBay : Nat := 8

/-- The highest tier limit (R1). -/
def tiersPerStack : Nat := 6

/-- Product codes that may be defined, 1 to 255 (R17). -/
def productCodes : Nat := 255

/-- Substitutes of one product (R19). -/
def substitutesPerProduct : Nat := 3

/-- Rejected tags of one order (R71). -/
def rejectedTags : Nat := 8

/-- Watch entries (R159). -/
def watchEntries : Nat := 4

/-- Event kinds (R164). -/
def eventKinds : Nat := 19

/-- The longest payload of a request, in bytes (R190). -/
def requestPayload : Nat := 60

/-- The highest tag (R30). -/
def maxTag : Nat := 16777215

/-- Commands of each family 0 to 7 (R176, R178). -/
def commandCounts : List Nat := [5, 10, 3, 9, 8, 9, 3, 1]

/-- The busy filler (R170). -/
def busyFiller : Byte := 0xA5#8

/-- The idle filler (R170). -/
def idleFiller : Byte := 0x00#8

/-- The start byte of a request frame (R190). -/
def requestStart : Byte := 0xC3#8

/-- The start byte of a response frame (R190). -/
def responseStart : Byte := 0x3C#8

/-- Ticks of the model's clock in one second: a tick is 10 ms, the step of the debounce times (R143).
DESIGN CHOICE, log 3. -/
def ticksPerSecond : Nat := 100

/-- The ticks of a number of seconds. -/
def ticksOfSeconds (n : Nat) : Nat := n * ticksPerSecond

/-- The seconds still shown by a timer with `t` ticks to run: a second counts until it has wholly passed, so a
timer set to `n` seconds shows `n` at once and 0 when it has run out (R135). -/
def secondsOfTicks (t : Nat) : Nat := (t + (ticksPerSecond - 1)) / ticksPerSecond

/-- The ticks of a debounce time given in milliseconds (R143). -/
def ticksOfMillis (ms : Nat) : Nat := ms / 10

end Sys2Proof.Config
end

