-- ==== Sys2Proof/Syntax.lean ====
section
/-!
DEFINITION. The commands of the part: one constructor of `Instr` for each row of spec/opcode_table.json, with the
fields its rule gives it (R176, R196 for the requests), and the small types their operands use.
A number in a request is a natural number, so that a rule's range check has something to refuse. A yes-or-no mark is
a Boolean and a named value an inductive type: bytes that spell neither are refused where a frame is decoded (log 18).
-/

namespace Sys2Proof

/-- How RECEIVE_PACK says a pack was dried (R43, R191). -/
inductive Drying where
  | kiln
  | air
deriving DecidableEq, Repr

/-- The pack record fields a watch may look at (R160). -/
inductive WatchField where
  | product
  | state
  | bay
  | holdReason
deriving DecidableEq, Repr

/-- The supply as the supply monitor judges it (R186). -/
inductive SupplyStatus where
  | sound
  | low
deriving DecidableEq, Repr

/-- What stops the part (R183). -/
inductive StopCause where
  | supplyLost
  | resetLow
deriving DecidableEq, Repr

/-- How far a start-up check had come when the part stopped (R184, R185; log 7): within step 1, with the tables it had
checked, or past step 2, step 3 or step 5. Step 4 writes nothing, and steps 6 to 8 are taken with the check's end. -/
inductive CheckProgress where
  | checking (tables : BitVec 6)
  | emptied
  | raised
  | reconciled
deriving DecidableEq, Repr

/-- How a period lies to what the port went through while it lasted (R170, R180; log 11). -/
inductive PeriodStart where
  /-- It began in the condition the port is in. -/
  | fresh
  /-- It began in a STARTING or EXECUTING condition, which ended after `lead` of its bytes. -/
  | within (lead : Nat)
  /-- It was in progress when the last reset began. Its bytes are those clocked since the port became STARTING. -/
  | beforeReset
deriving DecidableEq, Repr

/-- Where a loader puts a pack down (R132). -/
inductive Destination where
  | truck
  | stack (bay stack : Nat)
deriving DecidableEq, Repr

/-- The six description and drying fields of a product (R17, R24). -/
structure ProductFields where
  species : Nat
  grade : Nat
  thickness : Nat
  width : Nat
  needsKiln : Bool
  airDryDays : Nat
deriving DecidableEq, Repr

/-- The four timer settings, in seconds (R141). -/
structure TimerSettings where
  offer : Nat
  lift : Nat
  carry : Nat
  proposal : Nat
deriving DecidableEq, Repr

/-- The four weights of the cost (R94). -/
structure Weights where
  dig : Nat
  distance : Nat
  age : Nat
  substitution : Nat
deriving DecidableEq, Repr

/-- The four settings of a yard line (R143); the debounce is in milliseconds. -/
structure LineSetting where
  enabled : Bool
  activeHigh : Bool
  source : Nat
  debounce : Nat
deriving DecidableEq, Repr

/-- The writing form of SET_LINE (R146). -/
structure LineWrite where
  line : Nat
  setting : LineSetting
  autoOpen : Option Bool
deriving DecidableEq, Repr

/-- The writing form of SET_LOADING_POINT (R15). -/
structure PointWrite where
  point : Nat
  row : Nat
  col : Nat
  makeDefault : Bool
deriving DecidableEq, Repr

/-- A yard window (R59). -/
structure YardWindow where
  rowMin : Nat
  rowMax : Nat
  colMin : Nat
  colMax : Nat
deriving DecidableEq, Repr

/-- The given fields of an order line (R59, R63). -/
structure LineItem where
  product : Nat
  quantity : Nat
  low : Nat
  high : Nat
  window : Option YardWindow
  substitution : Bool
  digLimit : Nat
deriving DecidableEq, Repr

/-- The status codes of a response (R176). -/
inductive Status where
  | ok
  | badFrame
  | unknownRequest
  | badField
  | notFound
  | wrongState
  | tableFull
  | duplicate
  | inUse
  | buriesReserved
  | stackFull
  | notOnTop
  | busyPack
  | wrongPack
  | taskWithdrawn
  | noTruck
  | pointTaken
  | stale
  | mode
  | powerLow
deriving DecidableEq, Repr

/-- The commands. -/
inductive Instr where
  -- family 0, inquiry
  | statusSummary
  | getCapacities
  | getFamilies
  | fetchEvents
  /-- `none` is the reading form; the set is the three bytes of R195 as they stand. -/
  | setEventEnables (set : Option (BitVec 24))
  -- family 1, yard
  | setBay (bay : Nat) (enabled covered : Bool) (row col stackCount tierLimit : Nat)
  | readBay (bay : Nat)
  | setLoadingPoint (write : Option PointWrite)
  | setLine (write : Option LineWrite)
  | setTimers (write : Option TimerSettings)
  | setWeights (write : Option Weights)
  | setDay (day : Option Nat)
  | closeYard
  | openYard
  | clearYard
  /-- The running CLEAR_YARD completes (R54). -/
  | clearYardEnd
  -- family 2, product
  | setProduct (code : Nat) (defined : Bool) (fields : ProductFields)
  | readProduct (code : Nat)
  | setSubstitutes (code : Nat) (codes : List Nat)
  -- family 3, pack
  | receivePack (tag product length count mass : Nat) (drying : Drying) (bay stack : Nat) (ready : Option Nat)
  | readPack (tag : Nat)
  | readStack (bay stack : Nat)
  | recordMove (tag bay stack : Nat)
  | holdPack (tag : Nat)
  | releasePack (tag : Nat) (place : Option (Nat × Nat))
  | scrapPack (tag : Nat)
  | clearWetted (tag bay : Option Nat)
  | findOldest (code : Nat) (after : Option Nat)
  -- family 4, order
  | checkIn (truck level payload : Nat) (supervised : Bool) (lines : List LineItem)
  | readOrder (handle truck : Option Nat)
  | setPoint (handle point : Nat)
  | setLevel (handle level : Nat)
  | cancel (handle : Nat)
  | depart (handle : Nat)
  | confirmProposal (handle tag : Nat)
  | rejectProposal (handle tag : Nat)
  -- family 5, station: the first operand is the station field of the frame
  | goOnShift (station capacity : Nat)
  | goOffShift (station : Nat)
  | pollTask (station : Nat)
  | accept (station task : Nat)
  | decline (station task : Nat)
  | lifted (station tag : Nat)
  | dropped (station : Nat) (dest : Destination)
  | reportMissing (station : Nat)
  | reportPosition (station bay : Nat)
  -- family 6, watch
  | setWatch (entry : Nat) (field : WatchField) (value mask : Nat) (oneShot : Bool)
  | readWatch (entry : Option Nat)
  | clearWatch (entry : Nat)
  -- family 7, maintenance
  | restart
  -- the port
  /-- A period with the bytes clocked in, ended by the release of select. -/
  | requestPeriod (bytes : List Byte) (start : PeriodStart)
  /-- A read period of `clocked` bytes. `supply` is the supply as it stands, judged afresh if the period begins a
  RESTART_REQUEST reset (log 10). -/
  | readPeriod (clocked : Nat) (start : PeriodStart) (supply : SupplyStatus)
  -- power and reset
  | powerOn (batteryHeld : Bool) (supply : SupplyStatus)
  | resetPin (supply : SupplyStatus)
  /-- The part stops. `progress` and `damaged` say how far a start-up check that this abandons had come and which
  tables' check words had changed; they are read in STARTING only (log 7). -/
  | partStop (cause : StopCause) (progress : CheckProgress) (damaged : BitVec 6)
  /-- `damaged` names the tables whose check word the check finds changed (log 6). -/
  | startupCheckEnd (damaged : BitVec 6)
  | supplyDip
  | supplyRecovery
  -- lines
  | pinChange (pin : Nat) (high : Bool)
  | debounceExpiry (line : Nat)
  | wettingSweepStack
  -- the scan engine
  | scanStart
  | firstPassVisit
  | secondPassVisit
  | passEnd
  -- tasks, timers
  | taskOffer
  | offerLapse (task : Nat)
  | taskLapse (task : Nat)
  | carryOverdue (task : Nat)
  | proposalExpiry (handle : Nat)
deriving DecidableEq, Repr

end Sys2Proof
end

