-- ==== Sys2Proof/WellFormed.lean ====
section
/-!
DEFINITION. Which commands are well formed: for a request, those whose fields a frame can carry in the widths of
R189 and the forms of R196; for an event, those that name a task, a line, a pin or an order that exists.
The meanings do not rest on this: a rule's own range checks stand in them.
-/

namespace Sys2Proof

/-- The number fits one byte. -/
def fitsOne (n : Nat) : Bool := decide (n < 256)

/-- The number fits two bytes. -/
def fitsTwo (n : Nat) : Bool := decide (n < 65536)

/-- The number fits three bytes, as a tag does (R189). -/
def fitsThree (n : Nat) : Bool := decide (n < 16777216)

/-- A station field of a family 5 request (R172). -/
def stationFits (n : Nat) : Bool := decide (1 ≤ n) && decide (n ≤ 8)

/-- The window's four values fit a byte each. -/
def YardWindow.fits (w : YardWindow) : Bool :=
  fitsOne w.rowMin && fitsOne w.rowMax && fitsOne w.colMin && fitsOne w.colMax

/-- A line of CHECK_IN fits its eleven bytes. -/
def LineItem.fits (l : LineItem) : Bool :=
  fitsOne l.product && fitsOne l.quantity && fitsOne l.low && fitsOne l.high && fitsOne l.digLimit &&
    (match l.window with
     | none => true
     | some w => w.fits)

/-- The product fields fit their bytes. -/
def ProductFields.fits (f : ProductFields) : Bool :=
  fitsOne f.species && fitsOne f.grade && fitsTwo f.thickness && fitsTwo f.width && fitsTwo f.airDryDays

/-- The bytes a period clocked before the condition it began in ended. -/
def PeriodStart.lead : PeriodStart → Nat
  | .fresh => 0
  | .within lead => lead
  | .beforeReset => 0

/-- The command is well formed. -/
def Instr.wellFormed : Instr → Bool
  | .statusSummary => true
  | .getCapacities => true
  | .getFamilies => true
  | .fetchEvents => true
  | .setEventEnables _ => true
  | .setBay bay _ _ row col stackCount tierLimit =>
    fitsOne bay && fitsOne row && fitsOne col && fitsOne stackCount && fitsOne tierLimit
  | .readBay bay => fitsOne bay
  | .setLoadingPoint none => true
  | .setLoadingPoint (some w) => fitsOne w.point && fitsOne w.row && fitsOne w.col
  | .setLine none => true
  | .setLine (some w) => fitsOne w.line && fitsOne w.setting.source && fitsTwo w.setting.debounce
  | .setTimers none => true
  | .setTimers (some w) => fitsTwo w.offer && fitsTwo w.lift && fitsTwo w.carry && fitsTwo w.proposal
  | .setWeights none => true
  | .setWeights (some w) => fitsOne w.dig && fitsOne w.distance && fitsOne w.age && fitsOne w.substitution
  | .setDay none => true
  | .setDay (some d) => fitsTwo d
  | .closeYard => true
  | .openYard => true
  | .clearYard => true
  | .clearYardEnd => true
  | .setProduct code _ fields => fitsOne code && fields.fits
  | .readProduct code => fitsOne code
  | .setSubstitutes code codes => fitsOne code && decide (codes.length ≤ 3) && codes.all fitsOne
  | .receivePack tag product length count mass _ bay stack ready =>
    fitsThree tag && fitsOne product && fitsOne length && fitsTwo count && fitsTwo mass && fitsOne bay &&
      fitsOne stack &&
      (match ready with
       | none => true
       | some d => fitsTwo d)
  | .readPack tag => fitsThree tag
  | .readStack bay stack => fitsOne bay && fitsOne stack
  | .recordMove tag bay stack => fitsThree tag && fitsOne bay && fitsOne stack
  | .holdPack tag => fitsThree tag
  | .releasePack tag none => fitsThree tag
  | .releasePack tag (some p) => fitsThree tag && fitsOne p.1 && fitsOne p.2
  | .scrapPack tag => fitsThree tag
  | .clearWetted (some tag) none => fitsThree tag
  | .clearWetted none (some bay) => fitsOne bay
  | .clearWetted none none => false
  | .clearWetted (some _) (some _) => false
  | .findOldest code none => fitsOne code
  | .findOldest code (some t) => fitsOne code && fitsThree t
  | .checkIn truck level payload _ lines =>
    fitsTwo truck && fitsOne level && fitsTwo payload && decide (1 ≤ lines.length) &&
      decide (lines.length ≤ 4) && lines.all LineItem.fits
  | .readOrder none none => true
  | .readOrder (some h) none => fitsOne h
  | .readOrder none (some r) => fitsTwo r
  | .readOrder (some _) (some _) => false
  | .setPoint handle point => fitsOne handle && fitsOne point
  | .setLevel handle level => fitsOne handle && fitsOne level
  | .cancel handle => fitsOne handle
  | .depart handle => fitsOne handle
  | .confirmProposal handle tag => fitsOne handle && fitsThree tag
  | .rejectProposal handle tag => fitsOne handle && fitsThree tag
  | .goOnShift station capacity => stationFits station && fitsTwo capacity
  | .goOffShift station => stationFits station
  | .pollTask station => stationFits station
  | .accept station task => stationFits station && fitsOne task
  | .decline station task => stationFits station && fitsOne task
  | .lifted station tag => stationFits station && fitsThree tag
  | .dropped station .truck => stationFits station
  | .dropped station (.stack b k) => stationFits station && fitsOne b && fitsOne k
  | .reportMissing station => stationFits station
  | .reportPosition station bay => stationFits station && fitsOne bay
  | .setWatch entry _ value mask _ => fitsOne entry && fitsOne value && fitsOne mask
  | .readWatch none => true
  | .readWatch (some n) => fitsOne n
  | .clearWatch entry => fitsOne entry
  | .restart => true
  | .requestPeriod _ .beforeReset => true
  | .requestPeriod bytes start =>
    (match bytes with
     | [] => false
     | b :: _ => decide (b ≠ 0#8)) && decide (start.lead ≤ bytes.length)
  | .readPeriod _ .beforeReset _ => true
  | .readPeriod clocked start _ => decide (1 ≤ clocked) && decide (start.lead ≤ clocked)
  | .powerOn _ _ => true
  | .resetPin _ => true
  | .partStop _ _ _ => true
  | .startupCheckEnd _ => true
  | .supplyDip => true
  | .supplyRecovery => true
  | .pinChange pin _ => decide (pin < 16)
  | .debounceExpiry line => decide (line < 7)
  | .wettingSweepStack => true
  | .scanStart => true
  | .firstPassVisit => true
  | .secondPassVisit => true
  | .passEnd => true
  | .taskOffer => true
  | .offerLapse task => decide (1 ≤ task) && decide (task ≤ 48)
  | .taskLapse task => decide (1 ≤ task) && decide (task ≤ 48)
  | .carryOverdue task => decide (1 ≤ task) && decide (task ≤ 48)
  | .proposalExpiry handle => decide (1 ≤ handle) && decide (handle ≤ 32)

end Sys2Proof
end

