-- ==== Sys2Proof/Decode.lean ====
section
/-!
DEFINITION. The bytes of the port: numbers as bytes (R189), the CRC-8 (R173), the checks of a request frame (R171,
R172) with the payload layouts of R196, and the frame that carries a request (R190). Beside them the host's
`decodeTableWord`: the table gives no row any bits, so no word spells a command.
-/

namespace Sys2Proof

/-! ## Numbers as bytes (R189) -/

/-- A number in two bytes, most significant first. -/
def be2 (n : Nat) : List Byte := [byte (n / 256), byte n]

/-- A number in three bytes, most significant first. -/
def be3 (n : Nat) : List Byte := [byte (n / 65536), byte (n / 256), byte n]

/-- A mark: 1 for yes and 0 for no. -/
def markByte (b : Bool) : Byte := if b then 1#8 else 0#8

/-- A presence byte, or a bit set of one byte: bit n is the n-th mark of the list. -/
def bitsByte (bs : List Bool) : Byte :=
  byte (bs.foldr (fun b n => 2 * n + (if b then 1 else 0)) 0)

/-- The number two bytes carry. -/
def num2 (a b : Nat) : Nat := a * 256 + b

/-- The number three bytes carry. -/
def num3 (a b c : Nat) : Nat := a * 65536 + b * 256 + c

/-- The mark a byte carries, or nothing where it is neither 0 nor 1. -/
def markOf (n : Nat) : Option Bool :=
  if n = 0 then some false else if n = 1 then some true else none

/-! ## The check (R173) -/

/-- One shift of the CRC register. -/
def crcShift (r : Byte) : Byte := if r.msb then (r <<< 1) ^^^ 0x07#8 else r <<< 1

/-- One byte taken into the CRC register. -/
def crcTake (r b : Byte) : Byte :=
  crcShift (crcShift (crcShift (crcShift (crcShift (crcShift (crcShift (crcShift (r ^^^ b))))))))

/-- The CRC-8 of the covered bytes. -/
def crc8 (bs : List Byte) : Byte := bs.foldl crcTake 0#8

/-! ## The frame (R171, R190) -/

/-- The fields of a request frame that passed its checks. -/
structure Frame where
  code : Nat
  station : Nat
  payload : List Nat
deriving DecidableEq, Repr

/-- The checks of R171 on the bytes of a period. Which of them fails is not reported, so the answer is the frame or
nothing. A period of fewer than five bytes fails the length test, since its fourth byte has no check after it. -/
def checkFrame : List Byte → Option Frame
  | start :: code :: station :: len :: rest =>
    if start = Config.requestStart ∧ len.toNat ≤ Config.requestPayload ∧ rest.length = len.toNat + 1 ∧
        rest.getLast? = some (crc8 (code :: station :: len :: rest.dropLast)) then
      some ⟨code.toNat, station.toNat, rest.dropLast.map BitVec.toNat⟩
    else none
  | _ => none

/-- The code field a BAD_FRAME response echoes: the second byte of the period, or 0 (R171). -/
def echoedCode (bytes : List Byte) : Nat := (bytes.getD 1 0#8).toNat

/-- The station field the last status takes from a bad frame: the third byte of the period, or 0 (R175). -/
def echoedStation (bytes : List Byte) : Nat := (bytes.getD 2 0#8).toNat

/-! ## Payloads (R196)

Each reader takes the payload's bytes as numbers and answers the request they spell, or nothing where no form of the
request has that length, or a mark, named value, presence bit or bit set is one R189 refuses. -/

/-- Family 0. -/
def readInquiry (cmd : Nat) (p : List Nat) : Option Instr :=
  match cmd, p with
  | 0, [] => some .statusSummary
  | 1, [] => some .getCapacities
  | 2, [] => some .getFamilies
  | 3, [] => some .fetchEvents
  | 4, [] => some (.setEventEnables none)
  | 4, [a, b, c] => some (.setEventEnables (some (BitVec.ofNat 24 (num3 a b c))))
  | _, _ => none

/-- SET_BAY. -/
def readSetBay : List Nat → Option Instr
  | [b, e, c, row, col, n, t] => do
    let e ← markOf e
    let c ← markOf c
    return .setBay b e c row col n t
  | _ => none

/-- SET_LOADING_POINT. -/
def readSetPoint : List Nat → Option Instr
  | [] => some (.setLoadingPoint none)
  | [p, row, col, d] => do
    let d ← markOf d
    return .setLoadingPoint (some ⟨p, row, col, d⟩)
  | _ => none

/-- SET_LINE: six bytes without the auto-open mark, seven with it. -/
def readSetLine : List Nat → Option Instr
  | [] => some (.setLine none)
  | [l, e, a, src, d1, d0] => do
    let e ← markOf e
    let a ← markOf a
    return .setLine (some ⟨l, ⟨e, a, src, num2 d1 d0⟩, none⟩)
  | [l, e, a, src, d1, d0, o] => do
    let e ← markOf e
    let a ← markOf a
    let o ← markOf o
    return .setLine (some ⟨l, ⟨e, a, src, num2 d1 d0⟩, some o⟩)
  | _ => none

/-- SET_TIMERS. -/
def readSetTimers : List Nat → Option Instr
  | [] => some (.setTimers none)
  | [a1, a0, b1, b0, c1, c0, d1, d0] =>
    some (.setTimers (some ⟨num2 a1 a0, num2 b1 b0, num2 c1 c0, num2 d1 d0⟩))
  | _ => none

/-- SET_WEIGHTS. -/
def readSetWeights : List Nat → Option Instr
  | [] => some (.setWeights none)
  | [a, b, c, d] => some (.setWeights (some ⟨a, b, c, d⟩))
  | _ => none

/-- SET_DAY. -/
def readSetDay : List Nat → Option Instr
  | [] => some (.setDay none)
  | [a, b] => some (.setDay (some (num2 a b)))
  | _ => none

/-- A request with no fields. -/
def readBare (c : Instr) : List Nat → Option Instr
  | [] => some c
  | _ => none

/-- A request whose one field is a number of one byte. -/
def readByte (f : Nat → Instr) : List Nat → Option Instr
  | [a] => some (f a)
  | _ => none

/-- A request whose one field is a tag. -/
def readTag (f : Nat → Instr) : List Nat → Option Instr
  | [a, b, c] => some (f (num3 a b c))
  | _ => none

/-- A request whose fields are two numbers of one byte. -/
def readPair (f : Nat → Nat → Instr) : List Nat → Option Instr
  | [a, b] => some (f a b)
  | _ => none

/-- A request whose fields are a handle and a tag. -/
def readHandleTag (f : Nat → Nat → Instr) : List Nat → Option Instr
  | [h, a, b, c] => some (f h (num3 a b c))
  | _ => none

/-- Family 1. -/
def readYard (cmd : Nat) (p : List Nat) : Option Instr :=
  match cmd with
  | 0 => readSetBay p
  | 1 => readByte .readBay p
  | 2 => readSetPoint p
  | 3 => readSetLine p
  | 4 => readSetTimers p
  | 5 => readSetWeights p
  | 6 => readSetDay p
  | 7 => readBare .closeYard p
  | 8 => readBare .openYard p
  | 9 => readBare .clearYard p
  | _ => none

/-- SET_PRODUCT. With defined no, R24 neither checks nor uses the other fields, the needs kiln mark among them
(log 16). -/
def readSetProduct : List Nat → Option Instr
  | [c, d, s, g, t1, t0, w1, w0, k, a1, a0] => do
    let d ← markOf d
    let k ← if d then markOf k else some (decide (k = 1))
    return .setProduct c d ⟨s, g, num2 t1 t0, num2 w1 w0, k, num2 a1 a0⟩
  | _ => none

/-- SET_SUBSTITUTES: the code, then up to three codes. -/
def readSetSubstitutes : List Nat → Option Instr
  | [] => none
  | c :: codes => if codes.length ≤ 3 then some (.setSubstitutes c codes) else none

/-- Family 2. -/
def readProducts (cmd : Nat) (p : List Nat) : Option Instr :=
  match cmd with
  | 0 => readSetProduct p
  | 1 => readByte .readProduct p
  | 2 => readSetSubstitutes p
  | _ => none

/-- The drying a byte names (R191). -/
def dryingOf (n : Nat) : Option Drying :=
  if n = 0 then some .kiln else if n = 1 then some .air else none

/-- RECEIVE_PACK, without and with a ready day. -/
def readReceivePack : List Nat → Option Instr
  | [t2, t1, t0, p, l, c1, c0, m1, m0, d, b, k] => do
    let d ← dryingOf d
    return .receivePack (num3 t2 t1 t0) p l (num2 c1 c0) (num2 m1 m0) d b k none
  | [t2, t1, t0, p, l, c1, c0, m1, m0, d, b, k, r1, r0] => do
    let d ← dryingOf d
    return .receivePack (num3 t2 t1 t0) p l (num2 c1 c0) (num2 m1 m0) d b k (some (num2 r1 r0))
  | _ => none

/-- RECORD_MOVE. -/
def readRecordMove : List Nat → Option Instr
  | [a, b, c, bay, k] => some (.recordMove (num3 a b c) bay k)
  | _ => none

/-- RELEASE_PACK, without and with a location. -/
def readReleasePack : List Nat → Option Instr
  | [a, b, c] => some (.releasePack (num3 a b c) none)
  | [a, b, c, bay, k] => some (.releasePack (num3 a b c) (some (bay, k)))
  | _ => none

/-- CLEAR_WETTED: a tag or a bay. -/
def readClearWetted : List Nat → Option Instr
  | [b] => some (.clearWetted none (some b))
  | [a, b, c] => some (.clearWetted (some (num3 a b c)) none)
  | _ => none

/-- FIND_OLDEST, without and with an after-tag. -/
def readFindOldest : List Nat → Option Instr
  | [c] => some (.findOldest c none)
  | [c, a, b, d] => some (.findOldest c (some (num3 a b d)))
  | _ => none

/-- Family 3. -/
def readPacks (cmd : Nat) (p : List Nat) : Option Instr :=
  match cmd with
  | 0 => readReceivePack p
  | 1 => readTag .readPack p
  | 2 => readPair .readStack p
  | 3 => readRecordMove p
  | 4 => readTag .holdPack p
  | 5 => readReleasePack p
  | 6 => readTag .scrapPack p
  | 7 => readClearWetted p
  | 8 => readFindOldest p
  | _ => none

/-- The lines of a CHECK_IN, eleven bytes each. The window bytes of a line whose presence bit is 0 are not read. -/
def readLines : List Nat → Option (List LineItem)
  | [] => some []
  | pr :: p :: q :: lo :: hi :: r0 :: r1 :: c0 :: c1 :: sub :: dig :: rest => do
    let pr ← markOf pr
    let sub ← markOf sub
    let more ← readLines rest
    return ⟨p, q, lo, hi, if pr then some ⟨r0, r1, c0, c1⟩ else none, sub, dig⟩ :: more
  | _ => none

/-- CHECK_IN, with one to four lines. -/
def readCheckIn : List Nat → Option Instr
  | t1 :: t0 :: lvl :: p1 :: p0 :: sup :: rest => do
    let sup ← markOf sup
    let lines ← readLines rest
    if 1 ≤ lines.length ∧ lines.length ≤ 4 then
      return .checkIn (num2 t1 t0) lvl (num2 p1 p0) sup lines
    else none
  | _ => none

/-- READ_ORDER: the queue, a handle or a truck reference. -/
def readReadOrder : List Nat → Option Instr
  | [] => some (.readOrder none none)
  | [h] => some (.readOrder (some h) none)
  | [a, b] => some (.readOrder none (some (num2 a b)))
  | _ => none

/-- Family 4. -/
def readOrders (cmd : Nat) (p : List Nat) : Option Instr :=
  match cmd with
  | 0 => readCheckIn p
  | 1 => readReadOrder p
  | 2 => readPair .setPoint p
  | 3 => readPair .setLevel p
  | 4 => readByte .cancel p
  | 5 => readByte .depart p
  | 6 => readHandleTag .confirmProposal p
  | 7 => readHandleTag .rejectProposal p
  | _ => none

/-- GO_ON_SHIFT. -/
def readGoOnShift (station : Nat) : List Nat → Option Instr
  | [a, b] => some (.goOnShift station (num2 a b))
  | _ => none

/-- DROPPED: to the truck, or to a stack. -/
def readDropped (station : Nat) : List Nat → Option Instr
  | [] => some (.dropped station .truck)
  | [b, k] => some (.dropped station (.stack b k))
  | _ => none

/-- Family 5; the station field names the sender. -/
def readStations (cmd station : Nat) (p : List Nat) : Option Instr :=
  match cmd with
  | 0 => readGoOnShift station p
  | 1 => readBare (.goOffShift station) p
  | 2 => readBare (.pollTask station) p
  | 3 => readByte (.accept station) p
  | 4 => readByte (.decline station) p
  | 5 => readTag (.lifted station) p
  | 6 => readDropped station p
  | 7 => readBare (.reportMissing station) p
  | 8 => readByte (.reportPosition station) p
  | _ => none

/-- The watch field a byte names (R191). -/
def watchFieldOf (n : Nat) : Option WatchField :=
  if n = 0 then some .product else if n = 1 then some .state else if n = 2 then some .bay
  else if n = 3 then some .holdReason else none

/-- SET_WATCH. -/
def readSetWatch : List Nat → Option Instr
  | [e, f, v, m, o] => do
    let f ← watchFieldOf f
    let o ← markOf o
    return .setWatch e f v m o
  | _ => none

/-- READ_WATCH, for all entries or for one. -/
def readReadWatch : List Nat → Option Instr
  | [] => some (.readWatch none)
  | [e] => some (.readWatch (some e))
  | _ => none

/-- Family 6. -/
def readWatches (cmd : Nat) (p : List Nat) : Option Instr :=
  match cmd with
  | 0 => readSetWatch p
  | 1 => readReadWatch p
  | 2 => readByte .clearWatch p
  | _ => none

/-- Step 3 of R172: the payload's form. -/
def readPayload (family cmd station : Nat) (p : List Nat) : Option Instr :=
  match family with
  | 0 => readInquiry cmd p
  | 1 => readYard cmd p
  | 2 => readProducts cmd p
  | 3 => readPacks cmd p
  | 4 => readOrders cmd p
  | 5 => readStations cmd station p
  | 6 => readWatches cmd p
  | 7 => readBare .restart p
  | _ => none

/-- The family of a request code (R190). -/
def familyOf (code : Nat) : Nat := code / 16

/-- The station field is one R172 step 2 allows for the family. -/
def stationAllowed (family station : Nat) : Bool :=
  if family = 5 then decide (1 ≤ station) && decide (station ≤ 8) else decide (station = 0)

/-- Steps 1 to 3 of R172: the request a good frame spells, or the status that refuses it. -/
def readRequest (f : Frame) : Except Status Instr :=
  if ¬ f.code % 16 < Config.commandCounts.getD (familyOf f.code) 0 then .error .unknownRequest
  else if stationAllowed (familyOf f.code) f.station = false then .error .badField
  else
    match readPayload (familyOf f.code) (f.code % 16) f.station f.payload with
    | some c => .ok c
    | none => .error .badField

/-! ## The frame that carries a request -/

/-- The request code of a command, for the 48 requests (R176): sixteen times the family, plus the command. -/
def Instr.requestCode? : Instr → Option Nat
  | .statusSummary => some 0x00
  | .getCapacities => some 0x01
  | .getFamilies => some 0x02
  | .fetchEvents => some 0x03
  | .setEventEnables _ => some 0x04
  | .setBay _ _ _ _ _ _ _ => some 0x10
  | .readBay _ => some 0x11
  | .setLoadingPoint _ => some 0x12
  | .setLine _ => some 0x13
  | .setTimers _ => some 0x14
  | .setWeights _ => some 0x15
  | .setDay _ => some 0x16
  | .closeYard => some 0x17
  | .openYard => some 0x18
  | .clearYard => some 0x19
  | .clearYardEnd => none
  | .setProduct _ _ _ => some 0x20
  | .readProduct _ => some 0x21
  | .setSubstitutes _ _ => some 0x22
  | .receivePack _ _ _ _ _ _ _ _ _ => some 0x30
  | .readPack _ => some 0x31
  | .readStack _ _ => some 0x32
  | .recordMove _ _ _ => some 0x33
  | .holdPack _ => some 0x34
  | .releasePack _ _ => some 0x35
  | .scrapPack _ => some 0x36
  | .clearWetted _ _ => some 0x37
  | .findOldest _ _ => some 0x38
  | .checkIn _ _ _ _ _ => some 0x40
  | .readOrder _ _ => some 0x41
  | .setPoint _ _ => some 0x42
  | .setLevel _ _ => some 0x43
  | .cancel _ => some 0x44
  | .depart _ => some 0x45
  | .confirmProposal _ _ => some 0x46
  | .rejectProposal _ _ => some 0x47
  | .goOnShift _ _ => some 0x50
  | .goOffShift _ => some 0x51
  | .pollTask _ => some 0x52
  | .accept _ _ => some 0x53
  | .decline _ _ => some 0x54
  | .lifted _ _ => some 0x55
  | .dropped _ _ => some 0x56
  | .reportMissing _ => some 0x57
  | .reportPosition _ _ => some 0x58
  | .setWatch _ _ _ _ _ => some 0x60
  | .readWatch _ => some 0x61
  | .clearWatch _ => some 0x62
  | .restart => some 0x70
  | .requestPeriod _ _ => none
  | .readPeriod _ _ _ => none
  | .powerOn _ _ => none
  | .resetPin _ => none
  | .partStop _ _ _ => none
  | .startupCheckEnd _ => none
  | .supplyDip => none
  | .supplyRecovery => none
  | .pinChange _ _ => none
  | .debounceExpiry _ => none
  | .wettingSweepStack => none
  | .scanStart => none
  | .firstPassVisit => none
  | .secondPassVisit => none
  | .passEnd => none
  | .taskOffer => none
  | .offerLapse _ => none
  | .taskLapse _ => none
  | .carryOverdue _ => none
  | .proposalExpiry _ => none

/-- The request code of a request; 0 for an event, which has none. -/
def Instr.requestCode (c : Instr) : Nat := c.requestCode?.getD 0

/-- The command is one of the 48 requests. -/
def Instr.isRequest (c : Instr) : Bool := c.requestCode?.isSome

/-- The station field of the frame of a request: the sender for family 5, else 0 (R172). -/
def Instr.stationField : Instr → Nat
  | .goOnShift station _ => station
  | .goOffShift station => station
  | .pollTask station => station
  | .accept station _ => station
  | .decline station _ => station
  | .lifted station _ => station
  | .dropped station _ => station
  | .reportMissing station => station
  | .reportPosition station _ => station
  | _ => 0

/-- The yard window bytes of a CHECK_IN line; all 0 when it is absent. -/
def windowBytes : Option YardWindow → List Byte
  | none => [0#8, 0#8, 0#8, 0#8]
  | some w => [byte w.rowMin, byte w.rowMax, byte w.colMin, byte w.colMax]

/-- The eleven bytes of a CHECK_IN line. -/
def lineBytes (l : LineItem) : List Byte :=
  [markByte l.window.isSome, byte l.product, byte l.quantity, byte l.low, byte l.high] ++ windowBytes l.window ++
    [markByte l.substitution, byte l.digLimit]

/-- The byte of a drying (R191). -/
def dryingByte : Drying → Byte
  | .kiln => 0#8
  | .air => 1#8

/-- The byte of a watch field (R191). -/
def watchFieldByte : WatchField → Byte
  | .product => 0#8
  | .state => 1#8
  | .bay => 2#8
  | .holdReason => 3#8

/-- The payload of a request (R196); an event has none. -/
def Instr.payload : Instr → List Byte
  | .setEventEnables (some set) => be3 set.toNat
  | .setBay bay e c row col n t => [byte bay, markByte e, markByte c, byte row, byte col, byte n, byte t]
  | .readBay bay => [byte bay]
  | .setLoadingPoint (some w) => [byte w.point, byte w.row, byte w.col, markByte w.makeDefault]
  | .setLine (some w) =>
    [byte w.line, markByte w.setting.enabled, markByte w.setting.activeHigh, byte w.setting.source] ++
      be2 w.setting.debounce ++
      (match w.autoOpen with
       | none => []
       | some o => [markByte o])
  | .setTimers (some w) => be2 w.offer ++ be2 w.lift ++ be2 w.carry ++ be2 w.proposal
  | .setWeights (some w) => [byte w.dig, byte w.distance, byte w.age, byte w.substitution]
  | .setDay (some d) => be2 d
  | .setProduct code d f =>
    [byte code, markByte d, byte f.species, byte f.grade] ++ be2 f.thickness ++ be2 f.width ++
      [markByte f.needsKiln] ++ be2 f.airDryDays
  | .readProduct code => [byte code]
  | .setSubstitutes code codes => byte code :: codes.map byte
  | .receivePack tag product length count mass drying bay stack ready =>
    be3 tag ++ [byte product, byte length] ++ be2 count ++ be2 mass ++
      [dryingByte drying, byte bay, byte stack] ++
      (match ready with
       | none => []
       | some d => be2 d)
  | .readPack tag => be3 tag
  | .readStack bay stack => [byte bay, byte stack]
  | .recordMove tag bay stack => be3 tag ++ [byte bay, byte stack]
  | .holdPack tag => be3 tag
  | .releasePack tag none => be3 tag
  | .releasePack tag (some p) => be3 tag ++ [byte p.1, byte p.2]
  | .scrapPack tag => be3 tag
  | .clearWetted (some tag) _ => be3 tag
  | .clearWetted none (some bay) => [byte bay]
  | .findOldest code none => [byte code]
  | .findOldest code (some t) => byte code :: be3 t
  | .checkIn truck level payload supervised lines =>
    be2 truck ++ [byte level] ++ be2 payload ++ [markByte supervised] ++ lines.flatMap lineBytes
  | .readOrder (some h) _ => [byte h]
  | .readOrder none (some r) => be2 r
  | .setPoint handle point => [byte handle, byte point]
  | .setLevel handle level => [byte handle, byte level]
  | .cancel handle => [byte handle]
  | .depart handle => [byte handle]
  | .confirmProposal handle tag => byte handle :: be3 tag
  | .rejectProposal handle tag => byte handle :: be3 tag
  | .goOnShift _ capacity => be2 capacity
  | .accept _ task => [byte task]
  | .decline _ task => [byte task]
  | .lifted _ tag => be3 tag
  | .dropped _ (.stack b k) => [byte b, byte k]
  | .reportPosition _ bay => [byte bay]
  | .setWatch entry field value mask oneShot =>
    [byte entry, watchFieldByte field, byte value, byte mask, markByte oneShot]
  | .readWatch (some n) => [byte n]
  | .clearWatch entry => [byte entry]
  | _ => []

/-- The bytes a request frame's check covers (R171). -/
def Instr.covered (c : Instr) : List Byte :=
  byte c.requestCode :: byte c.stationField :: byte c.payload.length :: c.payload

/-- The frame that carries a request (R190). -/
def Instr.frame (c : Instr) : List Byte :=
  Config.requestStart :: (c.covered ++ [crc8 c.covered])

/-! ## The table's words -/

/-- The table gives no row any bits: no word spells a command. -/
def decodeTableWord (_nbits _w : Nat) : Option Instr := none

end Sys2Proof
end

