-- ==== Sys2Proof/Machine/State.lean ====
section
/-!
DEFINITION. The state of the part as plain data: every record, list, timer, mark and pin the spec gives it, the queue
of commands that wait, and the state after reset. The stack lists, the tag index and the product chains are views of
the pack records, which hold every location (R5, R32, R34, R182; log 8): the operations compute them.
-/

namespace Sys2Proof.Machine

/-- A table keyed by a number: its keys rise strictly. -/
abbrev Table (α : Type) := List (Nat × α)

/-! ## The yard map table (R1, R3) -/

/-- A bay entry (R1); its number is its place in the bay table. -/
structure Bay where
  enabled : Bool
  covered : Bool
  row : Nat
  col : Nat
  stackCount : Nat
  tierLimit : Nat
deriving DecidableEq, Repr

/-- The entry of bay `b` at its defaults (R1). -/
def Bay.default (b : Nat) : Bay := ⟨false, false, b / 8, b % 8, 1, 6⟩

/-- A loading point's place on the grid (R3). Point p stands at place p - 1 of its list. -/
structure Point where
  row : Nat
  col : Nat
deriving DecidableEq, Repr

/-- The yard map table (R1, R3). -/
structure YardMap where
  bays : List Bay
  points : List Point
  defaultPoint : Nat
deriving DecidableEq, Repr

/-- The yard map table at its defaults (R16). -/
def YardMap.default : YardMap :=
  ⟨(List.range 64).map Bay.default, [⟨15, 0⟩, ⟨15, 5⟩, ⟨15, 10⟩, ⟨15, 15⟩], 1⟩

/-! ## The Product Table (R17) -/

/-- A product entry (R17); its code is its place in the table. -/
structure Product where
  defined : Bool
  fields : ProductFields
  substitutes : List Nat
deriving DecidableEq, Repr

/-- An entry at its defaults (R17). -/
def Product.default : Product := ⟨false, ⟨0, 0, 50, 150, false, 0⟩, []⟩

/-! ## Pack records (R30) -/

/-- The drying of a pack; the ready day belongs to AIR alone (R30). -/
inductive PackDrying where
  | kiln
  | air (ready : Nat)
deriving DecidableEq, Repr

/-- The states of a pack (R31). -/
inductive PackState where
  | stored
  | reserved
  | moving
  | lifted
  | loaded
  | held
deriving DecidableEq, Repr

/-- Why a pack is HELD (R31). -/
inductive HoldReason where
  | damaged
  | missing
  | lostInTransit
  | loadedUnconfirmed
deriving DecidableEq, Repr

/-- Where a pack stands (R30). -/
structure Location where
  bay : Nat
  stack : Nat
  tier : Nat
deriving DecidableEq, Repr

/-- An order line, named by its order's handle and its number (R30). -/
structure LineRef where
  handle : Nat
  line : Nat
deriving DecidableEq, Repr

/-- A pack record (R30); its tag is its key in the table. -/
structure Pack where
  product : Nat
  length : Nat
  count : Nat
  mass : Nat
  received : Nat
  drying : PackDrying
  wetted : Bool
  state : PackState
  location : Option Location
  reservation : Option LineRef
  task : Option Nat
  hold : Option HoldReason
deriving DecidableEq, Repr

/-! ## Orders (R58, R59) -/

/-- The states of an order (R61). -/
inductive OrderState where
  | queued
  | atPoint
  | complete
deriving DecidableEq, Repr

/-- An order line (R59); its number is its place in the order's list, from 1. -/
structure OrderLine where
  item : LineItem
  allocated : Nat
  loaded : Nat
  starved : Bool
deriving DecidableEq, Repr

/-- A full proposal slot (R72); `left` is what its timer has to run, in ticks (log 3). -/
structure Proposal where
  line : Nat
  tag : Nat
  cost : Nat
  left : Nat
deriving DecidableEq, Repr

/-- An order record (R58); its handle is its key in the table. -/
structure Order where
  truck : Nat
  level : Nat
  state : OrderState
  point : Option Nat
  payload : Nat
  supervised : Bool
  lines : List OrderLine
  committed : Nat
  proposal : Option Proposal
  rejected : List Nat
deriving DecidableEq, Repr

/-! ## The scan engine (R82) -/

/-- The states of the engine (R82). -/
inductive EngineState where
  | idle
  | firstPass
  | secondPass
  | waiting
deriving DecidableEq, Repr

/-- The pass a leading candidate comes from (R82). -/
inductive Pass where
  | first
  | second
deriving DecidableEq, Repr

/-- The walk position (R82, R91): the chain being walked and the last pack visited in it. -/
structure Walk where
  code : Nat
  position : Nat
  day : Nat
  tag : Nat
deriving DecidableEq, Repr

/-- The leading candidate (R82). -/
structure Candidate where
  tag : Nat
  day : Nat
  cost : Nat
  pass : Pass
deriving DecidableEq, Repr

/-- The scan engine (R82). -/
structure Engine where
  state : EngineState
  line : Option LineRef
  walk : Option Walk
  lead : Option Candidate
  clearSeen : Bool
  restarts : BitVec 16
deriving DecidableEq, Repr

/-! ## Tasks and stations (R116, R118) -/

/-- The kind of a task with what it serves (R116): a FETCH an order line, a SHIFT the tag of the RESERVED pack it
digs toward, a RETURN nothing. -/
inductive TaskKind where
  | fetch (line : LineRef)
  | shift (tag : Nat)
  | giveBack
deriving DecidableEq, Repr

/-- The states of a task (R116). -/
inductive TaskState where
  | opened
  | offered
  | accepted
  | lifted
deriving DecidableEq, Repr

/-- A task record (R116). Its creation order is its place in the task list; deadline and alarm are in ticks (log 3). -/
structure Task where
  number : Nat
  kind : TaskKind
  subject : Nat
  state : TaskState
  station : Option Nat
  suggested : Option (Nat × Nat)
  lapsed : Option Nat
  deadline : Option Nat
  alarm : Option Nat
deriving DecidableEq, Repr

/-- The states of a station (R119). -/
inductive StationState where
  | offShift
  | idle
  | offered
  | busy
deriving DecidableEq, Repr

/-- A station record (R118); station n stands at place n - 1 of its list. -/
structure Station where
  state : StationState
  capacity : Option Nat
  lastBay : Option Nat
  lapses : Nat
  notice : Bool
deriving DecidableEq, Repr

/-- A station after reset (R142). -/
def Station.default : Station := ⟨.offShift, none, none, 0, false⟩

/-! ## Yard lines (R143, R145, R155) -/

/-- What the line unit holds of a line besides its settings: its live state, and the ticks left of a pending debounce
period (R145). -/
structure LineLive where
  active : Bool
  period : Option Nat
deriving DecidableEq, Repr

/-- The yard modes (R155). -/
inductive YardMode where
  | opened
  | closing
  | closed
deriving DecidableEq, Repr

/-! ## Yard settings (R182) -/

/-- The yard settings: one retained table. -/
structure YardSettings where
  weights : Weights
  timers : TimerSettings
  autoOpen : Bool
  yardDay : Nat
deriving DecidableEq, Repr

/-- The yard settings at their defaults (R94, R141, R147, R182). -/
def YardSettings.default : YardSettings := ⟨⟨8, 4, 2, 6⟩, ⟨30, 600, 900, 120⟩, false, 0⟩

/-- A line's settings at their defaults (R143). -/
def lineDefault : LineSetting := ⟨false, true, 0, 100⟩

/-! ## Watches (R159) -/

/-- A watch entry (R159); entry n stands at place n - 1 of its list. -/
structure Watch where
  armed : Bool
  field : WatchField
  value : BitVec 8
  mask : BitVec 8
  oneShot : Bool
  hits : Nat
  lastTag : Option Nat
deriving DecidableEq, Repr

/-- A watch entry after reset and CLEAR_WATCH (R159). -/
def Watch.default : Watch := ⟨false, .product, 0#8, 0#8, false, 0, none⟩

/-! ## The port (R170, R175) -/

/-- A response in the response buffer; `restart` marks a restart response (R179). -/
structure Response where
  code : Nat
  status : Status
  payload : List Byte
  restart : Bool
deriving DecidableEq, Repr

/-- The port's condition with its buffers (R170): EXECUTING holds the request, ANSWERED the response. -/
inductive Port where
  | starting
  | idle
  | executing (request : Instr)
  | answered (response : Response)
deriving DecidableEq, Repr

/-- The last status (R175). -/
structure LastStatus where
  status : Status
  code : Nat
  station : Nat
deriving DecidableEq, Repr

/-! ## The retained store and the supply (R182, R183, R186) -/

/-- The causes of a reset (R183). -/
inductive ResetCause where
  | powerOn
  | resetPin
  | restartRequest
deriving DecidableEq, Repr

/-- The restart record (R182): the restart count and the carried failures, a set of tables numbered as R191 does. -/
structure RestartRecord where
  count : BitVec 16
  carried : BitVec 6
deriving DecidableEq, Repr

/-! ## The whole state -/

/-- The state of the part. -/
structure State where
  /-- The commands that wait, first in, first out: the model's own. -/
  pending : List Instr
  -- retained tables (R182)
  yardMap : YardMap
  products : List Product
  packs : Table Pack
  settings : YardSettings
  lineSettings : List LineSetting
  restartRecord : RestartRecord
  /-- The retained tables whose check word does not match, numbered as R191 does (R182; log 6). -/
  badTables : BitVec 6
  /-- Raises of the restart count that no start-up check has come to make yet (log 7). -/
  owedRaises : Nat
  -- volatile records
  orders : Table Order
  queue : List Nat
  engine : Engine
  tasks : List Task
  stations : List Station
  lines : List LineLive
  raining : Bool
  /-- The stack the running wetting sweep has come to (R152). -/
  sweep : Option (Nat × Nat)
  sweepPending : Bool
  mode : YardMode
  watches : List Watch
  summary : BitVec 19
  enables : BitVec 19
  /-- ATTN is asserted (R166). -/
  attn : Bool
  port : Port
  lastStatus : Option LastStatus
  overrunNoted : Bool
  /-- A CLEAR_YARD runs (R54). -/
  clearing : Bool
  -- resets and the supply
  cause : ResetCause
  failedTables : BitVec 6
  supply : SupplyStatus
  dipNoted : Bool
  /-- The supply stands below the reset level (R183). -/
  supplyOff : Bool
  /-- RESET is held low (R183). -/
  resetHeld : Bool
  -- pins
  /-- The levels of the sixteen line pins, 1 for high (R144). -/
  pins : BitVec 16
  /-- The bytes clocked out on MISO in the last period (R169, R170; log 11). -/
  miso : List Byte
deriving DecidableEq, Repr

/-- The reasons a step could stop with a fault. There is none: the spec gives the part no state in which it stops on
an event, and answers every request with a status code. Nobody raises one; this is neither safe nor unsafe. -/
inductive Fault where
deriving DecidableEq, Repr

/-- The reasons a step could be refused. -/
inductive Refusal where
  /-- Raised by `exec` alone, for a command without a meaning yet. No arm raises it now. Safe: the model stops where
  the part goes on. -/
  | notModelled (mnemonic : String)
deriving DecidableEq, Repr

/-- The outcome of a command. -/
abbrev Out := Host.Outcome State Fault Refusal

/-- The engine after reset (R82). -/
def Engine.default : Engine := ⟨.idle, none, none, none, false, 0#16⟩

/-- The part right after reset: a power-on reset whose start-up check has ended, of a part whose store held nothing
before it (R16, R29, R56, R82, R94, R142, R143, R147, R155, R159, R164, R165, R180, R184; log 5). Every retained
table stands at its defaults and is named as failed, and the summary holds RESTARTED and STORE_LOST. -/
def State.reset : State where
  pending := []
  yardMap := YardMap.default
  products := List.replicate 256 Product.default
  packs := []
  settings := YardSettings.default
  lineSettings := List.replicate 7 lineDefault
  restartRecord := ⟨0#16, 0#6⟩
  badTables := 0#6
  owedRaises := 0
  orders := []
  queue := []
  engine := Engine.default
  tasks := []
  stations := List.replicate 8 Station.default
  lines := List.replicate 7 ⟨false, none⟩
  raining := false
  sweep := none
  sweepPending := false
  mode := .closed
  watches := List.replicate 4 Watch.default
  summary := 0x60000#19
  enables := 0x7FFFF#19
  attn := true
  port := .idle
  lastStatus := none
  overrunNoted := false
  clearing := false
  cause := .powerOn
  failedTables := 0x3F#6
  supply := .sound
  dipNoted := false
  supplyOff := false
  resetHeld := false
  pins := 0#16
  miso := []

end Sys2Proof.Machine
end

