-- ==== Sys2Proof/Machine/Table.lean ====
section
/-!
DEFINITION. The operations on tables keyed by a number, and the small list operations the machine uses: sorting by
insertion, the least element by an order, and the lowest free number. All are structurally recursive.
-/

namespace Sys2Proof.Machine

variable {α : Type}

/-- The record under a key. -/
def Table.get : Table α → Nat → Option α
  | [], _ => none
  | (k', v) :: t, k => if k' = k then some v else Table.get t k

/-- The table holds a record under the key. -/
def Table.has (t : Table α) (k : Nat) : Bool := (Table.get t k).isSome

/-- Puts a record under a key at its place among rising keys, in place of a record already there. -/
def Table.put : Table α → Nat → α → Table α
  | [], k, v => [(k, v)]
  | (k', v') :: t, k, v =>
    if k < k' then (k, v) :: (k', v') :: t
    else if k = k' then (k, v) :: t
    else (k', v') :: Table.put t k v

/-- Takes the record under a key out of the table. -/
def Table.erase (t : Table α) (k : Nat) : Table α := t.filter fun e => decide (e.1 ≠ k)

/-- Changes every record by a function of its key and itself; the keys stand. -/
def Table.change (t : Table α) (f : Nat → α → α) : Table α := t.map fun e => (e.1, f e.1 e.2)

/-- Changes the record under a key, if there is one. -/
def Table.update (t : Table α) (k : Nat) (f : α → α) : Table α :=
  Table.change t fun k' v => if k' = k then f v else v

/-- The keys of a table. -/
def Table.keys (t : Table α) : List Nat := t.map Prod.fst

/-- The keys rise strictly: no key stands twice (R32, R60). -/
abbrev Table.rising (t : Table α) : Prop := t.Pairwise fun a b => a.1 < b.1

/-- Puts an element into a list before the first one it comes before. -/
def insertBy (before : α → α → Bool) (x : α) : List α → List α
  | [] => [x]
  | y :: ys => if before x y then x :: y :: ys else y :: insertBy before x ys

/-- Sorts a list by insertion. -/
def sortBy (before : α → α → Bool) (l : List α) : List α := l.foldr (insertBy before) []

/-- The first element of a list that no other comes before. -/
def firstBy (before : α → α → Bool) : List α → Option α
  | [] => none
  | x :: xs =>
    match firstBy before xs with
    | none => some x
    | some y => if before y x then some y else some x

/-- The lowest number from `n` on, within `fuel` numbers, that the list lacks. -/
def lowestFree (used : List Nat) : (fuel n : Nat) → Nat
  | 0, n => n
  | fuel + 1, n => if n ∈ used then lowestFree used fuel (n + 1) else n

/-- Puts a number into a rising list, once. -/
def insertNat (n : Nat) : List Nat → List Nat
  | [] => [n]
  | m :: ms => if n < m then n :: m :: ms else if n = m then m :: ms else m :: insertNat n ms

/-- The numbers of two lists, each once, rising. -/
def mergeNats (a b : List Nat) : List Nat := a.foldr insertNat (b.foldr insertNat [])

/-- The place of an element in a list, counting from 0. -/
def placeOf (x : Nat) : List Nat → Option Nat
  | [] => none
  | y :: ys => if y = x then some 0 else (placeOf x ys).map (· + 1)

end Sys2Proof.Machine
end

