-- ==== Sys2Proof/Machine/Flags.lean ====
section
/-!
DEFINITION. The flags of the part: the event summary, its enable set and the attention pin (R164 to R167), the STARVED
flags and the clear-seen mark (R70, R87, R88), and the numbers of named values on the wire (R164, R176, R191).
-/

namespace Sys2Proof.Machine

/-! ## Event kinds and the attention pin -/

/-- The nineteen event kinds (R164). -/
inductive EventKind where
  | orderComplete
  | lineStarved
  | proposalReady
  | proposalExpired
  | reservationTaken
  | taskLapsed
  | stationLost
  | carryOverdue
  | packMissing
  | pointVacated
  | watchHit
  | rainChange
  | gateArrival
  | yardClosed
  | tableFull
  | supplyDip
  | portOverrun
  | restarted
  | storeLost
deriving DecidableEq, Repr

/-- The number of a kind (R164). -/
def EventKind.number : EventKind → Nat
  | .orderComplete => 0
  | .lineStarved => 1
  | .proposalReady => 2
  | .proposalExpired => 3
  | .reservationTaken => 4
  | .taskLapsed => 5
  | .stationLost => 6
  | .carryOverdue => 7
  | .packMissing => 8
  | .pointVacated => 9
  | .watchHit => 10
  | .rainChange => 11
  | .gateArrival => 12
  | .yardClosed => 13
  | .tableFull => 14
  | .supplyDip => 15
  | .portOverrun => 16
  | .restarted => 17
  | .storeLost => 18

/-- The kind's bit in the summary and in the enable set (R195). -/
def EventKind.bit (k : EventKind) : BitVec 19 := BitVec.twoPow 19 k.number

/-- The summary holds the kind. -/
def State.holds (s : State) (k : EventKind) : Bool := s.summary.getLsbD k.number

/-- The summary holds an enabled kind: what the attention pin stands for (R166, law 11). -/
def State.wantsAttention (s : State) : Bool := decide (s.summary &&& s.enables ≠ 0#19)

/-- Drives the pin as R166 gives, after a change of the summary or the enable set. -/
def driveAttn (s : State) : State := { s with attn := s.wantsAttention }

/-- Posts a kind: adds it to the summary, which holds it once, and drives the pin (R164, R166). -/
def post (k : EventKind) (s : State) : State := driveAttn { s with summary := s.summary ||| k.bit }

/-- Posts a kind when a condition holds. -/
def postIf (c : Bool) (k : EventKind) (s : State) : State := if c then post k s else s

/-- Empties the summary, which releases the pin (R167). -/
def emptySummary (s : State) : State := driveAttn { s with summary := 0#19 }

/-! ## STARVED and the clear-seen mark -/

/-- The engine is in FIRST_PASS, SECOND_PASS or WAITING (R88). -/
def Engine.scanning (e : Engine) : Bool := decide (e.state ≠ .idle)

/-- Sets the clear-seen mark where a scan is under way (R88). -/
def markClearSeen (s : State) : State :=
  if s.engine.scanning then { s with engine := { s.engine with clearSeen := true } } else s

/-- The order with every line's STARVED flag clear. -/
def Order.unstarved (o : Order) : Order := { o with lines := o.lines.map fun l => { l with starved := false } }

/-- An event of R87: clears the STARVED flag of every line of every order, and sets the clear-seen mark in a scan. -/
def clearStarved (s : State) : State :=
  markClearSeen { s with orders := Table.change s.orders fun _ o => o.unstarved }

/-! ## Named values as numbers -/

/-- The number of a status code (R176). -/
def statusNumber : Status → Nat
  | .ok => 0
  | .badFrame => 1
  | .unknownRequest => 2
  | .badField => 3
  | .notFound => 4
  | .wrongState => 5
  | .tableFull => 6
  | .duplicate => 7
  | .inUse => 8
  | .buriesReserved => 9
  | .stackFull => 10
  | .notOnTop => 11
  | .busyPack => 12
  | .wrongPack => 13
  | .taskWithdrawn => 14
  | .noTruck => 15
  | .pointTaken => 16
  | .stale => 17
  | .mode => 18
  | .powerLow => 19

/-- The number of a pack state (R160, R191). -/
def packStateNumber : PackState → Nat
  | .stored => 1
  | .reserved => 2
  | .moving => 3
  | .lifted => 4
  | .loaded => 5
  | .held => 6

/-- The number of a hold reason (R160, R191). -/
def holdReasonNumber : HoldReason → Nat
  | .damaged => 1
  | .missing => 2
  | .lostInTransit => 3
  | .loadedUnconfirmed => 4

/-- The number of an order state (R191). -/
def orderStateNumber : OrderState → Nat
  | .queued => 1
  | .atPoint => 2
  | .complete => 3

/-- The number of a task kind (R191). -/
def taskKindNumber : TaskKind → Nat
  | .fetch _ => 1
  | .shift _ => 2
  | .giveBack => 3

/-- The number of a task state (R191). -/
def taskStateNumber : TaskState → Nat
  | .opened => 1
  | .offered => 2
  | .accepted => 3
  | .lifted => 4

/-- The number of a station state (R191). -/
def stationStateNumber : StationState → Nat
  | .offShift => 0
  | .idle => 1
  | .offered => 2
  | .busy => 3

/-- The number of an engine state (R191). -/
def engineStateNumber : EngineState → Nat
  | .idle => 0
  | .firstPass => 1
  | .secondPass => 2
  | .waiting => 3

/-- The number of a yard mode (R191). -/
def yardModeNumber : YardMode → Nat
  | .opened => 0
  | .closing => 1
  | .closed => 2

/-- The number of a reset cause (R191). -/
def resetCauseNumber : ResetCause → Nat
  | .powerOn => 0
  | .resetPin => 1
  | .restartRequest => 2

/-- The number of a supply status (R191). -/
def supplyNumber : SupplyStatus → Nat
  | .sound => 0
  | .low => 1

/-- The number of a watch field (R191). -/
def watchFieldNumber : WatchField → Nat
  | .product => 0
  | .state => 1
  | .bay => 2
  | .holdReason => 3

end Sys2Proof.Machine
end

