-- ==== Sys2Proof/Machine/Operands.lean ====
section
/-!
DEFINITION. The ranges of the operands of requests (00_scope.md "Ranges": a value outside its stated range is refused
with BAD_FIELD), and the pieces replies are laid out from (R189).
-/

namespace Sys2Proof.Machine

/-! ## Ranges -/

/-- The number lies from `a` to `b`, both included. -/
abbrev inRange (a b n : Nat) : Prop := a ≤ n ∧ n ≤ b

/-- A tag, 1 to 16,777,215. -/
abbrev tagOk (tag : Nat) : Prop := inRange 1 Config.maxTag tag

/-- An order handle, 1 to 32. -/
abbrev handleOk (h : Nat) : Prop := inRange 1 32 h

/-- A task number, 1 to 48. -/
abbrev taskOk (n : Nat) : Prop := inRange 1 48 n

/-- A product code that may be defined, 1 to 255. -/
abbrev codeOk (c : Nat) : Prop := inRange 1 255 c

/-- The fields of SET_BAY (R12 check 1). -/
abbrev bayFieldsOk (bay row col stackCount tierLimit : Nat) : Prop :=
  bay ≤ 63 ∧ row ≤ 15 ∧ col ≤ 15 ∧ inRange 1 8 stackCount ∧ inRange 1 6 tierLimit

/-- The fields of SET_LOADING_POINT (R15). -/
abbrev pointWriteOk (w : PointWrite) : Prop := inRange 1 4 w.point ∧ w.row ≤ 15 ∧ w.col ≤ 15

/-- The fields of SET_LINE (R146): the auto-open mark stands with line 0 and with no other. -/
abbrev lineWriteOk (w : LineWrite) : Prop :=
  w.line ≤ 6 ∧ w.setting.source ≤ 3 ∧ w.setting.debounce ≤ 2550 ∧ w.setting.debounce % 10 = 0 ∧
    (w.line = 0 ↔ w.autoOpen.isSome)

/-- The four timer settings (R141). -/
abbrev timersOk (w : TimerSettings) : Prop :=
  inRange 5 120 w.offer ∧ inRange 60 1800 w.lift ∧ inRange 60 3600 w.carry ∧ inRange 10 600 w.proposal

/-- The four weights (R94). -/
abbrev weightsOk (w : Weights) : Prop := w.dig ≤ 15 ∧ w.distance ≤ 15 ∧ w.age ≤ 15 ∧ w.substitution ≤ 15

/-- The fields of a product (R17). -/
abbrev productFieldsOk (f : ProductFields) : Prop :=
  f.species ≤ 15 ∧ f.grade ≤ 7 ∧ inRange 12 300 f.thickness ∧ inRange 50 300 f.width ∧ f.airDryDays ≤ 365

/-- A yard window (R59, R63). -/
abbrev windowOk (w : YardWindow) : Prop :=
  w.rowMin ≤ w.rowMax ∧ w.rowMax ≤ 15 ∧ w.colMin ≤ w.colMax ∧ w.colMax ≤ 15

/-- The yard window of a line, if it has one, is in range. -/
def optWindowOk : Option YardWindow → Bool
  | none => true
  | some w => decide (windowOk w)

/-- A line of CHECK_IN, but for its product's being defined (R63 check 1). -/
def lineItemOk (l : LineItem) : Bool :=
  decide (codeOk l.product ∧ inRange 1 24 l.quantity ∧ inRange 10 90 l.low ∧ inRange 10 90 l.high ∧
    l.low ≤ l.high ∧ l.digLimit ≤ 5) && optWindowOk l.window

/-! ## Replies -/

/-- A number in one byte. -/
def be1 (n : Nat) : List Byte := [byte n]

/-- An optional field of `n` bytes: absent, its bytes are 0 (R189). -/
def orZeros {α : Type} (n : Nat) (f : α → List Byte) : Option α → List Byte
  | none => List.replicate n 0#8
  | some a => f a

/-- A location in three bytes. -/
def locationBytes (l : Location) : List Byte := [byte l.bay, byte l.stack, byte l.tier]

/-- A presence byte (R189). -/
def presence (bits : List Bool) : List Byte := [bitsByte bits]

/-- The event summary or the enable set in three bytes (R195). -/
def setBytes (e : BitVec 19) : List Byte := be3 e.toNat

end Sys2Proof.Machine
end

