-- ==== Sys2Proof/Machine/Ops.lean ====
section
/-!
DEFINITION. The shared operations of the part: taking a request at the port and answering it (R171, R172, R174, R175),
the questions the Yard Map and the Product Table answer (R4, R11, R20 to R22), put-downs and removals (R6 to R8), the
watch comparisons of a claim (R161, R162), the counters of an order (R66, R67), the retirement and withdrawal of tasks
(R117, R139), the wetting of a stack (R152, R154), the choice of a suggested destination (R123), and the judgement of
CLOSING (R157).
-/

namespace Sys2Proof.Machine

/-! ## Stopped, running, low -/

/-- The part is stopped (R183). -/
def State.stopped (s : State) : Bool := s.supplyOff || s.resetHeld

/-- The part is neither stopped nor in a start-up check: its blocks work. -/
def State.running (s : State) : Bool := !s.stopped && decide (s.port ≠ .starting)

/-- The supply status is low (R186). -/
def State.low (s : State) : Bool := decide (s.supply = .low)

/-! ## Requests and responses -/

/-- What the owning block answers: a status code, the reply, and the state it leaves (R172 step 4). -/
structure Answer where
  status : Status
  reply : List Byte
  state : State

/-- The request is taken. -/
def taken (reply : List Byte) (s : State) : Answer := ⟨.ok, reply, s⟩

/-- The request is refused. -/
def refuse (status : Status) (s : State) : Answer := ⟨status, [], s⟩

/-- Places a response in the response buffer, and sets the last status when the status is not OK (R172, R175). The
payload is the reply when the status is OK, and empty otherwise. -/
def respondAs (code station : Nat) (restart : Bool) (status : Status) (reply : List Byte) (s : State) : State :=
  if status = .ok then { s with port := .answered ⟨code, .ok, reply, restart⟩ }
  else { s with port := .answered ⟨code, status, [], false⟩, lastStatus := some ⟨status, code, station⟩ }

/-- Places the response to a request. A taken RESTART marks its response (R179). -/
def respond (c : Instr) (a : Answer) : State :=
  respondAs c.requestCode c.stationField (decide (c = .restart)) a.status a.reply a.state

/-- The port becomes EXECUTING with the request in its buffer; a request of families 1 to 7 makes the last status
absent (R172, R175). -/
def beginRequest (c : Instr) (s : State) : State :=
  { s with
    port := .executing c
    lastStatus := if familyOf c.requestCode = 0 then s.lastStatus else none }

/-- How a request row meets the port. EXECUTING with this request in the buffer, it is the owning block's taking of
it (R172 step 4). At an IDLE or ANSWERED port it stands for its whole exchange, the release of its period with it: an
unread response is discarded with PORT_OVERRUN (R174). Otherwise its period is ignored (R174). See log 1. -/
def intake (c : Instr) (k : State → State) (s : State) : State :=
  if s.stopped then s
  else
    match s.port with
    | .starting => { s with overrunNoted := true }
    | .idle => k (beginRequest c s)
    | .answered _ => k (beginRequest c (post .portOverrun s))
    | .executing r => if r = c ∧ s.clearing = false then k s else post .portOverrun s

/-- The request in the hands of its owning block: the station check of R172 step 2, then the block, then the
response. -/
def takeRequest (c : Instr) (block : State → Answer) (s : State) : State :=
  if stationAllowed (familyOf c.requestCode) c.stationField = true then respond c (block s)
  else respond c (refuse .badField s)

/-- A request row: the request is taken whole and answered. -/
def serve (c : Instr) (block : State → Answer) (s : State) : Out := .next (intake c (takeRequest c block) s)

/-! ## Lists numbered from 1 -/

/-- The element numbered `n`, from 1. -/
def nth {α : Type} (l : List α) (n : Nat) : Option α := if n = 0 then none else l[n - 1]?

/-- Changes the element numbered `n`, from 1. -/
def changeNth {α : Type} (l : List α) (n : Nat) (f : α → α) : List α := if n = 0 then l else l.modify (n - 1) f

/-! ## The yard map (R4, R5, R11) -/

/-- The entry of a bay. -/
def State.bay (s : State) (b : Nat) : Bay := s.yardMap.bays.getD b (Bay.default b)

/-- The record of a loading point. -/
def State.pointAt (s : State) (p : Nat) : Point := (nth s.yardMap.points p).getD ⟨15, 0⟩

/-- The difference of two numbers without sign. -/
def apart (a b : Nat) : Nat := (a - b) + (b - a)

/-- The grid distance between two places (R4). -/
def gridDistance (r1 c1 r2 c2 : Nat) : Nat := apart r1 r2 + apart c1 c2

/-- The distance between two bays (R4). -/
def bayDistance (s : State) (a b : Nat) : Nat :=
  gridDistance (s.bay a).row (s.bay a).col (s.bay b).row (s.bay b).col

/-- The distance between a bay and a loading point (R4). -/
def pointDistance (s : State) (b p : Nat) : Nat :=
  gridDistance (s.bay b).row (s.bay b).col (s.pointAt p).row (s.pointAt p).col

/-- The distance from a bay to an order's loading point, or to the default one (R11). -/
def orderDistance (s : State) (b : Nat) (o : Order) : Nat := pointDistance s b (o.point.getD s.yardMap.defaultPoint)

/-- The pack stands in the stack. -/
def Pack.inStack (b k : Nat) (p : Pack) : Bool :=
  match p.location with
  | none => false
  | some l => decide (l.bay = b ∧ l.stack = k)

/-- The pack stands in the bay. -/
def Pack.inBay (b : Nat) (p : Pack) : Bool :=
  match p.location with
  | none => false
  | some l => decide (l.bay = b)

/-- The tier a pack stands at. -/
def Pack.tier (p : Pack) : Nat :=
  match p.location with
  | none => 0
  | some l => l.tier

/-- The stack list of a stack, bottom first (R5): the packs whose location names it, by tier. -/
def stackList (s : State) (b k : Nat) : Table Pack :=
  sortBy (fun x y => decide (x.2.tier < y.2.tier)) (s.packs.filter fun e => e.2.inStack b k)

/-- The height of a stack (R5). -/
def height (s : State) (b k : Nat) : Nat := (stackList s b k).length

/-- The top pack of a stack (R5, R11). -/
def topPack (s : State) (b k : Nat) : Option Nat := ((stackList s b k).getLast?).map Prod.fst

/-- The stack holds a RESERVED pack (R11). -/
def holdsReserved (s : State) (b k : Nat) : Bool :=
  (stackList s b k).any fun e => decide (e.2.state = .reserved)

/-- The packs above a pack, from the one directly above it to the top (R11). -/
def packsAbove (s : State) (tag : Nat) : Table Pack :=
  match (Table.get s.packs tag).bind Pack.location with
  | none => []
  | some l => (stackList s l.bay l.stack).filter fun e => decide (l.tier < e.2.tier)

/-- The dig of a pack (R5): the number of packs above it. -/
def dig (s : State) (tag : Nat) : Nat := (packsAbove s tag).length

/-- A MOVING pack stands above the pack (R120). -/
def movingAbove (s : State) (tag : Nat) : Bool := (packsAbove s tag).any fun e => decide (e.2.state = .moving)

/-! ## Put-downs and removals (R6 to R8) -/

/-- The checks of R6 on a put-down, first to last. `disabled` is how a disabled bay is answered: BAD_FIELD for
RECEIVE_PACK and MODE for every other put-down. -/
def putDownCheck (s : State) (b k : Nat) (disabled : Status) : Option Status :=
  if b > 63 ∨ ¬ k < (s.bay b).stackCount then some .badField
  else if (s.bay b).enabled = false then some disabled
  else if height s b k = (s.bay b).tierLimit then some .stackFull
  else if holdsReserved s b k = true then some .buriesReserved
  else none

/-- It is raining and the bay is not covered: a pack that comes to rest there is wetted (R153). -/
def rainsOn (s : State) (b : Nat) : Bool := s.raining && !(s.bay b).covered

/-- A pack above the given place settles by one tier (R8). -/
def Pack.settle (l : Location) (p : Pack) : Pack :=
  match p.location with
  | none => p
  | some m =>
    if m.bay = l.bay ∧ m.stack = l.stack ∧ l.tier < m.tier then
      { p with location := some { m with tier := m.tier - 1 } }
    else p

/-- Removes a pack from its stack: its location is cleared and the packs above it settle (R8). -/
def removeFromStack (tag : Nat) (s : State) : State :=
  match (Table.get s.packs tag).bind Pack.location with
  | none => s
  | some l =>
    { s with
      packs := Table.update (Table.change s.packs fun _ p => p.settle l) tag fun p => { p with location := none } }

/-- Puts a pack down on top of a stack, off the one it stands on if any, with the change of record its requester asks
for, and wets it where rain falls (R7, R9, R153). -/
def putDown (b k tag : Nat) (f : Pack → Pack) (s : State) : State :=
  { s with
    packs := Table.update (removeFromStack tag s).packs tag fun p =>
      { f p with
        location := some ⟨b, k, height (removeFromStack tag s) b k⟩
        wetted := p.wetted || rainsOn s b } }

/-- Retires a record: off its stack, and out of the table (R8, R52, R78). -/
def retirePack (tag : Nat) (s : State) : State :=
  { s with packs := Table.erase (removeFromStack tag s).packs tag }

/-- Changes one pack record in place. -/
def changePack (tag : Nat) (f : Pack → Pack) (s : State) : State := { s with packs := Table.update s.packs tag f }

/-- The record of a pack that becomes free: STORED, with no reservation, task or hold reason (R31). -/
def Pack.toStored (p : Pack) : Pack := { p with state := .stored, reservation := none, task := none, hold := none }

/-- The record of a pack that becomes HELD for a reason, with no reservation or task (R31). -/
def Pack.toHeld (why : HoldReason) (p : Pack) : Pack :=
  { p with state := .held, reservation := none, task := none, hold := some why }

/-! ## Product chains (R34) -/

/-- The order of a chain: received day, then tag (R34). -/
def chainBefore (x y : Nat × Pack) : Bool :=
  decide (x.2.received < y.2.received ∨ (x.2.received = y.2.received ∧ x.1 < y.1))

/-- The chain of a product: its located packs in age order (R34). -/
def chain (s : State) (code : Nat) : Table Pack :=
  sortBy chainBefore (s.packs.filter fun e => decide (e.2.product = code) && e.2.location.isSome)

/-! ## Products (R20 to R22) -/

/-- The entry of a product code. -/
def State.product (s : State) (code : Nat) : Product := s.products.getD code Product.default

/-- A listing of `q` in the substitute list of `p` is sound (R20). -/
def sound (p q : Product) : Bool :=
  p.defined && q.defined &&
    decide (q.fields.species = p.fields.species ∧ q.fields.thickness = p.fields.thickness ∧
      q.fields.width = p.fields.width ∧ p.fields.grade ≤ q.fields.grade)

/-- The substitute position at which a pack of product `q` may serve a line (R21), or nothing. -/
def servingPosition (s : State) (item : LineItem) (q : Nat) : Option Nat :=
  if q = item.product then some 0
  else if item.substitution then (placeOf q (s.product item.product).substitutes).map (· + 1)
  else none

/-- The drying rule of the requested product, for a pack (R22). -/
def dryEnough (s : State) (item : LineItem) (p : Pack) : Bool :=
  if (s.product item.product).fields.needsKiln then
    match p.drying with
    | .kiln => !p.wetted
    | .air _ => false
  else
    match p.drying with
    | .kiln => true
    | .air ready => decide (ready ≤ s.settings.yardDay)

/-- A live pack record or a line of a live order names the code (R24 check 3). -/
def productInUse (s : State) (code : Nat) : Bool :=
  (s.packs.any fun e => decide (e.2.product = code)) ||
    (s.orders.any fun e => e.2.lines.any fun l => decide (l.item.product = code))

/-! ## Orders (R60 to R68) -/

/-- The live order under a handle. -/
def State.order (s : State) (h : Nat) : Option Order := Table.get s.orders h

/-- The order line a reference names. -/
def State.orderLine (s : State) (r : LineRef) : Option OrderLine := (s.order r.handle).bind fun o => nth o.lines r.line

/-- The remaining mass budget (R67). -/
def Order.budget (o : Order) : Nat := o.payload - o.committed

/-- The queue position of an order, from 1 (R62). -/
def queuePosition (s : State) (h : Nat) : Nat :=
  match placeOf h s.queue with
  | none => 0
  | some n => n + 1

/-- Changes an order record. -/
def changeOrder (h : Nat) (f : Order → Order) (s : State) : State := { s with orders := Table.update s.orders h f }

/-- Changes one line of an order. -/
def Order.changeLine (n : Nat) (f : OrderLine → OrderLine) (o : Order) : Order :=
  { o with lines := changeNth o.lines n f }

/-- A reservation raises the line's allocated count and the order's committed mass (R66, R67). -/
def raiseCounts (r : LineRef) (mass : Nat) (s : State) : State :=
  changeOrder r.handle
    (fun o => { o.changeLine r.line (fun l => { l with allocated := l.allocated + 1 }) with
      committed := o.committed + mass }) s

/-- A release lowers the line's allocated count and the order's committed mass (R66, R67). -/
def lowerCounts (r : LineRef) (mass : Nat) (s : State) : State :=
  changeOrder r.handle
    (fun o => { o.changeLine r.line (fun l => { l with allocated := l.allocated - 1 }) with
      committed := o.committed - mass }) s

/-- A line is wholly loaded. -/
def OrderLine.full (l : OrderLine) : Bool := decide (l.loaded = l.item.quantity)

/-- The deck line: the lowest numbered line whose loaded count is below its quantity (R68). -/
def Order.deckLine (o : Order) : Option Nat :=
  (o.lines.findIdx? fun l => decide (l.loaded < l.item.quantity)).map (· + 1)

/-- A pack whose reservation names the order is LIFTED (R73, R74). -/
def orderHasLifted (s : State) (h : Nat) : Bool :=
  s.packs.any fun e => decide (e.2.state = .lifted ∧ e.2.reservation.map LineRef.handle = some h)

/-! ## Yard lines (R143, R149, R150) -/

/-- The live state of a line. -/
def lineActive (s : State) (k : Nat) : Bool := (s.lines.getD k ⟨false, none⟩).active

/-- GATE is active. -/
def gateActive (s : State) : Bool := lineActive s 0

/-- The halt: HALT is active (R150). -/
def halted (s : State) : Bool := lineActive s 2

/-- The presence line of a loading point is active (R149): point p has line p + 2. -/
def pointActive (s : State) (p : Nat) : Bool := lineActive s (p + 2)

/-! ## Tasks and stations (R116 to R119) -/

/-- The live task with a number. -/
def State.task (s : State) (n : Nat) : Option Task := s.tasks.find? fun t => decide (t.number = n)

/-- The task a station holds (R119). -/
def heldTask (s : State) (n : Nat) : Option Task := s.tasks.find? fun t => decide (t.station = some n)

/-- The task is a FETCH. -/
def Task.isFetch (t : Task) : Bool :=
  match t.kind with
  | .fetch _ => true
  | .shift _ => false
  | .giveBack => false

/-- The FETCH task of a pack. -/
def fetchOf (s : State) (tag : Nat) : Option Task :=
  s.tasks.find? fun t => decide (t.subject = tag) && t.isFetch

/-- The live task whose subject is the pack. -/
def taskOn (s : State) (tag : Nat) : Option Task := s.tasks.find? fun t => decide (t.subject = tag)

/-- The free count of the pool (R117). -/
def freeTasks (s : State) : Nat := Config.taskCapacity - s.tasks.length

/-- The lowest free task number (R117). -/
def freeTaskNumber (s : State) : Nat := lowestFree (s.tasks.map Task.number) Config.taskCapacity 1

/-- A new task joins the tail of the creation list (R117). -/
def addTask (t : Task) (s : State) : State := { s with tasks := s.tasks ++ [t] }

/-- Changes a task record. -/
def changeTask (n : Nat) (f : Task → Task) (s : State) : State :=
  { s with tasks := s.tasks.map fun t => if t.number = n then f t else t }

/-- The station record with a number. -/
def State.station (s : State) (n : Nat) : Option Station := nth s.stations n

/-- Changes a station record. -/
def changeStation (n : Nat) (f : Station → Station) (s : State) : State :=
  { s with stations := changeNth s.stations n f }

/-- The task returned to OPEN (R116): station, deadline, suggested destination and alarm become absent. -/
def Task.toOpen (lapsed : Option Nat) (t : Task) : Task :=
  { t with state := .opened, station := none, suggested := none, deadline := none, alarm := none, lapsed := lapsed }

/-- Takes a task out of the pool; a task retiring clears every STARVED flag (R87, R117). -/
def retireTask (n : Nat) (s : State) : State :=
  clearStarved { s with tasks := s.tasks.filter fun t => decide (t.number ≠ n) }

/-- The station that held a withdrawn task becomes IDLE with notice WITHDRAWN (R139). -/
def dismiss (station : Option Nat) (s : State) : State :=
  match station with
  | none => s
  | some n => changeStation n (fun st => { st with state := .idle, notice := true }) s

/-- Withdraws a task: its station is dismissed and the task retires (R139). -/
def withdraw (t : Task) (s : State) : State := retireTask t.number (dismiss t.station s)

/-! ## Release of a reservation (R139) -/

/-- The SHIFT tasks that serve a pack and are not LIFTED. -/
def shiftsToWithdraw (s : State) (tag : Nat) : List Task :=
  s.tasks.filter fun t => decide (t.kind = .shift tag ∧ t.state ≠ .lifted)

/-- Withdraws a SHIFT: its MOVING pack becomes STORED in place (R139, R41). -/
def withdrawShift (s : State) (t : Task) : State := changePack t.subject Pack.toStored (withdraw t s)

/-- The SHIFT tasks of a released pack are withdrawn; one already LIFTED runs to its drop (R139). -/
def releaseShifts (tag : Nat) (s : State) : State := (shiftsToWithdraw s tag).foldl withdrawShift s

/-- The counts of the line a pack was reserved for fall (R66, R67). -/
def lowerCountsOf (p : Pack) (s : State) : State :=
  match p.reservation with
  | none => s
  | some r => lowerCounts r p.mass s

/-- Releases the reservation of a pack at rest: its SHIFT tasks and its FETCH are withdrawn, its line's counts fall,
and its record becomes what `after` makes of it (R139). -/
def releaseAtRest (tag : Nat) (after : Pack → Pack) (s : State) : State :=
  match Table.get s.packs tag with
  | none => s
  | some p =>
    let s1 := releaseShifts tag s
    let s2 := match fetchOf s1 tag with
      | none => s1
      | some t => withdraw t s1
    changePack tag after (lowerCountsOf p s2)

/-! ## Suggested destinations (R123) -/

/-- Every stack of every bay, in order of bay number and stack number. -/
def allStacks (s : State) : List (Nat × Nat) :=
  (List.range Config.bayCount).flatMap fun b => (List.range (s.bay b).stackCount).map fun k => (b, k)

/-- A stack meets the conditions of R123 for a subject that stands at `at_`, if anywhere. -/
def suggestible (s : State) (at_ : Option Location) (bk : Nat × Nat) : Bool :=
  (s.bay bk.1).enabled && decide (height s bk.1 bk.2 < (s.bay bk.1).tierLimit) &&
    decide (at_.map (fun l => (l.bay, l.stack)) ≠ some bk) && !holdsReserved s bk.1 bk.2

/-- The suggested destination from a reference bay (R11, R123): the first suggestible stack in nearest order. -/
def suggest (s : State) (ref : Nat) (at_ : Option Location) : Option (Nat × Nat) :=
  firstBy (fun x y => decide (bayDistance s ref x.1 < bayDistance s ref y.1))
    ((allStacks s).filter (suggestible s at_))

/-- The suggested destination from the station's last bay, for a subject on its forks (R123). A station that has
lifted a pack has a last bay (R131); without one there is no suggestion (log 20). -/
def suggestFromStation (s : State) (station : Option Nat) : Option (Nat × Nat) :=
  match (station.bind s.station).bind Station.lastBay with
  | none => none
  | some b => suggest s b none

/-- Releases the reservation of a LIFTED pack: its FETCH becomes a RETURN held by the same station, which receives
the notice WITHDRAWN, and the reservation is cleared (R139). -/
def releaseLifted (tag : Nat) (s : State) : State :=
  match Table.get s.packs tag with
  | none => s
  | some p =>
    let s1 := releaseShifts tag s
    let s2 := match fetchOf s1 tag with
      | none => s1
      | some t =>
        let s3 := changeTask t.number
          (fun u => { u with kind := .giveBack, suggested := suggestFromStation s1 t.station }) s1
        match t.station with
        | none => s3
        | some n => changeStation n (fun st => { st with notice := true }) s3
    changePack tag (fun q => { q with reservation := none }) (lowerCountsOf p s2)

/-! ## Watches (R160 to R162) -/

/-- The watch value of a field of a live record, or nothing (R160). -/
def watchValue (f : WatchField) (p : Pack) : Option (BitVec 8) :=
  match f with
  | .product => some (BitVec.ofNat 8 p.product)
  | .state => some (BitVec.ofNat 8 (packStateNumber p.state))
  | .bay => p.location.map fun l => BitVec.ofNat 8 l.bay
  | .holdReason => p.hold.map fun h => BitVec.ofNat 8 (holdReasonNumber h)

/-- The watch value before a change: a record not yet born has none (R161). -/
def valueBefore (f : WatchField) (p : Option Pack) : Option (BitVec 8) := p.bind (watchValue f)

/-- The watch value after a change: a retired record has value 7 in STATE and none in the other fields (R161). -/
def valueAfter (f : WatchField) (p : Option Pack) : Option (BitVec 8) :=
  match p with
  | none => if f = .state then some 7#8 else none
  | some q => watchValue f q

/-- A watch value agrees with the entry in the bits its mask selects; no value matches no entry (R160). -/
def Watch.agrees (w : Watch) (v : Option (BitVec 8)) : Bool :=
  match v with
  | none => false
  | some x => decide (x &&& w.mask = w.value &&& w.mask)

/-- The entry hits at a change (R161). -/
def Watch.hitBy (w : Watch) (before after : Option Pack) : Bool :=
  w.armed && w.agrees (valueAfter w.field after) && !w.agrees (valueBefore w.field before)

/-- What a hit makes of an entry (R161). -/
def Watch.hit (tag : Nat) (w : Watch) : Watch :=
  { w with hits := min 255 (w.hits + 1), lastTag := some tag, armed := !w.oneShot }

/-- One change of one record, as the Watch Unit takes it (R161). -/
def observeChange (tag : Nat) (before after : Option Pack) (s : State) : State :=
  postIf (s.watches.any fun w => w.hitBy before after) .watchHit
    { s with watches := s.watches.map fun w => if w.hitBy before after then w.hit tag else w }

/-- The tags whose records differ between two tables, lowest first. -/
def changedTags (before after : Table Pack) : List Nat :=
  (mergeNats before.keys after.keys).filter fun t => decide (Table.get before t ≠ Table.get after t)

/-- The order in which the Watch Unit takes the changes of one claim: the record the claim names, then the others in
order of tag (R162). -/
def changeOrderOf (named : Option Nat) (tags : List Nat) : List Nat :=
  match named with
  | none => tags
  | some t => if t ∈ tags then t :: tags.filter (fun u => decide (u ≠ t)) else tags

/-- The comparisons of one claim, made against the table as it stood before it (R38, R161, R162). Each record the
claim altered is one change, with the claim's whole effect on it (log 13). -/
def observe (named : Option Nat) (before : Table Pack) (s : State) : State :=
  (changeOrderOf named (changedTags before s.packs)).foldl
    (fun u t => observeChange t (Table.get before t) (Table.get s.packs t) u) s

/-! ## Yard modes (R157) -/

/-- A station taken off shift (R126, R136, R157). -/
def Station.offShift (st : Station) : Station := { st with state := .offShift, capacity := none }

/-- The judgement of CLOSING: with no order and no task live the mode leaves CLOSING (R157). -/
def judgeClosing (s : State) : State :=
  if s.mode = .closing ∧ s.orders = [] ∧ s.tasks = [] then
    if s.settings.autoOpen ∧ gateActive s then post .gateArrival { s with mode := .opened }
    else post .yardClosed { s with mode := .closed, stations := s.stations.map Station.offShift }
  else s

/-- The end of a claim that may retire orders or tasks: the watch comparisons, then the judgement of CLOSING. -/
def endClaim (named : Option Nat) (before : Table Pack) (s : State) : State := judgeClosing (observe named before s)

/-! ## Wetting (R152 to R154) -/

/-- The pack's task is a FETCH in OPEN or OFFERED. -/
def fetchUntaken (s : State) (tag : Nat) : Bool :=
  match fetchOf s tag with
  | none => false
  | some t => decide (t.state = .opened ∨ t.state = .offered)

/-- The line a reservation names asks for a product that needs kiln. -/
def lineNeedsKiln (s : State) (r : LineRef) : Bool :=
  match s.orderLine r with
  | none => false
  | some l => (s.product l.item.product).fields.needsKiln

/-- The judgement of a wetted pack's reservation (R154). -/
def judgeWetted (s : State) (tag : Nat) : State :=
  match Table.get s.packs tag with
  | none => s
  | some p =>
    match p.state, p.reservation with
    | .reserved, some r =>
      if lineNeedsKiln s r = true ∧ fetchUntaken s tag = true then releaseAtRest tag Pack.toStored s else s
    | _, _ => s

/-- The wetting claim on one stack (R152, R154): every pack of the stack is wetted and its reservation judged. To the
Watch Unit the claim names no record, also where it releases a reservation (log 13). -/
def wetStack (s : State) (b k : Nat) : State :=
  let s1 := { s with
    packs := Table.change s.packs fun _ p => if p.inStack b k then { p with wetted := true } else p }
  endClaim none s.packs ((stackList s b k).keys.foldl judgeWetted s1)

/-- The wetting of an uncovered bay, stack by stack (R153). To the Watch Unit each stack is a claim of its own, as in
the sweep of R152, though one SET_BAY brings them all: the model's choice (log 13). -/
def wetBay (b : Nat) (s : State) : State :=
  (List.range (s.bay b).stackCount).foldl (fun u k => wetStack u b k) s

end Sys2Proof.Machine
end

