-- ==== Sys2Proof/Machine/Clock.lean ====
section
/-!
DEFINITION. One tick of 10 ms of the part's timers: the deadlines and carry alarms of tasks, which the halt stands
still (R135, R150), the proposal timers (R72, R111) and the debounce periods (R145), which it does not. The table has
no command for the passing of time; a step on an empty queue is a tick (DESIGN CHOICE, log 3).
-/

namespace Sys2Proof.Machine

/-- A timer after a tick; one that has run out stays at 0 until its event is taken (log 4). -/
def tickTimer (t : Option Nat) : Option Nat := t.map fun n => n - 1

/-- A task after a tick. -/
def Task.tick (t : Task) : Task := { t with deadline := tickTimer t.deadline, alarm := tickTimer t.alarm }

/-- An order after a tick: its proposal timer falls. -/
def Order.tick (o : Order) : Order :=
  { o with proposal := o.proposal.map fun p => { p with left := p.left - 1 } }

/-- A line after a tick: its debounce period falls. -/
def LineLive.tick (l : LineLive) : LineLive := { l with period := tickTimer l.period }

/-- One tick of a running part; a part that is stopped or in its start-up check runs no timer (R183). -/
def tick (s : State) : State :=
  if s.running then
    { s with
      tasks := if halted s then s.tasks else s.tasks.map Task.tick
      orders := Table.change s.orders fun _ o => o.tick
      lines := s.lines.map LineLive.tick }
  else s

end Sys2Proof.Machine
end

