-- ==== Sys2Proof/Machine/Inquiry.lean ====
section
/-!
DEFINITION. The requests of family 0: STATUS_SUMMARY (R177, R195), GET_CAPACITIES and GET_FAMILIES (R178, R197),
FETCH_EVENTS (R167) and SET_EVENT_ENABLES (R165); and RESTART of family 7 (R179).
-/

namespace Sys2Proof.Machine

/-- The live line states as a bit set (R195). -/
def liveLinesByte (s : State) : Byte := bitsByte ((List.range 7).map (lineActive s))

/-- An order line in two bytes. -/
def lineRefBytes (r : LineRef) : List Byte := [byte r.handle, byte r.line]

/-- The last status in three bytes (R195). -/
def lastStatusBytes (l : LastStatus) : List Byte := [byte (statusNumber l.status), byte l.code, byte l.station]

/-- The reply of STATUS_SUMMARY (R195). -/
def summaryReply (s : State) : List Byte :=
  [byte (resetCauseNumber s.cause)] ++ be2 s.restartRecord.count.toNat ++
    [byte s.failedTables.toNat, byte (supplyNumber s.supply), byte (yardModeNumber s.mode), markByte s.raining,
      liveLinesByte s] ++
    be2 s.packs.length ++ [byte s.orders.length, byte s.tasks.length] ++
    s.stations.map (fun st => byte (stationStateNumber st.state)) ++
    [byte (engineStateNumber s.engine.state)] ++ presence [s.engine.line.isSome, s.lastStatus.isSome] ++
    orZeros 2 lineRefBytes s.engine.line ++ be2 s.engine.restarts.toNat ++ setBytes s.summary ++
    setBytes s.enables ++ orZeros 3 lastStatusBytes s.lastStatus

/-- STATUS_SUMMARY (R177). -/
def statusSummaryBlock (s : State) : Answer := taken (summaryReply s) s

/-- STATUS_SUMMARY. -/
def execStatusSummary (s : State) : Out := serve .statusSummary statusSummaryBlock s

/-- The reply of GET_CAPACITIES (R178, R197). -/
def capacitiesReply : List Byte :=
  be2 Config.packCapacity ++
    [Config.orderCapacity, Config.linesPerOrder, Config.packsPerOrder, Config.taskCapacity, Config.stationCount,
      Config.bayCount, Config.stacksPerBay, Config.tiersPerStack, Config.productCodes,
      Config.substitutesPerProduct, Config.rejectedTags, Config.watchEntries, Config.eventKinds,
      Config.requestPayload].map byte

/-- GET_CAPACITIES (R178). -/
def capacitiesBlock (s : State) : Answer := taken capacitiesReply s

/-- GET_CAPACITIES. -/
def execGetCapacities (s : State) : Out := serve .getCapacities capacitiesBlock s

/-- GET_FAMILIES (R178): all eight families, and the commands of each. -/
def familiesBlock (s : State) : Answer := taken (0xFF#8 :: Config.commandCounts.map byte) s

/-- GET_FAMILIES. -/
def execGetFamilies (s : State) : Out := serve .getFamilies familiesBlock s

/-- FETCH_EVENTS (R167): the summary and the enable set as they stand; the summary is emptied and the pin released. -/
def fetchEventsBlock (s : State) : Answer := taken (setBytes s.summary ++ setBytes s.enables) (emptySummary s)

/-- FETCH_EVENTS. -/
def execFetchEvents (s : State) : Out := serve .fetchEvents fetchEventsBlock s

/-- SET_EVENT_ENABLES (R165): a set with a kind above 18 is refused. -/
def setEventEnablesBlock (set : Option (BitVec 24)) (s : State) : Answer :=
  match set with
  | none => taken (setBytes s.enables) s
  | some e =>
    if 2 ^ 19 ≤ e.toNat then refuse .badField s
    else taken (setBytes (e.setWidth 19)) (driveAttn { s with enables := e.setWidth 19 })

/-- SET_EVENT_ENABLES. -/
def execSetEventEnables (set : Option (BitVec 24)) (s : State) : Out :=
  serve (.setEventEnables set) (setEventEnablesBlock set) s

/-- RESTART (R179): refused while the supply is low, else answered OK; its response is marked by `respond`. -/
def restartBlock (s : State) : Answer := if s.low then refuse .powerLow s else taken [] s

/-- RESTART. -/
def execRestart (s : State) : Out := serve .restart restartBlock s

end Sys2Proof.Machine
end

