-- ==== Sys2Proof/Machine/Packs.lean ====
section
/-!
DEFINITION. The pack requests of family 3: RECEIVE_PACK (R43, R44), READ_PACK (R45), READ_STACK (R46), RECORD_MOVE
(R48, R49), HOLD_PACK (R50), RELEASE_PACK (R51), SCRAP_PACK (R52), CLEAR_WETTED (R53) and FIND_OLDEST (R47).
-/

namespace Sys2Proof.Machine

/-! ## Shared checks -/

/-- The checks HOLD_PACK, RELEASE_PACK, SCRAP_PACK and RECORD_MOVE begin with, in their order (R48, R50 to R52): the
tag's range, the supply, and the tag index. Past them the block goes on with the record. -/
def withPack (tag : Nat) (s : State) (k : Pack → Answer) : Answer :=
  if ¬ tagOk tag then refuse .badField s
  else if s.low then refuse .powerLow s
  else
    match Table.get s.packs tag with
    | none => refuse .notFound s
    | some p => k p

/-- The location of a live pack in three bytes, as a reply gives it. -/
def packPlace (s : State) (tag : Nat) : List Byte :=
  orZeros 3 locationBytes ((Table.get s.packs tag).bind Pack.location)

/-- The pack is the top pack of its stack. -/
def onTop (s : State) (tag : Nat) (p : Pack) : Bool :=
  match p.location with
  | none => false
  | some l => decide (topPack s l.bay l.stack = some tag)

/-! ## RECEIVE_PACK (R43, R44) -/

/-- The description of RECEIVE_PACK is in range (R43 check 1). -/
def receiveOk (s : State) (tag product length count mass : Nat) (drying : Drying) (ready : Option Nat) : Bool :=
  decide (tagOk tag ∧ inRange 10 90 length ∧ inRange 1 2000 count ∧ inRange 50 5000 mass ∧ codeOk product) &&
    (s.product product).defined && !(decide (drying = .kiln) && ready.isSome) && decide (ready.getD 0 ≤ 65535)

/-- The ready day of a pack of the product received without one (R23). -/
def readyDay (s : State) (product : Nat) : Nat :=
  min 65535 (s.settings.yardDay + (s.product product).fields.airDryDays)

/-- The drying of a new record (R44). -/
def bornDrying (s : State) (product : Nat) (drying : Drying) (ready : Option Nat) : PackDrying :=
  match drying with
  | .kiln => .kiln
  | .air => .air (ready.getD (readyDay s product))

/-- The new record (R44), put down on top of its stack and born wetted where rain falls (R153). -/
def bornPack (s : State) (product length count mass : Nat) (drying : Drying) (bay stack : Nat)
    (ready : Option Nat) : Pack where
  product := product
  length := length
  count := count
  mass := mass
  received := s.settings.yardDay
  drying := bornDrying s product drying ready
  wetted := rainsOn s bay
  state := .stored
  location := some ⟨bay, stack, height s bay stack⟩
  reservation := none
  task := none
  hold := none

/-- The ready day of a record, if it has one. -/
def Pack.ready (p : Pack) : Option Nat :=
  match p.drying with
  | .kiln => none
  | .air d => some d

/-- The reply of RECEIVE_PACK (R44, R197). -/
def receiveReply (tag : Nat) (p : Pack) : List Byte :=
  presence [p.ready.isSome] ++ be3 tag ++ be2 p.received ++ orZeros 2 be2 p.ready ++ [byte p.tier, markByte p.wetted]

/-- The birth of a record (R44): the watches see it, and it clears every STARVED flag as a pack becoming STORED. -/
def bear (tag : Nat) (p : Pack) (s : State) : State :=
  observe (some tag) s.packs (clearStarved { s with packs := Table.put s.packs tag p })

/-- RECEIVE_PACK at the Pack Table (R43). -/
def receivePackBlock (tag product length count mass : Nat) (drying : Drying) (bay stack : Nat) (ready : Option Nat)
    (s : State) : Answer :=
  if receiveOk s tag product length count mass drying ready = false then refuse .badField s
  else if s.low then refuse .powerLow s
  else if Table.has s.packs tag = true then refuse .duplicate s
  else if Config.packCapacity ≤ s.packs.length then refuse .tableFull (post .tableFull s)
  else
    match putDownCheck s bay stack .badField with
    | some status => refuse status s
    | none =>
      let p := bornPack s product length count mass drying bay stack ready
      taken (receiveReply tag p) (bear tag p s)

/-- RECEIVE_PACK. -/
def execReceivePack (tag product length count mass : Nat) (drying : Drying) (bay stack : Nat) (ready : Option Nat)
    (s : State) : Out :=
  serve (.receivePack tag product length count mass drying bay stack ready)
    (receivePackBlock tag product length count mass drying bay stack ready) s

/-! ## Reading (R45 to R47) -/

/-- The byte of a pack's drying (R191). -/
def Pack.dryingCode (p : Pack) : Byte :=
  match p.drying with
  | .kiln => dryingByte .kiln
  | .air _ => dryingByte .air

/-- The kind of the task a pack names, in one byte. -/
def taskKindByte (s : State) (n : Option Nat) : Byte :=
  match n.bind s.task with
  | none => 0#8
  | some t => byte (taskKindNumber t.kind)

/-- The state of the task a pack names, in one byte. -/
def taskStateByte (s : State) (n : Option Nat) : Byte :=
  match n.bind s.task with
  | none => 0#8
  | some t => byte (taskStateNumber t.state)

/-- The reply of READ_PACK (R45, R192). -/
def packReply (s : State) (tag : Nat) (p : Pack) : List Byte :=
  presence [p.ready.isSome, p.location.isSome, p.reservation.isSome, p.task.isSome, p.hold.isSome] ++ be3 tag ++
    [byte p.product, byte p.length] ++ be2 p.count ++ be2 p.mass ++ be2 p.received ++ [p.dryingCode] ++
    orZeros 2 be2 p.ready ++ [markByte p.wetted, byte (packStateNumber p.state)] ++
    orZeros 3 locationBytes p.location ++ [if p.location.isSome then byte (dig s tag) else 0#8] ++
    orZeros 2 (fun r : LineRef => [byte r.handle, byte r.line]) p.reservation ++ orZeros 1 be1 p.task ++
    [taskKindByte s p.task, taskStateByte s p.task] ++ orZeros 1 (fun h => [byte (holdReasonNumber h)]) p.hold

/-- READ_PACK at the Pack Table (R45). -/
def readPackBlock (tag : Nat) (s : State) : Answer :=
  if ¬ tagOk tag then refuse .badField s
  else
    match Table.get s.packs tag with
    | none => refuse .notFound s
    | some p => taken (packReply s tag p) s

/-- READ_PACK. -/
def execReadPack (tag : Nat) (s : State) : Out := serve (.readPack tag) (readPackBlock tag) s

/-- The seven bytes of a pack in READ_STACK (R197). -/
def stackItem (e : Nat × Pack) : List Byte :=
  presence [e.2.hold.isSome] ++ be3 e.1 ++ [byte (packStateNumber e.2.state)] ++
    orZeros 1 (fun h => [byte (holdReasonNumber h)]) e.2.hold ++ [markByte e.2.wetted]

/-- The reply of READ_STACK (R46, R197). -/
def stackReply (s : State) (bay stack : Nat) : List Byte :=
  [byte (s.bay bay).tierLimit, byte (height s bay stack)] ++ (stackList s bay stack).flatMap stackItem

/-- READ_STACK at the Pack Table (R46). -/
def readStackBlock (bay stack : Nat) (s : State) : Answer :=
  if 63 < bay ∨ ¬ stack < (s.bay bay).stackCount then refuse .badField s else taken (stackReply s bay stack) s

/-- READ_STACK. -/
def execReadStack (bay stack : Nat) (s : State) : Out := serve (.readStack bay stack) (readStackBlock bay stack) s

/-- The reply of FIND_OLDEST (R47, R197). -/
def oldestReply (s : State) (code : Nat) (e : Nat × Pack) : List Byte :=
  presence [e.2.ready.isSome] ++ be2 (chain s code).length ++ be3 e.1 ++ be2 e.2.received ++
    [byte (packStateNumber e.2.state)] ++ orZeros 3 locationBytes e.2.location ++
    [markByte e.2.wetted, e.2.dryingCode] ++ orZeros 2 be2 e.2.ready

/-- The chain from a pack on: that pack first, or nothing where the chain does not hold it. -/
def chainFrom (s : State) (code after : Nat) : Table Pack :=
  (chain s code).dropWhile fun e => decide (e.1 ≠ after)

/-- Answers with the first pack of a part of a chain (R47). -/
def answerOldest (s : State) (code : Nat) (part : Table Pack) : Answer :=
  match part with
  | [] => refuse .notFound s
  | e :: _ => taken (oldestReply s code e) s

/-- FIND_OLDEST at the Pack Table (R47). -/
def findOldestBlock (code : Nat) (after : Option Nat) (s : State) : Answer :=
  if ¬ codeOk code then refuse .badField s
  else
    match after with
    | none => answerOldest s code (chain s code)
    | some t =>
      match chainFrom s code t with
      | [] => refuse .badField s
      | _ :: rest => answerOldest s code rest

/-- FIND_OLDEST. -/
def execFindOldest (code : Nat) (after : Option Nat) (s : State) : Out :=
  serve (.findOldest code after) (findOldestBlock code after) s

/-! ## RECORD_MOVE (R48, R49) -/

/-- The move of R9 and R49: off its stack and onto another, in one change; on its own stack the record is unchanged. -/
def applyMove (tag bay stack : Nat) (p : Pack) (s : State) : State :=
  if p.inStack bay stack then s
  else observe (some tag) s.packs (putDown bay stack tag id s)

/-- RECORD_MOVE at the Pack Table (R48). -/
def recordMoveBlock (tag bay stack : Nat) (s : State) : Answer :=
  withPack tag s fun p =>
    if p.state = .reserved ∨ p.state = .moving ∨ p.state = .lifted then refuse .busyPack s
    else if p.state = .loaded ∨ (p.state = .held ∧ p.hold ≠ some .damaged) then refuse .wrongState s
    else if onTop s tag p = false then refuse .notOnTop s
    else
      match putDownCheck s bay stack .mode with
      | some status => refuse status s
      | none => taken (packPlace (applyMove tag bay stack p s) tag) (applyMove tag bay stack p s)

/-- RECORD_MOVE. -/
def execRecordMove (tag bay stack : Nat) (s : State) : Out :=
  serve (.recordMove tag bay stack) (recordMoveBlock tag bay stack) s

/-! ## HOLD_PACK, RELEASE_PACK and SCRAP_PACK (R50 to R52) -/

/-- HOLD_PACK at the Pack Table (R50). -/
def holdPackBlock (tag : Nat) (s : State) : Answer :=
  withPack tag s fun p =>
    if p.state = .stored then
      taken [] (observe (some tag) s.packs (changePack tag (Pack.toHeld .damaged) s))
    else if p.state = .reserved ∧ fetchUntaken s tag = true then
      taken [] (endClaim (some tag) s.packs (releaseAtRest tag (Pack.toHeld .damaged) s))
    else refuse .busyPack s

/-- HOLD_PACK. -/
def execHoldPack (tag : Nat) (s : State) : Out := serve (.holdPack tag) (holdPackBlock tag) s

/-- A HELD DAMAGED pack becomes STORED in place (R51). -/
def releaseInPlace (tag : Nat) (s : State) : State :=
  observe (some tag) s.packs (clearStarved (changePack tag Pack.toStored s))

/-- A HELD pack without a location becomes STORED on top of a stack (R51). -/
def releaseOnto (tag bay stack : Nat) (s : State) : State :=
  observe (some tag) s.packs (clearStarved (putDown bay stack tag Pack.toStored s))

/-- RELEASE_PACK at the Pack Table (R51). -/
def releasePackBlock (tag : Nat) (place : Option (Nat × Nat)) (s : State) : Answer :=
  withPack tag s fun p =>
    if p.state ≠ .held then refuse .wrongState s
    else if p.hold = some .damaged then
      match place with
      | some _ => refuse .badField s
      | none => taken (packPlace (releaseInPlace tag s) tag) (releaseInPlace tag s)
    else
      match place with
      | none => refuse .badField s
      | some bk =>
        match putDownCheck s bk.1 bk.2 .mode with
        | some status => refuse status s
        | none => taken (packPlace (releaseOnto tag bk.1 bk.2 s) tag) (releaseOnto tag bk.1 bk.2 s)

/-- RELEASE_PACK. -/
def execReleasePack (tag : Nat) (place : Option (Nat × Nat)) (s : State) : Out :=
  serve (.releasePack tag place) (releasePackBlock tag place) s

/-- SCRAP_PACK at the Pack Table (R52). -/
def scrapPackBlock (tag : Nat) (s : State) : Answer :=
  withPack tag s fun p =>
    if p.state = .stored ∨ p.state = .held then taken [] (observe (some tag) s.packs (retirePack tag s))
    else refuse .busyPack s

/-- SCRAP_PACK. -/
def execScrapPack (tag : Nat) (s : State) : Out := serve (.scrapPack tag) (scrapPackBlock tag) s

/-! ## CLEAR_WETTED (R53) -/

/-- Clears the wetted mark of every pack that `which` picks. -/
def dryPacks (which : Nat → Pack → Bool) (s : State) : State :=
  { s with packs := Table.change s.packs fun t p => if which t p then { p with wetted := false } else p }

/-- The number of packs picked whose mark is yes. -/
def wetCount (which : Nat → Pack → Bool) (s : State) : Nat :=
  (s.packs.filter fun e => which e.1 e.2 && e.2.wetted).length

/-- The clearing of marks, and what follows when one was set (R53). -/
def clearMarks (named : Option Nat) (which : Nat → Pack → Bool) (s : State) : Answer :=
  let s1 := observe named s.packs (dryPacks which s)
  taken [byte (wetCount which s)] (if wetCount which s = 0 then s1 else clearStarved s1)

/-- CLEAR_WETTED at the Pack Table (R53). -/
def clearWettedBlock (tag bay : Option Nat) (s : State) : Answer :=
  match tag, bay with
  | some t, none => withPack t s fun _ => clearMarks (some t) (fun u _ => decide (u = t)) s
  | none, some b =>
    if 63 < b then refuse .badField s
    else if s.low then refuse .powerLow s
    else clearMarks none (fun _ p => p.inBay b) s
  | none, none => refuse .badField s
  | some _, some _ => refuse .badField s

/-- CLEAR_WETTED. -/
def execClearWetted (tag bay : Option Nat) (s : State) : Out :=
  serve (.clearWetted tag bay) (clearWettedBlock tag bay) s

end Sys2Proof.Machine
end

