-- ==== Sys2Proof/Machine/Orders.lean ====
section
/-!
DEFINITION. The order requests of family 4 but those on proposals: CHECK_IN (R63, R64), READ_ORDER (R65), SET_POINT
(R73), SET_LEVEL (R75), CANCEL (R77) and DEPART (R78), with the release and retirement they share (R76, R79).
-/

namespace Sys2Proof.Machine

/-! ## The queue (R62) -/

/-- The level of the live order under a handle. -/
def levelOf (s : State) (h : Nat) : Nat :=
  match s.order h with
  | none => 0
  | some o => o.level

/-- Puts a handle into the queue at the tail of its level (R62). -/
def joinQueue (s : State) (h level : Nat) : List Nat → List Nat
  | [] => [h]
  | x :: xs => if levelOf s x < level then h :: x :: xs else x :: joinQueue s h level xs

/-- The queue without a handle. -/
def leaveQueue (h : Nat) (q : List Nat) : List Nat := q.filter fun x => decide (x ≠ h)

/-! ## CHECK_IN (R63, R64) -/

/-- The fields of CHECK_IN are in range and name defined products (R63 check 1). -/
def checkInOk (s : State) (truck level payload : Nat) (lines : List LineItem) : Bool :=
  decide (inRange 1 65535 truck ∧ level ≤ 3 ∧ inRange 1000 40000 payload ∧ 1 ≤ lines.length ∧
    lines.length ≤ Config.linesPerOrder ∧ (lines.map LineItem.quantity).sum ≤ Config.packsPerOrder) &&
    lines.all fun l => lineItemOk l && (s.product l.product).defined

/-- A live order holds the truck reference (R60). -/
def truckLive (s : State) (truck : Nat) : Bool := s.orders.any fun e => decide (e.2.truck = truck)

/-- The lowest free handle (R60). -/
def freeHandle (s : State) : Nat := lowestFree s.orders.keys Config.orderCapacity 1

/-- The new order record (R64). -/
def newOrder (truck level payload : Nat) (supervised : Bool) (lines : List LineItem) : Order :=
  ⟨truck, level, .queued, none, payload, supervised, lines.map fun l => ⟨l, 0, 0, false⟩, 0, none, []⟩

/-- The order joins the table and the queue (R64). -/
def addOrder (h : Nat) (o : Order) (s : State) : State :=
  { s with orders := Table.put s.orders h o, queue := joinQueue s h o.level s.queue }

/-- CHECK_IN at the Order Table (R63, R64). -/
def checkInBlock (truck level payload : Nat) (supervised : Bool) (lines : List LineItem) (s : State) : Answer :=
  if checkInOk s truck level payload lines = false then refuse .badField s
  else if s.mode ≠ .opened then refuse .mode s
  else if Config.orderCapacity ≤ s.orders.length then refuse .tableFull (post .tableFull s)
  else if truckLive s truck = true then refuse .duplicate s
  else
    let s1 := addOrder (freeHandle s) (newOrder truck level payload supervised lines) s
    taken [byte (freeHandle s), byte (queuePosition s1 (freeHandle s))] s1

/-- CHECK_IN. -/
def execCheckIn (truck level payload : Nat) (supervised : Bool) (lines : List LineItem) (s : State) : Out :=
  serve (.checkIn truck level payload supervised lines) (checkInBlock truck level payload supervised lines) s

/-! ## READ_ORDER (R65) -/

/-- The yard window in four bytes. -/
def windowReply (w : YardWindow) : List Byte := [byte w.rowMin, byte w.rowMax, byte w.colMin, byte w.colMax]

/-- The fifteen bytes of an order line (R193). -/
def orderLineReply (e : OrderLine × Nat) : List Byte :=
  let l := e.1
  presence [l.item.window.isSome] ++
    [byte (e.2 + 1), byte l.item.product, byte l.item.quantity, byte l.item.low, byte l.item.high] ++
    orZeros 4 windowReply l.item.window ++
    [markByte l.item.substitution, byte l.item.digLimit, byte l.allocated, byte l.loaded, markByte l.starved]

/-- The eight bytes of a proposal (R193). -/
def proposalReply (p : Proposal) : List Byte :=
  [byte p.line] ++ be3 p.tag ++ be2 p.cost ++ be2 (Config.secondsOfTicks p.left)

/-- The reply of READ_ORDER for one order (R65, R193). -/
def orderReply (s : State) (h : Nat) (o : Order) : List Byte :=
  presence [o.point.isSome, o.proposal.isSome, o.deckLine.isSome] ++ [byte h] ++ be2 o.truck ++
    [byte o.level, byte (orderStateNumber o.state)] ++ orZeros 1 be1 o.point ++ be2 o.payload ++
    [markByte o.supervised] ++ be2 o.committed ++ be2 o.budget ++ [byte (queuePosition s h)] ++
    orZeros 1 be1 o.deckLine ++ orZeros 8 proposalReply o.proposal ++ [byte o.rejected.length] ++
    o.rejected.flatMap be3 ++ [byte o.lines.length] ++ o.lines.zipIdx.flatMap orderLineReply

/-- The five bytes of an order in the queue's list (R193). -/
def queueItem (s : State) (h : Nat) : List Byte :=
  match s.order h with
  | none => []
  | some o => [byte h] ++ be2 o.truck ++ [byte o.level, byte (orderStateNumber o.state)]

/-- The reply of READ_ORDER for the queue (R65, R193). -/
def queueReply (s : State) : List Byte := byte s.queue.length :: s.queue.flatMap (queueItem s)

/-- READ_ORDER at the Order Table (R65). -/
def readOrderBlock (handle truck : Option Nat) (s : State) : Answer :=
  match handle, truck with
  | none, none => taken (queueReply s) s
  | some h, none =>
    if ¬ handleOk h then refuse .badField s
    else
      match s.order h with
      | none => refuse .notFound s
      | some o => taken (orderReply s h o) s
  | none, some r =>
    if ¬ inRange 1 65535 r then refuse .badField s
    else
      match s.orders.find? fun e => decide (e.2.truck = r) with
      | none => refuse .notFound s
      | some e => taken (orderReply s e.1 e.2) s
  | some _, some _ => refuse .badField s

/-- READ_ORDER. -/
def execReadOrder (handle truck : Option Nat) (s : State) : Out :=
  serve (.readOrder handle truck) (readOrderBlock handle truck) s

/-! ## SET_POINT and SET_LEVEL (R73, R75) -/

/-- Another live order holds the point (R73 check 3). -/
def pointTaken (s : State) (h point : Nat) : Bool :=
  s.orders.any fun e => decide (e.1 ≠ h ∧ e.2.point = some point)

/-- The point is written, and a QUEUED order becomes AT_POINT (R73). -/
def Order.called (point : Nat) (o : Order) : Order :=
  { o with point := some point, state := if o.state = .queued then .atPoint else o.state }

/-- SET_POINT at the Order Table (R73). -/
def setPointBlock (handle point : Nat) (s : State) : Answer :=
  if ¬ handleOk handle ∨ ¬ inRange 1 4 point then refuse .badField s
  else
    match s.order handle with
    | none => refuse .notFound s
    | some o =>
      if pointTaken s handle point = true then refuse .pointTaken s
      else if o.point.isSome = true ∧ o.point ≠ some point ∧ orderHasLifted s handle = true then
        refuse .wrongState s
      else taken [] (changeOrder handle (Order.called point) s)

/-- SET_POINT. -/
def execSetPoint (handle point : Nat) (s : State) : Out :=
  serve (.setPoint handle point) (setPointBlock handle point) s

/-- The level is written, the order joins the tail of its new level, and every STARVED flag is cleared (R75). -/
def relevel (h level : Nat) (s : State) : State :=
  clearStarved
    { changeOrder h (fun o => { o with level := level }) s with
      queue := joinQueue s h level (leaveQueue h s.queue) }

/-- SET_LEVEL at the Order Table (R75). -/
def setLevelBlock (handle level : Nat) (s : State) : Answer :=
  if ¬ handleOk handle ∨ 3 < level then refuse .badField s
  else
    match s.order handle with
    | none => refuse .notFound s
    | some o =>
      let s1 := if o.level = level then s else relevel handle level s
      taken [byte (queuePosition s1 handle)] s1

/-- SET_LEVEL. -/
def execSetLevel (handle level : Nat) (s : State) : Out :=
  serve (.setLevel handle level) (setLevelBlock handle level) s

/-! ## The end of an order (R76 to R79) -/

/-- The tags of the packs in a state whose reservation names an order, lowest first. -/
def tagsOf (s : State) (st : PackState) (h : Nat) : List Nat :=
  Table.keys (s.packs.filter fun e => decide (e.2.state = st ∧ e.2.reservation.map LineRef.handle = some h))

/-- The release of an order's reservations (R76): first the RESERVED packs, then the LIFTED ones (log 15). -/
def releaseOrder (h : Nat) (s : State) : State :=
  (tagsOf s .lifted h).foldl (fun u t => releaseLifted t u)
    ((tagsOf s .reserved h).foldl (fun u t => releaseAtRest t Pack.toStored u) s)

/-- The engine becomes IDLE: everything of its scan becomes absent, and the restart count stands (R83). -/
def Engine.toIdle (e : Engine) : Engine := ⟨.idle, none, none, none, false, e.restarts⟩

/-- The line under scan is one of the order (R99). -/
def scansOrder (s : State) (h : Nat) : Bool := decide (s.engine.line.map LineRef.handle = some h)

/-- The retirement of an order (R79), with the scan of one of its lines abandoned (R99). -/
def retireOrder (h : Nat) (s : State) : State :=
  { s with
    orders := Table.erase s.orders h
    queue := leaveQueue h s.queue
    engine := if scansOrder s h then s.engine.toIdle else s.engine }

/-- Each LOADED pack of a cancelled order becomes HELD LOADED_UNCONFIRMED (R77). -/
def unconfirmLoaded (h : Nat) (s : State) : State :=
  (tagsOf s .loaded h).foldl (fun u t => changePack t (Pack.toHeld .loadedUnconfirmed) u) s

/-- Each LOADED pack of a departed order is retired (R78). -/
def departLoaded (h : Nat) (s : State) : State := (tagsOf s .loaded h).foldl (fun u t => retirePack t u) s

/-- The claim of CANCEL or DEPART, taken whole (R77, R78): the reservations are released, the LOADED packs dealt with,
and the order retired. To the Watch Unit the claim names no record, also where it deals with one pack alone (log
13). -/
def endOrder (loaded : Nat → State → State) (h : Nat) (s : State) : State :=
  endClaim none s.packs (retireOrder h (loaded h (releaseOrder h s)))

/-- The three counts of the reply (R77, R78): LOADED packs dealt with, FETCH tasks changed into RETURN tasks, and
reservations released from RESERVED packs. -/
def endCounts (s : State) (h : Nat) : List Byte :=
  [byte (tagsOf s .loaded h).length, byte (tagsOf s .lifted h).length, byte (tagsOf s .reserved h).length]

/-- The checks CANCEL and DEPART share, then the end of the order (R77, R78). -/
def endOrderBlock (loaded : Nat → State → State) (handle : Nat) (s : State) : Answer :=
  if ¬ handleOk handle then refuse .badField s
  else if s.low then refuse .powerLow s
  else
    match s.order handle with
    | none => refuse .notFound s
    | some _ => taken (endCounts s handle) (endOrder loaded handle s)

/-- CANCEL at the Order Table (R77). -/
def cancelBlock (handle : Nat) (s : State) : Answer := endOrderBlock unconfirmLoaded handle s

/-- CANCEL. -/
def execCancel (handle : Nat) (s : State) : Out := serve (.cancel handle) (cancelBlock handle) s

/-- DEPART at the Order Table (R78). -/
def departBlock (handle : Nat) (s : State) : Answer := endOrderBlock departLoaded handle s

/-- DEPART. -/
def execDepart (handle : Nat) (s : State) : Out := serve (.depart handle) (departBlock handle) s

end Sys2Proof.Machine
end

