-- ==== Sys2Proof/Machine/Allocator.lean ====
section
/-!
DEFINITION. The Allocator: the tests of the two passes (R92, R97), the cost (R93), validation (R101), the reservation
and the takeover (R102 to R104), the scan engine with its events SCAN_START, FIRST_PASS_VISIT, SECOND_PASS_VISIT and
PASS_END (R83 to R91, R95 to R107), and the requests and the event on proposals (R108 to R111).
-/

namespace Sys2Proof.Machine

/-! ## Eligibility (R92, R97) -/

/-- The bay lies in the line's yard window, if it has one (R92). -/
def inWindow (w : Option YardWindow) (b : Bay) : Bool :=
  match w with
  | none => true
  | some v => decide (inRange v.rowMin v.rowMax b.row ∧ inRange v.colMin v.colMax b.col)

/-- The tests the two passes share: product level, yard window, length, mass budget and rejected list (R92, R97). -/
def fitsLine (s : State) (o : Order) (item : LineItem) (tag : Nat) (p : Pack) : Bool :=
  match p.location with
  | none => false
  | some l =>
    (servingPosition s item p.product).isSome && dryEnough s item p && inWindow item.window (s.bay l.bay) &&
      decide (inRange item.low item.high p.length ∧ p.mass ≤ o.budget ∧ tag ∉ o.rejected)

/-- The bay a pack stands in is enabled. -/
def bayEnabled (s : State) (p : Pack) : Bool :=
  match p.location with
  | none => false
  | some l => (s.bay l.bay).enabled

/-- The tests of the first pass (R92). -/
def firstPassOk (s : State) (o : Order) (item : LineItem) (tag : Nat) (p : Pack) : Bool :=
  decide (p.state = .stored) && fitsLine s o item tag p && bayEnabled s p &&
    decide (dig s tag ≤ item.digLimit) &&
    (packsAbove s tag).all (fun e => decide (e.2.state = .stored)) && decide (dig s tag < freeTasks s)

/-- The level of the order a pack is reserved for is below the given level (R97). -/
def reservedBelow (s : State) (p : Pack) (level : Nat) : Bool :=
  match p.reservation.bind fun r => s.order r.handle with
  | none => false
  | some holder => decide (holder.level < level)

/-- The tests of the second pass (R97). -/
def secondPassOk (s : State) (o : Order) (item : LineItem) (tag : Nat) (p : Pack) : Bool :=
  decide (p.state = .reserved) && reservedBelow s p o.level && fetchUntaken s tag && fitsLine s o item tag p

/-- The tests of a pass. -/
def passOk (pass : Pass) (s : State) (o : Order) (item : LineItem) (tag : Nat) (p : Pack) : Bool :=
  match pass with
  | .first => firstPassOk s o item tag p
  | .second => secondPassOk s o item tag p

/-! ## Cost (R93) -/

/-- The distance from the pack's bay to the order's loading point (R93). -/
def packDistance (s : State) (o : Order) (p : Pack) : Nat :=
  match p.location with
  | none => 0
  | some l => orderDistance s l.bay o

/-- The cost of a pack for a line (R93). -/
def packCost (s : State) (o : Order) (item : LineItem) (tag : Nat) (p : Pack) : Nat :=
  4096 + 16 * s.settings.weights.dig * dig s tag + s.settings.weights.distance * packDistance s o p +
    16 * s.settings.weights.substitution * (servingPosition s item p.product).getD 0 -
    s.settings.weights.age * min 255 (s.settings.yardDay - p.received)

/-! ## Reservation (R102) -/

/-- One SHIFT task is created for a pack above the winner, which becomes MOVING (R102). -/
def createShift (winner : Nat) (s : State) (tag : Nat) : State :=
  changePack tag (fun p => { p with state := .moving, task := some (freeTaskNumber s) })
    (addTask ⟨freeTaskNumber s, .shift winner, tag, .opened, none, none, none, none, none⟩ s)

/-- The FETCH task of the winner is created, and the winner becomes RESERVED for the line (R102). -/
def createFetch (r : LineRef) (tag : Nat) (s : State) : State :=
  changePack tag (fun p => { p with state := .reserved, reservation := some r, task := some (freeTaskNumber s) })
    (addTask ⟨freeTaskNumber s, .fetch r, tag, .opened, none, none, none, none, none⟩ s)

/-- A reservation (R102): the SHIFT tasks from the top pack down, then the FETCH, then the counts. -/
def reserve (r : LineRef) (tag : Nat) (p : Pack) (s : State) : State :=
  raiseCounts r p.mass
    (createFetch r tag ((Table.keys (packsAbove s tag)).reverse.foldl (createShift tag) s))

/-! ## Offerability of a FETCH (R104, R120) -/

/-- The order has a loading point whose presence line is active. -/
def truckPresent (s : State) (o : Order) : Bool :=
  match o.point with
  | none => false
  | some p => pointActive s p

/-- The gates of a FETCH for a line, the halt apart (R120): no MOVING pack above the subject, a truck at the point,
and every lower line loaded. -/
def gatesOpen (s : State) (r : LineRef) (tag : Nat) : Bool :=
  match s.order r.handle with
  | none => false
  | some o => !movingAbove s tag && truckPresent s o && (o.lines.take (r.line - 1)).all OrderLine.full

/-! ## Takeover (R103, R104) -/

/-- Clears the STARVED flag of one line. -/
def unstarveLine (r : LineRef) (s : State) : State :=
  changeOrder r.handle (fun o => o.changeLine r.line fun l => { l with starved := false }) s

/-- The victim's side of a takeover: its counts fall and its line's flag is cleared, which sets the clear-seen mark
in a scan (R88, R103; log 14). -/
def robVictim (p : Pack) (s : State) : State :=
  match p.reservation with
  | none => s
  | some v => markClearSeen (unstarveLine v (lowerCounts v p.mass s))

/-- The judgement of an offer at a takeover (R104): an offer that would not be made for the taker is withdrawn, and
the task returns to OPEN with its lapsed station kept. -/
def judgeOffer (r : LineRef) (t : Task) (s : State) : State :=
  if t.state = .offered ∧ gatesOpen s r t.subject = false then
    dismiss t.station (changeTask t.number (Task.toOpen t.lapsed) s)
  else s

/-- A takeover (R103, R104). -/
def takeOver (r : LineRef) (tag : Nat) (p : Pack) (s : State) : State :=
  let s1 := raiseCounts r p.mass (robVictim p (changePack tag (fun q => { q with reservation := some r }) s))
  post .reservationTaken
    (match fetchOf s tag with
     | none => s1
     | some t => judgeOffer r t (changeTask t.number (fun u => { u with kind := .fetch r }) s1))

/-! ## Validation (R101) and its commitment -/

/-- The line still wants a pack (R101). -/
def OrderLine.wants (l : OrderLine) : Bool := decide (l.allocated < l.item.quantity)

/-- Commits a validated winner of a pass, in the claim whose subject it is (R102, R103). -/
def commit (pass : Pass) (r : LineRef) (tag : Nat) (p : Pack) (s : State) : State :=
  observe (some tag) s.packs
    (match pass with
     | .first => reserve r tag p s
     | .second => takeOver r tag p s)

/-! ## The engine's walk (R89 to R91) -/

/-- The product code at a substitute position of the line's walk, as the list stands at the call (R89): when the walk
goes on to it, which log 12 settles. -/
def codeAt (s : State) (item : LineItem) (pos : Nat) : Option Nat :=
  match pos with
  | 0 => some item.product
  | n + 1 => if item.substitution then (s.product item.product).substitutes[n]? else none

/-- A pack stands after a place in a chain (R91). -/
def afterPlace (day tag : Nat) (e : Nat × Pack) : Bool :=
  decide (day < e.2.received ∨ (day = e.2.received ∧ tag < e.1))

/-- The pack a walk visits next: the chain's code, the position at which its walk began, and the pack. -/
structure Visit where
  code : Nat
  position : Nat
  tag : Nat
  pack : Pack
deriving DecidableEq, Repr

/-- The state of the packs the present pass visits: the first pass visits STORED packs, the second RESERVED ones, and
each passes over the others (R92, R97). -/
def soughtState (s : State) : PackState := if s.engine.state = .secondPass then .reserved else .stored

/-- The packs of a chain that the present pass visits, in the chain's order (R89, R92, R97; log 12). -/
def visitable (s : State) (code : Nat) : Table Pack :=
  (chain s code).filter fun e => decide (e.2.state = soughtState s)

/-- The first pack visited of the chains from a position on, by the substitute list as it stands; a chain without one
is walked at once (R89). -/
def firstVisit (s : State) (item : LineItem) : (fuel pos : Nat) → Option Visit
  | 0, _ => none
  | fuel + 1, pos =>
    match codeAt s item pos with
    | none => none
    | some code =>
      match visitable s code with
      | [] => firstVisit s item fuel (pos + 1)
      | e :: _ => some ⟨code, pos, e.1, e.2⟩

/-- The pack the walk visits next, or nothing where the pass has come to its end (R89, R91). R89 does not say whether a
chain whose last pack has been visited is left in that visit or only at the next. The model's choice (log 12): only at
the next, which reads that chain again from the walk position on, and the substitute list as it stands then. -/
def nextVisit (s : State) (item : LineItem) : Option Visit :=
  match s.engine.walk with
  | none => firstVisit s item 4 0
  | some w =>
    match (visitable s w.code).find? (afterPlace w.day w.tag) with
    | some e => some ⟨w.code, w.position, e.1, e.2⟩
    | none => firstVisit s item 4 (w.position + 1)

/-- The order and the line under scan. -/
def scanLine (s : State) : Option (LineRef × Order × OrderLine) :=
  match s.engine.line with
  | none => none
  | some r =>
    match s.order r.handle with
    | none => none
    | some o => (nth o.lines r.line).map fun l => (r, o, l)

/-! ## Choosing a line (R84) -/

/-- A line meets the selection conditions that are its own and its order's (R84). -/
def selectable (o : Order) (l : OrderLine) : Bool :=
  l.wants && !l.starved && o.proposal.isNone && decide (0 < o.budget)

/-- The first selectable line of an order (R84). -/
def selectIn (s : State) (h : Nat) : Option LineRef :=
  match s.order h with
  | none => none
  | some o => (o.lines.findIdx? (selectable o)).map fun n => ⟨h, n + 1⟩

/-- The line the engine takes (R84): first in queue order, then in line number order. -/
def selectLine (s : State) : Option LineRef := s.queue.findSome? (selectIn s)

/-- The engine begins a scan of a line in FIRST_PASS, with everything set afresh (R83). -/
def Engine.beginScan (r : LineRef) (e : Engine) : Engine := ⟨.firstPass, some r, none, none, false, e.restarts⟩

/-- Gives the state another engine. -/
def setEngine (e : Engine) (s : State) : State := { s with engine := e }

/-- SCAN_START (R84): an IDLE engine takes the first line that meets the selection conditions. -/
def execScanStart (s : State) : Out :=
  .next
    (if s.running = true ∧ s.engine.state = .idle ∧ s.low = false ∧ s.mode ≠ .closed then
      match selectLine s with
      | none => s
      | some r => setEngine (s.engine.beginScan r) s
    else s)

/-! ## Visits (R92, R95, R97) -/

/-- A candidate takes the leading candidate's place (R95). -/
def Candidate.beats (c d : Candidate) : Bool :=
  decide (c.cost < d.cost ∨ (c.cost = d.cost ∧ c.day < d.day) ∨ (c.cost = d.cost ∧ c.day = d.day ∧ c.tag < d.tag))

/-- The leading candidate after an eligible visit (R95). -/
def leadAfter (lead : Option Candidate) (c : Candidate) : Option Candidate :=
  match lead with
  | none => some c
  | some d => if c.beats d then some c else some d

/-- The engine after a visit: the walk stands at the pack, and an eligible one is compared (R91, R95). -/
def visited (pass : Pass) (s : State) (o : Order) (item : LineItem) (v : Visit) : Engine :=
  { s.engine with
    walk := some ⟨v.code, v.position, v.pack.received, v.tag⟩
    lead :=
      if passOk pass s o item v.tag v.pack then
        leadAfter s.engine.lead ⟨v.tag, v.pack.received, packCost s o item v.tag v.pack, pass⟩
      else s.engine.lead }

/-- One step of the walk of a pass (R91, R92, R97; log 12). -/
def walkStep (pass : Pass) (s : State) : State :=
  match scanLine s with
  | none => s
  | some (_, o, l) =>
    match nextVisit s l.item with
    | none => s
    | some v => setEngine (visited pass s o l.item v) s

/-- FIRST_PASS_VISIT (R92). -/
def execFirstPassVisit (s : State) : Out :=
  .next (if s.running = true ∧ s.engine.state = .firstPass then walkStep .first s else s)

/-- SECOND_PASS_VISIT (R97). -/
def execSecondPassVisit (s : State) : Out :=
  .next (if s.running = true ∧ s.engine.state = .secondPass then walkStep .second s else s)

/-! ## The end of a scan (R86, R88, R100 to R107) -/

/-- The scan is restarted for the same line after a failed validation (R106). -/
def Engine.restart (r : LineRef) (e : Engine) : Engine :=
  { e.beginScan r with restarts := e.restarts + 1#16 }

/-- Fills the proposal slot of a supervised order (R105). -/
def propose (r : LineRef) (tag cost : Nat) (s : State) : State :=
  post .proposalReady
    (changeOrder r.handle
      (fun o =>
        { o with proposal := some ⟨r.line, tag, cost, Config.ticksOfSeconds s.settings.timers.proposal⟩ }) s)

/-- Validation at the end of a scan passes (R101). -/
def scanValid (s : State) (o : Order) (l : OrderLine) (c : Candidate) (p : Pack) : Bool :=
  l.wants && passOk c.pass s o l.item c.tag p && (!o.supervised || o.proposal.isNone)

/-- The engine becomes IDLE. -/
def idleEngine (s : State) : State := setEngine s.engine.toIdle s

/-- Validation at the end of a scan, with its commitment or the restart (R100 to R106). -/
def finishScan (c : Candidate) (s : State) : State :=
  match scanLine s with
  | none => idleEngine s
  | some (r, o, l) =>
    match Table.get s.packs c.tag with
    | none => setEngine (s.engine.restart r) s
    | some p =>
      if scanValid s o l c p = true then
        if o.supervised then idleEngine (propose r c.tag (packCost s o l.item c.tag p) s)
        else idleEngine (commit c.pass r c.tag p s)
      else setEngine (s.engine.restart r) s

/-- Sets the STARVED flag of one line. -/
def starveLine (r : LineRef) (s : State) : State :=
  changeOrder r.handle (fun o => o.changeLine r.line fun l => { l with starved := true }) s

/-- A scan ends with no candidate (R86, R88, R107). -/
def endEmptyScan (r : LineRef) (s : State) : State :=
  idleEngine (if s.engine.clearSeen then s else post .lineStarved (starveLine r s))

/-- The engine enters the second pass: the walk begins afresh with no leading candidate, and the clear-seen mark keeps
its value (R96). -/
def Engine.toSecondPass (e : Engine) : Engine := { e with state := .secondPass, walk := none, lead := none }

/-- The engine waits for the supply (R113): the walk position is absent outside the passes (R82). -/
def Engine.toWaiting (e : Engine) : Engine := { e with state := .waiting, walk := none }

/-- The end of a pass (R83). -/
def endPass (s : State) : State :=
  match scanLine s with
  | none => idleEngine s
  | some (r, o, _) =>
    match s.engine.lead with
    | some c => if s.low then setEngine s.engine.toWaiting s else finishScan c s
    | none =>
      if s.engine.state = .firstPass ∧ 0 < o.level then setEngine s.engine.toSecondPass s else endEmptyScan r s

/-- The walk of the present pass has come to its end (R89). -/
def passDone (s : State) : Bool :=
  match scanLine s with
  | none => true
  | some (_, _, l) => (nextVisit s l.item).isNone

/-- The engine walks. -/
def Engine.walking (e : Engine) : Bool := decide (e.state = .firstPass ∨ e.state = .secondPass)

/-- PASS_END (R83): the walk of the last chain of the pass has ended. -/
def execPassEnd (s : State) : Out :=
  .next (if s.running = true ∧ s.engine.walking = true ∧ passDone s = true then endPass s else s)

/-- A scan held in WAITING is validated when the supply comes back (R113, R186). -/
def resumeScan (s : State) : State :=
  if s.engine.state = .waiting then
    match s.engine.lead with
    | none => s
    | some c => finishScan c s
  else s

/-! ## Proposals (R108 to R111) -/

/-- The proposal slot is emptied. -/
def emptySlot (h : Nat) (s : State) : State := changeOrder h (fun o => { o with proposal := none }) s

/-- The pass by which a proposed pack is judged: by its state at that moment (R109). -/
def passFor (p : Pack) : Option Pass :=
  match p.state with
  | .stored => some .first
  | .reserved => some .second
  | .moving => none
  | .lifted => none
  | .loaded => none
  | .held => none

/-- The validation of a confirmation (R109): the pass and the record to commit, or nothing where it fails. -/
def confirmable (s : State) (o : Order) (pr : Proposal) : Option (Pass × Pack × OrderLine) :=
  match Table.get s.packs pr.tag, nth o.lines pr.line with
  | some p, some l =>
    match passFor p with
    | none => none
    | some pass => if l.wants = true ∧ passOk pass s o l.item pr.tag p = true then some (pass, p, l) else none
  | _, _ => none

/-- An accepted CONFIRM_PROPOSAL (R109): the slot is emptied in every case. -/
def confirm (h : Nat) (o : Order) (pr : Proposal) (s : State) : Answer :=
  match confirmable s o pr with
  | none => refuse .stale (emptySlot h s)
  | some (pass, p, l) =>
    taken (be3 pr.tag ++ be2 (packCost s o l.item pr.tag p)) (commit pass ⟨h, pr.line⟩ pr.tag p (emptySlot h s))

/-- CONFIRM_PROPOSAL at the Allocator (R108). -/
def confirmProposalBlock (handle tag : Nat) (s : State) : Answer :=
  if ¬ handleOk handle ∨ ¬ tagOk tag then refuse .badField s
  else if s.low then refuse .powerLow s
  else
    match s.order handle with
    | none => refuse .notFound s
    | some o =>
      match o.proposal with
      | none => refuse .wrongState s
      | some pr => if pr.tag = tag then confirm handle o pr s else refuse .wrongState s

/-- CONFIRM_PROPOSAL. -/
def execConfirmProposal (handle tag : Nat) (s : State) : Out :=
  serve (.confirmProposal handle tag) (confirmProposalBlock handle tag) s

/-- A rejected tag joins the list at its tail; the oldest leaves a full list, and a tag already there keeps its place
(R71). -/
def addRejected (tag : Nat) (l : List Nat) : List Nat :=
  if tag ∈ l then l
  else if l.length < Config.rejectedTags then l ++ [tag]
  else l.drop 1 ++ [tag]

/-- The slot is emptied and the tag joins the rejected list (R110). -/
def rejectTag (h tag : Nat) (s : State) : State :=
  changeOrder h (fun o => { o with proposal := none, rejected := addRejected tag o.rejected }) s

/-- REJECT_PROPOSAL at the Allocator (R110): taken at any supply. -/
def rejectProposalBlock (handle tag : Nat) (s : State) : Answer :=
  if ¬ handleOk handle ∨ ¬ tagOk tag then refuse .badField s
  else
    match s.order handle with
    | none => refuse .notFound s
    | some o =>
      if o.proposal.map Proposal.tag = some tag then taken [] (rejectTag handle tag s)
      else refuse .wrongState s

/-- REJECT_PROPOSAL. -/
def execRejectProposal (handle tag : Nat) (s : State) : Out :=
  serve (.rejectProposal handle tag) (rejectProposalBlock handle tag) s

/-- The proposal timer of an order has run out. -/
def proposalDue (s : State) (h : Nat) : Bool :=
  decide (((s.order h).bind Order.proposal).map Proposal.left = some 0)

/-- PROPOSAL_EXPIRY (R111). -/
def execProposalExpiry (handle : Nat) (s : State) : Out :=
  .next
    (if s.running = true ∧ proposalDue s handle = true then post .proposalExpired (emptySlot handle s) else s)

end Sys2Proof.Machine
end

