-- ==== Sys2Proof/Machine/Lines.lean ====
section
/-!
DEFINITION. The line unit: the pin and the wanted state of a line (R144, R145), its debounce periods and edges with
their effects (R145, R148 to R151), SET_LINE (R146), and the events PIN_CHANGE, DEBOUNCE_EXPIRY and
WETTING_SWEEP_STACK (R145, R152).
-/

namespace Sys2Proof.Machine

/-! ## Pins, settings and wanted states -/

/-- The pin a line follows by its source choice (R144). -/
def linePin (line source : Nat) : Nat :=
  if source = 0 then line else if source = 1 then line + 7 else if source = 2 then 14 else 15

/-- The settings of a line (R143). -/
def lineSetting (s : State) (k : Nat) : LineSetting := s.lineSettings.getD k lineDefault

/-- The level of the pin a line follows (R144, R146). -/
def lineLevel (s : State) (k : Nat) : Bool := s.pins.getLsbD (linePin k (lineSetting s k).source)

/-- The wanted state of a line (R145). -/
def lineWanted (s : State) (k : Nat) : Bool :=
  (lineSetting s k).enabled && decide (lineLevel s k = (lineSetting s k).activeHigh)

/-- Writes the live state and the pending period of a line. -/
def setLive (k : Nat) (active : Bool) (period : Option Nat) (s : State) : State :=
  { s with lines := s.lines.set k ⟨active, period⟩ }

/-! ## Edges (R148 to R151) -/

/-- The order that holds a loading point (R74). -/
def pointHolder (s : State) (p : Nat) : Option (Nat × Order) :=
  s.orders.find? fun e => decide (e.2.point = some p)

/-- An edge of GATE (R148). -/
def gateEdge (rising : Bool) (s : State) : State :=
  if rising then
    post .gateArrival (if s.mode = .closed ∧ s.settings.autoOpen = true then { s with mode := .opened } else s)
  else s

/-- A wetting sweep begins, or is marked as pending while one runs (R152). -/
def beginSweep (s : State) : State :=
  match s.sweep with
  | none => { s with sweep := some (0, 0) }
  | some _ => { s with sweepPending := true }

/-- An edge of RAIN (R151). -/
def rainEdge (rising : Bool) (s : State) : State :=
  let s1 := post .rainChange { s with raining := rising }
  if rising then beginSweep s1 else s1

/-- An edge of the presence line of a loading point: a falling edge posts POINT_VACATED when the order that holds the
point has a LIFTED pack (R74, R149). -/
def presenceEdge (p : Nat) (rising : Bool) (s : State) : State :=
  if rising then s
  else
    match pointHolder s p with
    | none => s
    | some e => postIf (orderHasLifted s e.1) .pointVacated s

/-- The effects of a line's edge (R148 to R151). HALT's edges act through the line's live state alone. -/
def edgeEffect (k : Nat) (rising : Bool) (s : State) : State :=
  if k = 0 then gateEdge rising s
  else if k = 1 then rainEdge rising s
  else if k = 2 then s
  else presenceEdge (k - 2) rising s

/-- A line takes an edge (R145): its live state changes, no period is pending, and the effects follow. -/
def takeEdge (k : Nat) (rising : Bool) (s : State) : State := edgeEffect k rising (setLive k rising none s)

/-- Judges a line's wanted state against its live state (R145): a period begins, runs on or is dropped. With debounce
0 the edge is taken at once, in the step that judges (log 22). A period that has run out, with its DEBOUNCE_EXPIRY not
yet taken, is dropped like any other (log 4). -/
def judgeLine (s : State) (k : Nat) : State :=
  let live := s.lines.getD k ⟨false, none⟩
  if lineWanted s k = live.active then setLive k live.active none s
  else
    match live.period with
    | some _ => s
    | none =>
      if (lineSetting s k).debounce = 0 then takeEdge k (lineWanted s k) s
      else setLive k live.active (some (Config.ticksOfMillis (lineSetting s k).debounce)) s

/-- Judges every line, in order of number. -/
def judgeLines (s : State) : State := (List.range 7).foldl judgeLine s

/-! ## SET_LINE (R146) -/

/-- The eight bytes of a line in the reply (R197). -/
def lineReply (s : State) (k : Nat) : List Byte :=
  let w := lineSetting s k
  [markByte w.enabled, markByte w.activeHigh, byte w.source] ++ be2 w.debounce ++
    [byte (linePin k w.source), markByte (lineLevel s k), markByte (lineActive s k)]

/-- The reply of SET_LINE, both forms (R146, R197). -/
def linesReply (s : State) : List Byte :=
  (List.range 7).flatMap (lineReply s) ++ be2 s.pins.toNat ++
    [markByte s.settings.autoOpen, markByte s.raining, byte (yardModeNumber s.mode)]

/-- Writes the settings of SET_LINE. -/
def writeLine (w : LineWrite) (s : State) : State :=
  { s with
    lineSettings := s.lineSettings.set w.line w.setting
    settings := { s.settings with autoOpen := w.autoOpen.getD s.settings.autoOpen } }

/-- The effects of an accepted SET_LINE on the line (R146): disabling an active line is its falling edge at once; any
other write drops a pending period and judges the line afresh. Where the new debounce is 0 and the wanted state differs,
R146 has the live state keep its value and a period begin from the request, and R145 has the edge taken as soon as it
differs. The model's choice (log 22): the edge is taken within the request, before its reply. -/
def applyLine (w : LineWrite) (s : State) : State :=
  let s1 := writeLine w s
  if w.setting.enabled = false ∧ lineActive s w.line = true then takeEdge w.line false s1
  else judgeLine (setLive w.line (lineActive s w.line) none s1) w.line

/-- SET_LINE at the line unit (R146). -/
def setLineBlock (write : Option LineWrite) (s : State) : Answer :=
  match write with
  | none => taken (linesReply s) s
  | some w =>
    if ¬ lineWriteOk w then refuse .badField s
    else if s.low then refuse .powerLow s
    else taken (linesReply (applyLine w s)) (applyLine w s)

/-- SET_LINE. -/
def execSetLine (write : Option LineWrite) (s : State) : Out := serve (.setLine write) (setLineBlock write) s

/-! ## Events -/

/-- The levels of the pins with one of them changed. -/
def setPin (pins : BitVec 16) (n : Nat) (high : Bool) : BitVec 16 :=
  if high then pins ||| BitVec.twoPow 16 n else pins &&& ~~~(BitVec.twoPow 16 n)

/-- PIN_CHANGE (R144, R145): the pin takes its level, and while the part runs the lines are judged; a line whose
wanted state is as it was is left as it was. -/
def execPinChange (pin : Nat) (high : Bool) (s : State) : Out :=
  let s1 := { s with pins := setPin s.pins pin high }
  .next (if s.running then judgeLines s1 else s1)

/-- DEBOUNCE_EXPIRY (R145): the period has run out, and the line takes its edge. Without a period that has run out
there is no such event (log 2). -/
def execDebounceExpiry (line : Nat) (s : State) : Out :=
  .next
    (if s.running = true ∧ (s.lines.getD line ⟨false, none⟩).period = some 0 then
      takeEdge line (!lineActive s line) s
    else s)

/-- The first stack at or after a place whose bay is not covered (R152). The bay's covered field is read at each of its
stacks (log 17). -/
def nextSweepStack (s : State) (pos : Nat × Nat) : Option (Nat × Nat) :=
  (allStacks s).find? fun bk =>
    !(s.bay bk.1).covered && decide (pos.1 < bk.1 ∨ (pos.1 = bk.1 ∧ pos.2 ≤ bk.2))

/-- The running sweep ends, and a pending one begins (R152; log 17). -/
def endSweep (s : State) : State :=
  if s.sweepPending then { s with sweep := some (0, 0), sweepPending := false } else { s with sweep := none }

/-- WETTING_SWEEP_STACK (R152): the sweep takes its next stack in one claim; past the last stack it ends. -/
def execWettingSweepStack (s : State) : Out :=
  .next
    (if s.running then
      match s.sweep with
      | none => s
      | some pos =>
        match nextSweepStack s pos with
        | none => endSweep s
        | some bk => { wetStack s bk.1 bk.2 with sweep := some (bk.1, bk.2 + 1) }
    else s)

end Sys2Proof.Machine
end

