-- ==== Sys2Proof/Machine/Power.lean ====
section
/-!
DEFINITION. Resets and the supply: the start of a reset (R183), the start-up check with its reconciliation (R57, R184,
R185), and the events POWER_ON, RESET_PIN, PART_STOP, STARTUP_CHECK_END, SUPPLY_DIP and SUPPLY_RECOVERY (R183, R184,
R186).
-/

namespace Sys2Proof.Machine

/-! ## The start of a reset (R183) -/

/-- The raises of the restart count a reset owes: one for a RESET_PIN or RESTART_REQUEST reset (R183). -/
def raisesOf (cause : ResetCause) : Nat :=
  match cause with
  | .powerOn => 0
  | .resetPin => 1
  | .restartRequest => 1

/-- The start of a reset (R183): every volatile record takes its reset value (R81, R82, R142, R147, R152, R155, R159,
R164, R165, R180), the port becomes STARTING, and the supply is judged afresh (R186). The retained tables, the pins
and the queue of commands stand. -/
def startReset (cause : ResetCause) (supply : SupplyStatus) (s : State) : State :=
  { s with
    owedRaises := s.owedRaises + raisesOf cause
    orders := []
    queue := []
    engine := Engine.default
    tasks := []
    stations := List.replicate 8 Station.default
    lines := List.replicate 7 ⟨false, none⟩
    raining := false
    sweep := none
    sweepPending := false
    mode := .closed
    watches := List.replicate 4 Watch.default
    summary := 0#19
    enables := 0x7FFFF#19
    attn := false
    port := .starting
    lastStatus := none
    overrunNoted := false
    clearing := false
    cause := cause
    failedTables := 0#6
    supply := supply
    dipNoted := false }

/-- Every retained table. -/
def allTables : BitVec 6 := 0x3F#6

/-- The store's battery gave out while the supply was off: every table fails its check (R182; log 6). -/
def loseStore (s : State) : State := { s with badTables := allTables }

/-- POWER_ON (R183): the supply rises through the reset level. -/
def execPowerOn (batteryHeld : Bool) (supply : SupplyStatus) (s : State) : Out :=
  .next (startReset .powerOn supply { (if batteryHeld then s else loseStore s) with supplyOff := false })

/-- RESET_PIN (R183): RESET is released; with the supply above the reset level that begins a reset. -/
def execResetPin (supply : SupplyStatus) (s : State) : Out :=
  .next
    (if s.supplyOff then { s with resetHeld := false }
    else startReset .resetPin supply { s with resetHeld := false })

/-! ## The start-up check (R184, R185) -/

/-- The restart record's bit among the retained tables (R191). -/
def recordBit : BitVec 6 := 0x20#6

/-- The tables a check has come to: the restart record first, before any other (R184 step 1). -/
def tablesReached (checked : BitVec 6) : BitVec 6 := if checked = 0#6 then 0#6 else checked ||| recordBit

/-- The tables that fail among those checked (R184 step 1). -/
def failing (checked damaged : BitVec 6) (s : State) : BitVec 6 :=
  (s.badTables ||| damaged) &&& tablesReached checked

/-- The restart record after the tables named have failed (R184 step 1, R185): a failed one starts from its defaults,
and every failed table is carried. -/
def recordAfter (failed : BitVec 6) (r : RestartRecord) : RestartRecord :=
  if failed.getLsbD 5 then ⟨0#16, failed⟩ else ⟨r.count, r.carried ||| failed⟩

/-- The raises owed after the tables named have failed: a failed restart record starts from 0, so of all resets only
the one whose check this is still raises its count (R184 steps 1 and 3; log 7). -/
def owedAfter (failed : BitVec 6) (s : State) : Nat := if failed.getLsbD 5 then raisesOf s.cause else s.owedRaises

/-- Step 1 of the start-up check on the tables checked: each that fails is set whole to its defaults, with a new check
word, and kept as a carried failure (R184, R185). -/
def checkTables (checked damaged : BitVec 6) (s : State) : State :=
  let f := failing checked damaged s
  { s with
    yardMap := if f.getLsbD 0 then YardMap.default else s.yardMap
    products := if f.getLsbD 1 then List.replicate 256 Product.default else s.products
    packs := if f.getLsbD 2 then [] else s.packs
    settings := if f.getLsbD 3 then YardSettings.default else s.settings
    lineSettings := if f.getLsbD 4 then List.replicate 7 lineDefault else s.lineSettings
    restartRecord := recordAfter f s.restartRecord
    owedRaises := owedAfter f s
    badTables := (s.badTables ||| damaged) &&& ~~~(tablesReached checked) }

/-- A failed yard map table or Product Table empties the Pack Table (R184 step 2). -/
def emptyForFailed (s : State) : State :=
  if s.restartRecord.carried.getLsbD 0 = true ∨ s.restartRecord.carried.getLsbD 1 = true then { s with packs := [] }
  else s

/-- The restart count is raised for the resets that owe it (R184 step 3; log 7). -/
def raiseRestarts (s : State) : State :=
  { s with
    restartRecord := { s.restartRecord with count := s.restartRecord.count + BitVec.ofNat 16 s.owedRaises }
    owedRaises := 0 }

/-- A record after pack reconciliation (R57). -/
def Pack.reconciled (p : Pack) : Pack :=
  match p.state with
  | .stored => { p with reservation := none, task := none }
  | .reserved => { p with state := .stored, reservation := none, task := none }
  | .moving => { p with state := .stored, reservation := none, task := none }
  | .lifted =>
    { p with state := .held, location := none, reservation := none, task := none, hold := some .lostInTransit }
  | .loaded =>
    { p with state := .held, location := none, reservation := none, task := none, hold := some .loadedUnconfirmed }
  | .held => { p with reservation := none, task := none }

/-- Pack reconciliation (R184 step 5, R57). -/
def reconcile (s : State) : State := { s with packs := Table.change s.packs fun _ p => p.reconciled }

/-- The failed tables are recorded, and the carried failures cleared (R184 step 6). -/
def recordFailed (s : State) : State :=
  { s with
    failedTables := s.restartRecord.carried
    restartRecord := { s.restartRecord with carried := 0#6 } }

/-- The postings at the end of the check (R184 step 7). -/
def postRestart (s : State) : State :=
  let s1 := post .restarted s
  let s2 := postIf (decide (s.failedTables ≠ 0#6)) .storeLost s1
  let s3 := postIf s.overrunNoted .portOverrun s2
  let s4 := postIf (s.low || s.dipNoted) .supplyDip s3
  { s4 with overrunNoted := false, dipNoted := false }

/-- Steps 1 to 5 of the start-up check, as far as it has come; step 4 rebuilds what the state computes (log 8). -/
def checkSteps (progress : CheckProgress) (damaged : BitVec 6) (s : State) : State :=
  match progress with
  | .checking tables => checkTables tables damaged s
  | .emptied => emptyForFailed (checkTables allTables damaged s)
  | .raised => raiseRestarts (emptyForFailed (checkTables allTables damaged s))
  | .reconciled => reconcile (raiseRestarts (emptyForFailed (checkTables allTables damaged s)))

/-- STARTUP_CHECK_END (R184): the steps of the check up to the port's becoming IDLE and the judging of the lines. -/
def endCheck (damaged : BitVec 6) (s : State) : State :=
  judgeLines { postRestart (recordFailed (checkSteps .reconciled damaged s)) with port := .idle }

/-- STARTUP_CHECK_END. -/
def execStartupCheckEnd (damaged : BitVec 6) (s : State) : Out :=
  .next (if s.stopped = false ∧ s.port = .starting then endCheck damaged s else s)

/-! ## The stop of the part (R183) -/

/-- What an abandoned start-up check had written is kept (R185; log 7). -/
def abandonCheck (progress : CheckProgress) (damaged : BitVec 6) (s : State) : State :=
  if s.stopped = false ∧ s.port = .starting then checkSteps progress damaged s else s

/-- The part is stopped for a cause: the summary is emptied and ATTN driven released (R183). -/
def stopPart (cause : StopCause) (s : State) : State :=
  match cause with
  | .supplyLost => { s with supplyOff := true, summary := 0#19, attn := false }
  | .resetLow => { s with resetHeld := true, summary := 0#19, attn := false }

/-- PART_STOP (R183). -/
def execPartStop (cause : StopCause) (progress : CheckProgress) (damaged : BitVec 6) (s : State) : Out :=
  .next (stopPart cause (abandonCheck progress damaged s))

/-! ## The supply monitor (R186) -/

/-- SUPPLY_DIP (R186): noted during a start-up check, and posted in its claim otherwise. -/
def execSupplyDip (s : State) : Out :=
  .next
    (if s.stopped = true ∨ s.low = true then s
    else if s.port = .starting then { s with supply := .low, dipNoted := true }
    else post .supplyDip { s with supply := .low })

/-- SUPPLY_RECOVERY (R186): a scan held in WAITING is validated. -/
def execSupplyRecovery (s : State) : Out :=
  .next
    (if s.stopped = true ∨ s.low = false then s
    else resumeScan { s with supply := .sound })

end Sys2Proof.Machine
end

