-- ==== Sys2Proof/Machine/PortPeriods.lean ====
section
/-!
DEFINITION. The periods at the port: REQUEST_PERIOD with the checks of its frame (R169, R171 to R175) and READ_PERIOD
with the delivery of a response and the start of a RESTART_REQUEST reset (R170, R179).
-/

namespace Sys2Proof.Machine

/-! ## Bytes clocked out (R170) -/

/-- The bytes of a response its check covers (R172). -/
def Response.covered (r : Response) : List Byte :=
  byte r.code :: byte (statusNumber r.status) :: byte r.payload.length :: r.payload

/-- The frame of a response (R190). -/
def Response.frame (r : Response) : List Byte := Config.responseStart :: (r.covered ++ [crc8 r.covered])

/-- Busy filler for the bytes before a condition's end, then idle filler (R170; log 11). -/
def fillers (clocked lead : Nat) : List Byte :=
  List.replicate (min lead clocked) Config.busyFiller ++ List.replicate (clocked - lead) Config.idleFiller

/-- The port is STARTING or EXECUTING. -/
def Port.busy (p : Port) : Bool :=
  match p with
  | .starting => true
  | .idle => false
  | .executing _ => true
  | .answered _ => false

/-- The fillers of a period, by the port's condition (R170). -/
def periodFillers (s : State) (clocked lead : Nat) : List Byte :=
  if s.port.busy then List.replicate clocked Config.busyFiller else fillers clocked lead

/-- A period that a reset found in progress is lost, and the rest of it is busy filler (R180). -/
def losePeriod (clocked : Nat) (s : State) : State :=
  { s with miso := List.replicate clocked Config.busyFiller }

/-! ## Request periods (R171 to R175) -/

/-- The family's effect on the last status at the start of a request (R175). -/
def clearLast (code : Nat) (s : State) : State :=
  if 1 ≤ familyOf code ∧ familyOf code ≤ 7 then { s with lastStatus := none } else s

/-- The port takes the bytes of a period as a frame (R171, R172 steps 1 to 3): the port executes the request they
spell, or answers a refusal of its own at once. -/
def takeFrame (bytes : List Byte) (s : State) : State :=
  match checkFrame bytes with
  | none => respondAs (echoedCode bytes) (echoedStation bytes) false .badFrame [] s
  | some f =>
    match readRequest f with
    | .error status => respondAs f.code f.station false status [] (clearLast f.code s)
    | .ok c => { clearLast f.code s with port := .executing c }

/-- The release of a request period (R174). -/
def releasePeriod (bytes : List Byte) (s : State) : State :=
  match s.port with
  | .starting => { s with overrunNoted := true }
  | .idle => takeFrame bytes s
  | .executing _ => post .portOverrun s
  | .answered _ => takeFrame bytes (post .portOverrun s)

/-! ## Read periods (R170, R179) -/

/-- The response is read to its check (R170): the port becomes IDLE, or, for a restart response, the reset begins
(R179). -/
def deliver (r : Response) (clocked : Nat) (supply : SupplyStatus) (s : State) : State :=
  if r.restart then
    startReset .restartRequest supply
      { s with miso := r.frame ++ List.replicate (clocked - r.frame.length) Config.busyFiller }
  else
    { s with
      miso := r.frame ++ List.replicate (clocked - r.frame.length) Config.idleFiller
      port := .idle }

/-- A read period that begins while the port is ANSWERED (R170). -/
def readResponse (r : Response) (clocked : Nat) (supply : SupplyStatus) (s : State) : State :=
  if clocked < r.frame.length then { s with miso := r.frame.take clocked } else deliver r clocked supply s

/-- A read period (R170). A period that began before the condition's end gives fillers and delivers nothing. -/
def readPort (clocked lead : Nat) (supply : SupplyStatus) (s : State) : State :=
  match s.port with
  | .answered r =>
    if 0 < lead then { s with miso := fillers clocked lead } else readResponse r clocked supply s
  | .starting => { s with miso := periodFillers s clocked lead }
  | .idle => { s with miso := periodFillers s clocked lead }
  | .executing _ => { s with miso := periodFillers s clocked lead }

/-- A read period that begins after the last reset began (R170): a period of no byte is no period (R169). -/
def readPeriodBytes (clocked lead : Nat) (supply : SupplyStatus) (s : State) : State :=
  if clocked = 0 then s else readPort clocked lead supply s

/-- READ_PERIOD (R170, R180): a stopped part gives none. -/
def execReadPeriod (clocked : Nat) (start : PeriodStart) (supply : SupplyStatus) (s : State) : Out :=
  .next
    (if s.stopped = true then s
    else
      match start with
      | .beforeReset => losePeriod clocked s
      | .fresh => readPeriodBytes clocked 0 supply s
      | .within lead => readPeriodBytes clocked lead supply s)

/-- A request period that begins after the last reset began (R169 to R175): a period of no byte is no period, and a
lead byte of 0x00 makes it a read. -/
def requestPeriodBytes (bytes : List Byte) (lead : Nat) (s : State) : State :=
  match bytes with
  | [] => s
  | b :: _ =>
    if b = 0#8 then readPort bytes.length lead s.supply s
    else releasePeriod bytes { s with miso := periodFillers s bytes.length lead }

/-- A request period that a reset found in progress (R180): none of its bytes is taken, and a release that still meets
the port STARTING is noted as an overrun (R174). -/
def loseRequest (bytes : List Byte) (s : State) : State :=
  if s.port = .starting then { losePeriod bytes.length s with overrunNoted := true } else losePeriod bytes.length s

/-- REQUEST_PERIOD (R169 to R175, R180). -/
def execRequestPeriod (bytes : List Byte) (start : PeriodStart) (s : State) : Out :=
  .next
    (if s.stopped = true then s
    else
      match start with
      | .beforeReset => loseRequest bytes s
      | .fresh => requestPeriodBytes bytes 0 s
      | .within lead => requestPeriodBytes bytes lead s)

end Sys2Proof.Machine
end

