-- ==== Sys2Proof/Machine/Products.lean ====
section
/-!
DEFINITION. The product requests of family 2: SET_PRODUCT with its pruning (R24, R25), READ_PRODUCT (R27) and
SET_SUBSTITUTES (R26).
-/

namespace Sys2Proof.Machine

/-- The entry SET_PRODUCT leaves, before the pruning (R24). -/
def productEntry (old : Product) (defined : Bool) (fields : ProductFields) : Product :=
  if defined then ⟨true, fields, if old.defined then old.substitutes else []⟩
  else if old.defined then Product.default
  else old

/-- Writes a product entry. -/
def writeProduct (code : Nat) (p : Product) (s : State) : State := { s with products := s.products.set code p }

/-- The pruning of R25 keeps a listing of `q` in the list of code `owner`: it is one the change of `code` cannot
reach, or it is sound. -/
def keepsListing (s : State) (code owner : Nat) (p : Product) (q : Nat) : Bool :=
  decide (owner ≠ code ∧ q ≠ code) || sound p (s.product q)

/-- An entry after the pruning (R25). -/
def prunedEntry (s : State) (code : Nat) (e : Product × Nat) : Product :=
  { e.1 with substitutes := e.1.substitutes.filter (keepsListing s code e.2 e.1) }

/-- The product table after the pruning that follows a write of `code` (R25). -/
def prunedProducts (s : State) (code : Nat) : List Product := s.products.zipIdx.map (prunedEntry s code)

/-- The number of listings in a product table. -/
def listings (ps : List Product) : Nat := (ps.map fun p => p.substitutes.length).sum

/-- Prunes the substitute lists. -/
def prune (code : Nat) (s : State) : State := { s with products := prunedProducts s code }

/-- SET_PRODUCT at the Product Table (R24, R25). -/
def setProductBlock (code : Nat) (defined : Bool) (fields : ProductFields) (s : State) : Answer :=
  if ¬ codeOk code ∨ (defined = true ∧ ¬ productFieldsOk fields) then refuse .badField s
  else if s.low then refuse .powerLow s
  else if defined = false ∧ (s.product code).defined = true ∧ productInUse s code = true then refuse .inUse s
  else
    let s1 := writeProduct code (productEntry (s.product code) defined fields) s
    taken (be2 (listings s1.products - listings (prunedProducts s1 code))) (clearStarved (prune code s1))

/-- SET_PRODUCT. -/
def execSetProduct (code : Nat) (defined : Bool) (fields : ProductFields) (s : State) : Out :=
  serve (.setProduct code defined fields) (setProductBlock code defined fields) s

/-- The reply of READ_PRODUCT (R27, R197). -/
def productReply (s : State) (code : Nat) : List Byte :=
  let p := s.product code
  [byte code, markByte p.defined, byte p.fields.species, byte p.fields.grade] ++ be2 p.fields.thickness ++
    be2 p.fields.width ++ [markByte p.fields.needsKiln] ++ be2 p.fields.airDryDays ++
    be2 (chain s code).length ++ [markByte (productInUse s code), byte p.substitutes.length] ++
    p.substitutes.map byte

/-- READ_PRODUCT at the Product Table (R27). -/
def readProductBlock (code : Nat) (s : State) : Answer :=
  if 255 < code then refuse .badField s else taken (productReply s code) s

/-- READ_PRODUCT. -/
def execReadProduct (code : Nat) (s : State) : Out := serve (.readProduct code) (readProductBlock code) s

/-- The codes may stand as the substitute list of a product (R26 check 4): each is defined and sound, none is the
product's own, and none stands twice. -/
def listOk (s : State) (code : Nat) (codes : List Nat) : Bool :=
  codes.all (fun q => decide (q ≠ code) && sound (s.product code) (s.product q)) && decide codes.Nodup

/-- Writes a substitute list. -/
def writeSubstitutes (code : Nat) (codes : List Nat) (s : State) : State :=
  writeProduct code { s.product code with substitutes := codes } s

/-- SET_SUBSTITUTES at the Product Table (R26). -/
def setSubstitutesBlock (code : Nat) (codes : List Nat) (s : State) : Answer :=
  if ¬ codeOk code ∨ 3 < codes.length ∨ ¬ ∀ q ∈ codes, codeOk q then refuse .badField s
  else if s.low then refuse .powerLow s
  else if (s.product code).defined = false then refuse .notFound s
  else if listOk s code codes = false then refuse .badField s
  else taken (byte codes.length :: codes.map byte) (clearStarved (writeSubstitutes code codes s))

/-- SET_SUBSTITUTES. -/
def execSetSubstitutes (code : Nat) (codes : List Nat) (s : State) : Out :=
  serve (.setSubstitutes code codes) (setSubstitutesBlock code codes) s

end Sys2Proof.Machine
end

