-- ==== Sys2Proof/Machine/Stations.lean ====
section
/-!
DEFINITION. The Task Unit: the offer arbiter with TASK_OFFER (R120 to R123), the station requests of family 5 (R125 to
R134), and the events of the task timers OFFER_LAPSE, TASK_LAPSE and CARRY_OVERDUE (R135 to R138).
-/

namespace Sys2Proof.Machine

/-! ## The offer arbiter (R120 to R123) -/

/-- The mass of a task's subject. -/
def subjectMass (s : State) (t : Task) : Nat :=
  match Table.get s.packs t.subject with
  | none => 0
  | some p => p.mass

/-- Where a task's subject stands. -/
def subjectPlace (s : State) (t : Task) : Option Location := (Table.get s.packs t.subject).bind Pack.location

/-- The task is offerable (R120). -/
def offerable (s : State) (t : Task) : Bool :=
  decide (t.state = .opened) && !halted s &&
    (match t.kind with
     | .fetch r => gatesOpen s r t.subject
     | .shift _ => true
     | .giveBack => false)

/-- The station is IDLE and can carry the subject (R121). -/
def canCarry (s : State) (t : Task) (n : Nat) : Bool :=
  match s.station n with
  | none => false
  | some st => decide (st.state = .idle ∧ subjectMass s t ≤ st.capacity.getD 0)

/-- The numbers of the stations. -/
def stationNumbers : List Nat := [1, 2, 3, 4, 5, 6, 7, 8]

/-- The station qualifies for the task (R121): the lapsed station only where no other does. -/
def qualifies (s : State) (t : Task) (n : Nat) : Bool :=
  canCarry s t n &&
    (decide (t.lapsed ≠ some n) || !(stationNumbers.any fun m => decide (m ≠ n) && canCarry s t m))

/-- The order a task serves (R120): a SHIFT serves the order its served pack is reserved for. -/
def servedOrder (s : State) (t : Task) : Option Nat :=
  match t.kind with
  | .fetch r => some r.handle
  | .shift tag => ((Table.get s.packs tag).bind Pack.reservation).map LineRef.handle
  | .giveBack => none

/-- The queue position of the order a task serves (R122). -/
def taskPosition (s : State) (t : Task) : Nat :=
  match servedOrder s t with
  | none => 0
  | some h => queuePosition s h

/-- The rank of tasks (R122): by queue position, then SHIFT before FETCH; equals stand in creation order. -/
def ranksBefore (s : State) (t u : Task) : Bool :=
  decide (taskPosition s t < taskPosition s u ∨
    (taskPosition s t = taskPosition s u ∧ t.isFetch = false ∧ u.isFetch = true))

/-- The tasks that can be offered now (R122 step 1). -/
def offerableTasks (s : State) : List Task :=
  s.tasks.filter fun t => offerable s t && stationNumbers.any (qualifies s t)

/-- The distance of a station from the subject (R122): 30 where it has no last bay. -/
def stationDistance (s : State) (t : Task) (n : Nat) : Nat :=
  match (s.station n).bind Station.lastBay, subjectPlace s t with
  | some a, some l => bayDistance s a l.bay
  | _, _ => 30

/-- The task the arbiter takes (R122 step 1). -/
def chosenTask (s : State) : Option Task := firstBy (ranksBefore s) (offerableTasks s)

/-- The station the arbiter takes for a task (R122 step 2): the nearest, then the lowest number. -/
def chosenStation (s : State) (t : Task) : Option Nat :=
  firstBy (fun m n => decide (stationDistance s t m < stationDistance s t n)) (stationNumbers.filter (qualifies s t))

/-- The suggested destination of a subject that stands in a stack, with its own bay as the reference (R123). -/
def suggestFrom (s : State) (place : Option Location) : Option (Nat × Nat) :=
  match place with
  | none => none
  | some l => suggest s l.bay (some l)

/-- The suggested destination an offer or a late lift gives a task: a SHIFT's alone (R123, R131). -/
def suggestFor (s : State) (t : Task) : Option (Nat × Nat) :=
  match t.kind with
  | .fetch _ => none
  | .shift _ => suggestFrom s (subjectPlace s t)
  | .giveBack => none

/-- The task as an offer leaves it (R123). -/
def offeredTask (s : State) (t : Task) (n : Nat) : Task :=
  { t with
    state := .offered
    station := some n
    suggested := suggestFor s t
    deadline := some (Config.ticksOfSeconds s.settings.timers.offer) }

/-- An offer, in one claim (R123). -/
def makeOffer (t : Task) (n : Nat) (s : State) : State :=
  changeStation n (fun st => { st with state := .offered }) (changeTask t.number (fun _ => offeredTask s t n) s)

/-- TASK_OFFER (R122): the arbiter makes one offer, if one can be made. -/
def execTaskOffer (s : State) : Out :=
  .next
    (if s.running then
      match chosenTask s with
      | none => s
      | some t =>
        match chosenStation s t with
        | none => s
        | some n => makeOffer t n s
    else s)

/-! ## GO_ON_SHIFT and GO_OFF_SHIFT (R125, R126) -/

/-- The block goes on with the record of the station that sends. -/
def withStation (n : Nat) (s : State) (k : Station → Answer) : Answer :=
  match s.station n with
  | none => refuse .badField s
  | some st => k st

/-- GO_ON_SHIFT at the Task Unit (R125). -/
def goOnShiftBlock (n capacity : Nat) (s : State) : Answer :=
  withStation n s fun st =>
    if ¬ inRange 500 6000 capacity then refuse .badField s
    else if s.mode = .closed then refuse .mode s
    else if st.state ≠ .offShift then refuse .wrongState s
    else
      taken []
        (changeStation n (fun u => { u with state := .idle, capacity := some capacity, lapses := 0 }) s)

/-- GO_ON_SHIFT. -/
def execGoOnShift (station capacity : Nat) (s : State) : Out :=
  serve (.goOnShift station capacity) (goOnShiftBlock station capacity) s

/-- A held task that is not LIFTED returns to OPEN with its lapsed station kept (R126). -/
def reopenHeld (n : Nat) (s : State) : State :=
  match heldTask s n with
  | none => s
  | some t => changeTask t.number (Task.toOpen t.lapsed) s

/-- The station holds a task in LIFTED. -/
def holdsLifted (s : State) (n : Nat) : Bool :=
  match heldTask s n with
  | none => false
  | some t => decide (t.state = .lifted)

/-- GO_OFF_SHIFT at the Task Unit (R126). -/
def goOffShiftBlock (n : Nat) (s : State) : Answer :=
  withStation n s fun _ =>
    if holdsLifted s n = true then refuse .wrongState s
    else taken [] (changeStation n Station.offShift (reopenHeld n s))

/-- GO_OFF_SHIFT. -/
def execGoOffShift (station : Nat) (s : State) : Out := serve (.goOffShift station) (goOffShiftBlock station) s

/-! ## POLL_TASK (R127) -/

/-- The handle of the order a FETCH serves. -/
def Task.fetchHandle (t : Task) : Option Nat :=
  match t.kind with
  | .fetch r => some r.handle
  | .shift _ => none
  | .giveBack => none

/-- The loading point of the order a FETCH serves. -/
def servedPoint (s : State) (t : Task) : Option Nat := (t.fetchHandle.bind s.order).bind Order.point

/-- A timer in two bytes. -/
def timerBytes (t : Nat) : List Byte := be2 (Config.secondsOfTicks t)

/-- A destination in two bytes. -/
def destinationBytes (bk : Nat × Nat) : List Byte := [byte bk.1, byte bk.2]

/-- The reply of POLL_TASK with a held task (R194). -/
def heldReply (s : State) (st : Station) (t : Task) : List Byte :=
  presence [st.notice, true, (subjectPlace s t).isSome, t.suggested.isSome, t.deadline.isSome, t.alarm.isSome,
      t.fetchHandle.isSome, (servedPoint s t).isSome] ++
    [byte (stationStateNumber st.state), byte t.number, byte (taskKindNumber t.kind),
      byte (taskStateNumber t.state)] ++
    be3 t.subject ++ be2 (subjectMass s t) ++ orZeros 3 locationBytes (subjectPlace s t) ++
    orZeros 2 destinationBytes t.suggested ++ orZeros 2 timerBytes t.deadline ++ orZeros 2 timerBytes t.alarm ++
    orZeros 1 be1 t.fetchHandle ++ orZeros 1 be1 (servedPoint s t)

/-- The reply of POLL_TASK (R127, R194). -/
def pollReply (s : State) (n : Nat) (st : Station) : List Byte :=
  match heldTask s n with
  | none => presence [st.notice] ++ [byte (stationStateNumber st.state)] ++ List.replicate 19 0#8
  | some t => heldReply s st t

/-- POLL_TASK at the Task Unit (R127): the notice is cleared in the same request. -/
def pollTaskBlock (n : Nat) (s : State) : Answer :=
  withStation n s fun st => taken (pollReply s n st) (changeStation n (fun u => { u with notice := false }) s)

/-- POLL_TASK. -/
def execPollTask (station : Nat) (s : State) : Out := serve (.pollTask station) (pollTaskBlock station) s

/-! ## ACCEPT and DECLINE (R128, R129) -/

/-- The station holds the named task, or the answer is TASK_WITHDRAWN (R128, R129). -/
def withHeld (n task : Nat) (s : State) (k : Task → Answer) : Answer :=
  if ¬ taskOk task then refuse .badField s
  else
    match heldTask s n with
    | none => refuse .taskWithdrawn s
    | some t => if t.number = task then k t else refuse .taskWithdrawn s

/-- An OFFERED task is accepted (R128). -/
def acceptTask (n task : Nat) (s : State) : State :=
  changeStation n (fun st => { st with state := .busy, lapses := 0 })
    (changeTask task
      (fun t => { t with state := .accepted, deadline := some (Config.ticksOfSeconds s.settings.timers.lift) }) s)

/-- ACCEPT at the Task Unit (R128). -/
def acceptBlock (n task : Nat) (s : State) : Answer :=
  withHeld n task s fun t =>
    match t.state with
    | .offered => taken [] (acceptTask n task s)
    | .accepted => taken [] s
    | .lifted => refuse .wrongState s
    | .opened => refuse .taskWithdrawn s

/-- ACCEPT. -/
def execAccept (station task : Nat) (s : State) : Out := serve (.accept station task) (acceptBlock station task) s

/-- A task returns to OPEN with the station as its lapsed station (R129, R136, R137). -/
def lapseTask (n task : Nat) (s : State) : State := changeTask task (Task.toOpen (some n)) s

/-- DECLINE at the Task Unit (R129). -/
def declineBlock (n task : Nat) (s : State) : Answer :=
  withHeld n task s fun t =>
    if t.state = .lifted then refuse .wrongState s
    else taken [] (changeStation n (fun st => { st with state := .idle }) (lapseTask n task s))

/-- DECLINE. -/
def execDecline (station task : Nat) (s : State) : Out :=
  serve (.decline station task) (declineBlock station task) s

/-! ## LIFTED (R130, R131) -/

/-- The task as a lift leaves it (R131 step 2). -/
def liftedTask (s : State) (n : Nat) (suggested : Option (Nat × Nat)) (t : Task) : Task :=
  { t with
    state := .lifted
    station := some n
    suggested := suggested
    lapsed := none
    deadline := none
    alarm := some (Config.ticksOfSeconds s.settings.timers.carry) }

/-- The pack becomes LIFTED by a task, off its stack (R131 step 3). -/
def liftPack (tag task : Nat) (s : State) : State :=
  changePack tag (fun p => { p with state := .lifted, task := some task }) (removeFromStack tag s)

/-- The station after a lift (R131 step 4); a late or unplanned lift sets its lapse count to 0. -/
def stationLifts (place : Option Location) (fresh : Bool) (st : Station) : Station :=
  { st with
    state := .busy
    lastBay := place.map Location.bay
    lapses := if fresh then 0 else st.lapses }

/-- A lift by a task, in one claim (R131). `fresh` says that it is a late lift. -/
def liftBy (n : Nat) (t : Task) (suggested : Option (Nat × Nat)) (fresh : Bool) (s : State) : State :=
  observe (some t.subject) s.packs
    (changeStation n (stationLifts (subjectPlace s t) fresh)
      (liftPack t.subject t.number (changeTask t.number (liftedTask s n suggested) s)))

/-- The RETURN task of an unplanned lift (R131 step 1). -/
def returnTask (s : State) (n tag : Nat) (p : Pack) : Task :=
  ⟨freeTaskNumber s, .giveBack, tag, .lifted, some n, suggestFrom s p.location, none, none,
    some (Config.ticksOfSeconds s.settings.timers.carry)⟩

/-- An unplanned lift, in one claim (R131). -/
def liftUnplanned (n tag : Nat) (p : Pack) (s : State) : State :=
  observe (some tag) s.packs
    (changeStation n (stationLifts p.location true)
      (liftPack tag (freeTaskNumber s) (addTask (returnTask s n tag p) s)))

/-- A pack is the subject of the station's own task (R130 cases 2 to 4). -/
def liftHeld (n tag : Nat) (t : Task) (s : State) : Answer :=
  if t.subject ≠ tag then refuse .wrongPack s
  else if t.state = .lifted then taken [] s
  else taken [] (liftBy n t t.suggested false s)

/-- The pack is the subject of an OPEN task (R130 cases 6 and 7). -/
def liftLate (n tag : Nat) (t : Task) (s : State) : Answer :=
  if t.isFetch = true ∧ movingAbove s tag = true then refuse .notOnTop s
  else taken [] (liftBy n t (suggestFor s t) true s)

/-- A pack nobody asked for (R130 cases 8 to 11). -/
def liftFree (n tag : Nat) (p : Pack) (s : State) : Answer :=
  if p.state ≠ .stored then refuse .busyPack s
  else if dig s tag ≠ 0 then refuse .notOnTop s
  else if freeTasks s = 0 then refuse .tableFull (post .tableFull s)
  else taken [] (liftUnplanned n tag p s)

/-- The OPEN task whose subject is the pack. -/
def openTaskOn (s : State) (tag : Nat) : Option Task :=
  s.tasks.find? fun t => decide (t.subject = tag ∧ t.state = .opened)

/-- The station holds no task (R130 cases 5 to 11). -/
def liftIdle (n tag : Nat) (s : State) : Answer :=
  match Table.get s.packs tag with
  | none => refuse .notFound s
  | some p =>
    match openTaskOn s tag with
    | some t => liftLate n tag t s
    | none => liftFree n tag p s

/-- LIFTED at the Task Unit (R130). -/
def liftedBlock (n tag : Nat) (s : State) : Answer :=
  withStation n s fun st =>
    if ¬ tagOk tag then refuse .badField s
    else if s.low then refuse .powerLow s
    else if st.state = .offShift then refuse .wrongState s
    else
      match heldTask s n with
      | some t => liftHeld n tag t s
      | none => liftIdle n tag s

/-- LIFTED. -/
def execLifted (station tag : Nat) (s : State) : Out := serve (.lifted station tag) (liftedBlock station tag) s

/-! ## DROPPED (R132) -/

/-- The line is loaded with one more pack, and the order becomes COMPLETE when every line is full (R69). -/
def Order.loadOne (n : Nat) (o : Order) : Order :=
  let o1 := o.changeLine n fun l => { l with loaded := l.loaded + 1 }
  if o1.lines.all OrderLine.full then { o1 with state := .complete } else o1

/-- The order becomes COMPLETE with one more pack on the line (R69). -/
def completes (s : State) (r : LineRef) : Bool :=
  match s.order r.handle with
  | none => false
  | some o => (o.loadOne r.line).lines.all OrderLine.full

/-- The served line of a dropped FETCH is loaded, and ORDER_COMPLETE posted where the order is (R69). -/
def loadLine (r : LineRef) (s : State) : State :=
  postIf (completes s r) .orderComplete (changeOrder r.handle (Order.loadOne r.line) s)

/-- The station becomes IDLE; a drop to a stack gives it its last bay (R132). -/
def stationDrops (bay : Option Nat) (st : Station) : Station :=
  match bay with
  | none => { st with state := .idle }
  | some b => { st with state := .idle, lastBay := some b }

/-- The pack becomes LOADED, off any stack (R31, R132). -/
def loadPack (tag : Nat) (s : State) : State :=
  changePack tag (fun p => { p with state := .loaded, task := none }) (removeFromStack tag s)

/-- A FETCH is dropped to the truck (R132). -/
def dropOnTruck (n : Nat) (t : Task) (r : LineRef) (s : State) : State :=
  endClaim (some t.subject) s.packs
    (changeStation n (stationDrops none)
      (retireTask t.number
        (loadLine r (loadPack t.subject s))))

/-- The pack's reservation is judged where the put-down wets it (R154). -/
def judgeRained (bay tag : Nat) (s : State) : State := if rainsOn s bay then judgeWetted s tag else s

/-- A FETCH subject is set back on a stack (R132). -/
def setBack (n : Nat) (t : Task) (bay stack : Nat) (s : State) : State :=
  endClaim (some t.subject) s.packs
    (judgeRained bay t.subject
      (changeStation n (stationDrops (some bay))
        (lapseTask n t.number
          (putDown bay stack t.subject (fun p => { p with state := .reserved }) s))))

/-- A SHIFT or RETURN is dropped to a stack (R132): the pack becomes STORED and the task retires. -/
def dropOnStack (n : Nat) (t : Task) (bay stack : Nat) (s : State) : State :=
  endClaim (some t.subject) s.packs
    (changeStation n (stationDrops (some bay))
      (retireTask t.number (putDown bay stack t.subject Pack.toStored s)))

/-- The order has a truck at its loading point (R132 check 5). -/
def truckThere (s : State) (h : Nat) : Bool :=
  match s.order h with
  | none => false
  | some o => truckPresent s o

/-- A drop to TRUCK by the holder of a LIFTED task (R132 checks 4 and 5). -/
def dropTruck (n : Nat) (t : Task) (s : State) : Answer :=
  match t.kind with
  | .fetch r => if truckThere s r.handle = true then taken [] (dropOnTruck n t r s) else refuse .noTruck s
  | .shift _ => refuse .badField s
  | .giveBack => refuse .badField s

/-- A drop to a stack by the holder of a LIFTED task (R132 check 6). -/
def dropStack (n : Nat) (t : Task) (bay stack : Nat) (s : State) : Answer :=
  match putDownCheck s bay stack .mode with
  | some status => refuse status s
  | none => taken [] (if t.isFetch then setBack n t bay stack s else dropOnStack n t bay stack s)

/-- The destination names a stack that is there (R132 check 1). -/
def destinationOk (s : State) (d : Destination) : Bool :=
  match d with
  | .truck => true
  | .stack bay stack => decide (bay ≤ 63 ∧ stack < (s.bay bay).stackCount)

/-- The LIFTED task a station holds. -/
def liftedTaskOf (s : State) (n : Nat) : Option Task := (heldTask s n).filter fun t => decide (t.state = .lifted)

/-- DROPPED at the Task Unit (R132). -/
def droppedBlock (n : Nat) (dest : Destination) (s : State) : Answer :=
  if destinationOk s dest = false then refuse .badField s
  else if s.low then refuse .powerLow s
  else
    match liftedTaskOf s n with
    | none => refuse .wrongState s
    | some t =>
      match dest with
      | .truck => dropTruck n t s
      | .stack bay stack => dropStack n t bay stack s

/-- DROPPED. -/
def execDropped (station : Nat) (dest : Destination) (s : State) : Out :=
  serve (.dropped station dest) (droppedBlock station dest) s

/-! ## REPORT_MISSING and REPORT_POSITION (R133, R134) -/

/-- The reservation of a missing FETCH subject is released (R133 step 2). -/
def releaseMissing (t : Task) (s : State) : State :=
  match t.isFetch, Table.get s.packs t.subject with
  | true, some p => lowerCountsOf p (releaseShifts t.subject s)
  | _, _ => s

/-- The subject becomes HELD MISSING, off its stack (R133 step 1). -/
def losePack (tag : Nat) (s : State) : State := changePack tag (Pack.toHeld .missing) (removeFromStack tag s)

/-- A missing report, in one claim (R133). -/
def reportLost (n : Nat) (t : Task) (s : State) : State :=
  endClaim (some t.subject) s.packs
    (changeStation n (stationDrops ((subjectPlace s t).map Location.bay))
      (post .packMissing (retireTask t.number (losePack t.subject (releaseMissing t s)))))

/-- REPORT_MISSING at the Task Unit (R133). -/
def reportMissingBlock (n : Nat) (s : State) : Answer :=
  if s.low then refuse .powerLow s
  else
    match heldTask s n with
    | none => refuse .wrongState s
    | some t => if t.state = .lifted then refuse .wrongState s else taken [] (reportLost n t s)

/-- REPORT_MISSING. -/
def execReportMissing (station : Nat) (s : State) : Out :=
  serve (.reportMissing station) (reportMissingBlock station) s

/-- REPORT_POSITION at the Task Unit (R134). -/
def reportPositionBlock (n bay : Nat) (s : State) : Answer :=
  if 63 < bay then refuse .badField s
  else taken [] (changeStation n (fun st => { st with lastBay := some bay }) s)

/-- REPORT_POSITION. -/
def execReportPosition (station bay : Nat) (s : State) : Out :=
  serve (.reportPosition station bay) (reportPositionBlock station bay) s

/-! ## Timers (R136 to R138) -/

/-- A lapsed offer costs its station one lapse; at three it goes off shift (R136). -/
def stationLapses (st : Station) : Station :=
  if 3 ≤ st.lapses + 1 then { st with state := .offShift, capacity := none, lapses := 3 }
  else { st with state := .idle, lapses := st.lapses + 1 }

/-- The station is lost with its next lapse (R136). -/
def losesStation (s : State) (n : Nat) : Bool :=
  match s.station n with
  | none => false
  | some st => decide (3 ≤ st.lapses + 1)

/-- The task with a number, in a state whose deadline has run out. -/
def dueTask (s : State) (task : Nat) (st : TaskState) : Option Task :=
  (s.task task).filter fun t => decide (t.state = st ∧ t.deadline = some 0)

/-- OFFER_LAPSE (R136). -/
def execOfferLapse (task : Nat) (s : State) : Out :=
  .next
    (if s.running then
      match (dueTask s task .offered).bind Task.station with
      | none => s
      | some n =>
        postIf (losesStation s n) .stationLost (changeStation n stationLapses (lapseTask n task s))
    else s)

/-- TASK_LAPSE (R137). -/
def execTaskLapse (task : Nat) (s : State) : Out :=
  .next
    (if s.running then
      match (dueTask s task .accepted).bind Task.station with
      | none => s
      | some n => post .taskLapsed (dismiss (some n) (lapseTask n task s))
    else s)

/-- The task is LIFTED with an alarm that has run out. -/
def alarmDue (s : State) (task : Nat) : Bool :=
  match s.task task with
  | none => false
  | some t => decide (t.state = .lifted ∧ t.alarm = some 0)

/-- CARRY_OVERDUE (R138). -/
def execCarryOverdue (task : Nat) (s : State) : Out :=
  .next
    (if s.running = true ∧ alarmDue s task = true then
      post .carryOverdue (changeTask task (fun t => { t with alarm := none }) s)
    else s)

end Sys2Proof.Machine
end

