-- ==== Sys2Proof/Machine/Watches.lean ====
section
/-!
DEFINITION. The watch requests of family 6 (R163). What a change of a record does to the entries stands in Ops (R161).
-/

namespace Sys2Proof.Machine

/-- A watch entry's number is in range (R163). -/
abbrev entryOk (n : Nat) : Prop := inRange 1 Config.watchEntries n

/-- The watch entry with a number (R159). -/
def State.watch (s : State) (n : Nat) : Watch := (nth s.watches n).getD Watch.default

/-- Writes a watch entry. -/
def writeWatch (n : Nat) (w : Watch) (s : State) : State := { s with watches := changeNth s.watches n fun _ => w }

/-- The eleven bytes of a watch entry (R197). -/
def watchReply (s : State) (n : Nat) : List Byte :=
  let w := s.watch n
  presence [w.lastTag.isSome] ++
    [byte n, markByte w.armed, byte (watchFieldNumber w.field), w.value, w.mask, markByte w.oneShot, byte w.hits] ++
    orZeros 3 be3 w.lastTag

/-- The entry SET_WATCH writes: armed, with no hit (R163). -/
def armedWatch (field : WatchField) (value mask : Nat) (oneShot : Bool) : Watch :=
  ⟨true, field, BitVec.ofNat 8 value, BitVec.ofNat 8 mask, oneShot, 0, none⟩

/-- SET_WATCH at the Watch Unit (R163). -/
def setWatchBlock (entry : Nat) (field : WatchField) (value mask : Nat) (oneShot : Bool) (s : State) : Answer :=
  if ¬ entryOk entry ∨ 255 < value ∨ 255 < mask then refuse .badField s
  else
    let s1 := writeWatch entry (armedWatch field value mask oneShot) s
    taken (watchReply s1 entry) s1

/-- SET_WATCH. -/
def execSetWatch (entry : Nat) (field : WatchField) (value mask : Nat) (oneShot : Bool) (s : State) : Out :=
  serve (.setWatch entry field value mask oneShot) (setWatchBlock entry field value mask oneShot) s

/-- READ_WATCH at the Watch Unit (R163): one entry, or all four. -/
def readWatchBlock (entry : Option Nat) (s : State) : Answer :=
  match entry with
  | none => taken ([1, 2, 3, 4].flatMap (watchReply s)) s
  | some n => if ¬ entryOk n then refuse .badField s else taken (watchReply s n) s

/-- READ_WATCH. -/
def execReadWatch (entry : Option Nat) (s : State) : Out := serve (.readWatch entry) (readWatchBlock entry) s

/-- CLEAR_WATCH at the Watch Unit (R163). -/
def clearWatchBlock (entry : Nat) (s : State) : Answer :=
  if ¬ entryOk entry then refuse .badField s else taken [] (writeWatch entry Watch.default s)

/-- CLEAR_WATCH. -/
def execClearWatch (entry : Nat) (s : State) : Out := serve (.clearWatch entry) (clearWatchBlock entry) s

end Sys2Proof.Machine
end

