-- ==== Sys2Proof/Machine/Yard.lean ====
section
/-!
DEFINITION. The yard requests of family 1 but SET_LINE: SET_BAY (R12, R13), READ_BAY (R14), SET_LOADING_POINT (R15),
SET_TIMERS (R141), SET_WEIGHTS (R94), SET_DAY (R90), CLOSE_YARD and OPEN_YARD (R156), CLEAR_YARD with the event of
its end (R54).
-/

namespace Sys2Proof.Machine

/-! ## Bays -/

/-- The given geometry is the entry's (R12). -/
def Bay.sameGeometry (e : Bay) (row col stackCount tierLimit : Nat) : Bool :=
  decide (e.row = row ∧ e.col = col ∧ e.stackCount = stackCount ∧ e.tierLimit = tierLimit)

/-- A stack of the bay holds a pack (R12 check 4). -/
def bayHoldsPack (s : State) (b : Nat) : Bool := s.packs.any fun e => e.2.inBay b

/-- Another enabled bay stands at the place (R2). -/
def placeTaken (s : State) (b row col : Nat) : Bool :=
  (List.range Config.bayCount).any fun n =>
    decide (n ≠ b) && (s.bay n).enabled && decide ((s.bay n).row = row ∧ (s.bay n).col = col)

/-- Writes a bay entry. -/
def writeBay (b : Nat) (e : Bay) (s : State) : State :=
  { s with yardMap := { s.yardMap with bays := s.yardMap.bays.set b e } }

/-- The effects of an accepted SET_BAY (R12, R13): the entry is written, every STARVED flag is cleared, and packs in a
bay uncovered in the rain are wetted (R153), to the watches one claim for each stack (log 13). -/
def applyBay (b : Nat) (e : Bay) (s : State) : State :=
  let s1 := clearStarved (writeBay b e s)
  if (s.bay b).covered = true ∧ e.covered = false ∧ s.raining = true then wetBay b s1 else s1

/-- SET_BAY at the Yard Map (R12). -/
def setBayBlock (bay : Nat) (enabled covered : Bool) (row col stackCount tierLimit : Nat) (s : State) : Answer :=
  if ¬ bayFieldsOk bay row col stackCount tierLimit then refuse .badField s
  else if s.low then refuse .powerLow s
  else if (s.bay bay).sameGeometry row col stackCount tierLimit = false ∧ s.mode ≠ .closed then refuse .mode s
  else if (s.bay bay).sameGeometry row col stackCount tierLimit = false ∧ bayHoldsPack s bay = true then
    refuse .inUse s
  else if enabled = true ∧ placeTaken s bay row col = true then refuse .duplicate s
  else taken [] (applyBay bay ⟨enabled, covered, row, col, stackCount, tierLimit⟩ s)

/-- SET_BAY. -/
def execSetBay (bay : Nat) (enabled covered : Bool) (row col stackCount tierLimit : Nat) (s : State) : Out :=
  serve (.setBay bay enabled covered row col stackCount tierLimit)
    (setBayBlock bay enabled covered row col stackCount tierLimit) s

/-- The reply of READ_BAY (R14, R197). -/
def bayReply (s : State) (b : Nat) : List Byte :=
  let e := s.bay b
  [byte b, markByte e.enabled, markByte e.covered, byte e.row, byte e.col, byte e.stackCount, byte e.tierLimit] ++
    (List.range e.stackCount).flatMap fun k => [byte (height s b k), markByte (holdsReserved s b k)]

/-- READ_BAY at the Yard Map (R14). -/
def readBayBlock (bay : Nat) (s : State) : Answer :=
  if 63 < bay then refuse .badField s else taken (bayReply s bay) s

/-- READ_BAY. -/
def execReadBay (bay : Nat) (s : State) : Out := serve (.readBay bay) (readBayBlock bay) s

/-! ## Loading points -/

/-- The reply of SET_LOADING_POINT, both forms (R15, R197). -/
def pointsReply (s : State) : List Byte :=
  (List.range 4).flatMap (fun n =>
    [byte (s.pointAt (n + 1)).row, byte (s.pointAt (n + 1)).col, markByte (pointActive s (n + 1))]) ++
    [byte s.yardMap.defaultPoint]

/-- Writes a loading point, and makes it the default if asked (R15). -/
def writePoint (w : PointWrite) (s : State) : State :=
  { s with
    yardMap :=
      { s.yardMap with
        points := changeNth s.yardMap.points w.point fun _ => ⟨w.row, w.col⟩
        defaultPoint := if w.makeDefault then w.point else s.yardMap.defaultPoint } }

/-- SET_LOADING_POINT at the Yard Map (R15). -/
def setLoadingPointBlock (write : Option PointWrite) (s : State) : Answer :=
  match write with
  | none => taken (pointsReply s) s
  | some w =>
    if ¬ pointWriteOk w then refuse .badField s
    else if s.low then refuse .powerLow s
    else if s.pointAt w.point ≠ ⟨w.row, w.col⟩ ∧ s.mode ≠ .closed then refuse .mode s
    else taken (pointsReply (writePoint w s)) (writePoint w s)

/-- SET_LOADING_POINT. -/
def execSetLoadingPoint (write : Option PointWrite) (s : State) : Out :=
  serve (.setLoadingPoint write) (setLoadingPointBlock write) s

/-! ## Yard settings -/

/-- The reply of SET_TIMERS (R141, R197). -/
def timersReply (s : State) : List Byte :=
  be2 s.settings.timers.offer ++ be2 s.settings.timers.lift ++ be2 s.settings.timers.carry ++
    be2 s.settings.timers.proposal

/-- Writes the timer settings. -/
def writeTimers (w : TimerSettings) (s : State) : State := { s with settings := { s.settings with timers := w } }

/-- SET_TIMERS at the Task Unit (R141). -/
def setTimersBlock (write : Option TimerSettings) (s : State) : Answer :=
  match write with
  | none => taken (timersReply s) s
  | some w =>
    if ¬ timersOk w then refuse .badField s
    else if s.low then refuse .powerLow s
    else taken (timersReply (writeTimers w s)) (writeTimers w s)

/-- SET_TIMERS. -/
def execSetTimers (write : Option TimerSettings) (s : State) : Out :=
  serve (.setTimers write) (setTimersBlock write) s

/-- The reply of SET_WEIGHTS (R94, R197). -/
def weightsReply (s : State) : List Byte :=
  [byte s.settings.weights.dig, byte s.settings.weights.distance, byte s.settings.weights.age,
    byte s.settings.weights.substitution]

/-- Writes the weights. -/
def writeWeights (w : Weights) (s : State) : State := { s with settings := { s.settings with weights := w } }

/-- SET_WEIGHTS at the Allocator (R94): it clears no STARVED flag. -/
def setWeightsBlock (write : Option Weights) (s : State) : Answer :=
  match write with
  | none => taken (weightsReply s) s
  | some w =>
    if ¬ weightsOk w then refuse .badField s
    else if s.low then refuse .powerLow s
    else taken (weightsReply (writeWeights w s)) (writeWeights w s)

/-- SET_WEIGHTS. -/
def execSetWeights (write : Option Weights) (s : State) : Out :=
  serve (.setWeights write) (setWeightsBlock write) s

/-- Writes the yard day. -/
def writeDay (d : Nat) (s : State) : State := { s with settings := { s.settings with yardDay := d } }

/-- SET_DAY at the Allocator (R90). -/
def setDayBlock (day : Option Nat) (s : State) : Answer :=
  match day with
  | none => taken (be2 s.settings.yardDay) s
  | some d =>
    if d ≤ s.settings.yardDay ∨ 65535 < d then refuse .badField s
    else if s.low then refuse .powerLow s
    else taken (be2 d) (clearStarved (writeDay d s))

/-- SET_DAY. -/
def execSetDay (day : Option Nat) (s : State) : Out := serve (.setDay day) (setDayBlock day) s

/-! ## The yard mode -/

/-- Answers with the yard mode as it stands after the request (R156). -/
def modeAnswer (s : State) : Answer := taken [byte (yardModeNumber s.mode)] s

/-- CLOSE_YARD at the line unit (R156): from OPEN the mode becomes CLOSING, and R157 judges at once. -/
def closeYardBlock (s : State) : Answer :=
  modeAnswer (if s.mode = .opened then judgeClosing { s with mode := .closing } else s)

/-- CLOSE_YARD. -/
def execCloseYard (s : State) : Out := serve .closeYard closeYardBlock s

/-- OPEN_YARD at the line unit (R156). -/
def openYardBlock (s : State) : Answer := modeAnswer { s with mode := .opened }

/-- OPEN_YARD. -/
def execOpenYard (s : State) : Out := serve .openYard openYardBlock s

/-! ## CLEAR_YARD (R54) -/

/-- The bit of the Pack Table among the retained tables (R191). -/
def packTableBit : BitVec 6 := 0x04#6

/-- The Pack Table's taking of CLEAR_YARD (R54): the retained copy is marked invalid, and the request runs on. -/
def takeClearYard (s : State) : State :=
  if s.low then respond .clearYard (refuse .powerLow s)
  else if s.mode ≠ .closed then respond .clearYard (refuse .mode s)
  else { s with clearing := true, badTables := s.badTables ||| packTableBit }

/-- CLEAR_YARD. -/
def execClearYard (s : State) : Out := .next (intake .clearYard takeClearYard s)

/-- Every live record retires, each as one change, and the retained copy is valid again, empty (R54; log 9). -/
def emptyYard (s : State) : State :=
  observe none s.packs
    { s with packs := [], clearing := false, badTables := s.badTables &&& ~~~packTableBit }

/-- CLEAR_YARD_END (R54): the running CLEAR_YARD completes and answers with the number of records retired. -/
def execClearYardEnd (s : State) : Out :=
  .next
    (if s.running = true ∧ s.clearing = true then
      respond .clearYard (taken (be2 s.packs.length) (emptyYard s))
    else s)

end Sys2Proof.Machine
end

