-- ==== Sys2Proof/Machine/Dispatch.lean ====
section
/-!
DEFINITION. Which meaning each command has: one arm for each constructor of `Instr`.
-/

namespace Sys2Proof.Machine

/-- The effect of a command on everything but the queue. -/
def exec (i : Instr) (s : State) : Host.Outcome State Fault Refusal :=
  match i with
  | .statusSummary => Sys2Proof.Machine.execStatusSummary s
  | .getCapacities => Sys2Proof.Machine.execGetCapacities s
  | .getFamilies => Sys2Proof.Machine.execGetFamilies s
  | .fetchEvents => Sys2Proof.Machine.execFetchEvents s
  | .setEventEnables set => Sys2Proof.Machine.execSetEventEnables set s
  | .setBay bay enabled covered row col stackCount tierLimit => Sys2Proof.Machine.execSetBay bay enabled covered row col stackCount tierLimit s
  | .readBay bay => Sys2Proof.Machine.execReadBay bay s
  | .setLoadingPoint write => Sys2Proof.Machine.execSetLoadingPoint write s
  | .setLine write => Sys2Proof.Machine.execSetLine write s
  | .setTimers write => Sys2Proof.Machine.execSetTimers write s
  | .setWeights write => Sys2Proof.Machine.execSetWeights write s
  | .setDay day => Sys2Proof.Machine.execSetDay day s
  | .closeYard => Sys2Proof.Machine.execCloseYard s
  | .openYard => Sys2Proof.Machine.execOpenYard s
  | .clearYard => Sys2Proof.Machine.execClearYard s
  | .clearYardEnd => Sys2Proof.Machine.execClearYardEnd s
  | .setProduct code defined fields => Sys2Proof.Machine.execSetProduct code defined fields s
  | .readProduct code => Sys2Proof.Machine.execReadProduct code s
  | .setSubstitutes code codes => Sys2Proof.Machine.execSetSubstitutes code codes s
  | .receivePack tag product length count mass drying bay stack ready => Sys2Proof.Machine.execReceivePack tag product length count mass drying bay stack ready s
  | .readPack tag => Sys2Proof.Machine.execReadPack tag s
  | .readStack bay stack => Sys2Proof.Machine.execReadStack bay stack s
  | .recordMove tag bay stack => Sys2Proof.Machine.execRecordMove tag bay stack s
  | .holdPack tag => Sys2Proof.Machine.execHoldPack tag s
  | .releasePack tag place => Sys2Proof.Machine.execReleasePack tag place s
  | .scrapPack tag => Sys2Proof.Machine.execScrapPack tag s
  | .clearWetted tag bay => Sys2Proof.Machine.execClearWetted tag bay s
  | .findOldest code after => Sys2Proof.Machine.execFindOldest code after s
  | .checkIn truck level payload supervised lines => Sys2Proof.Machine.execCheckIn truck level payload supervised lines s
  | .readOrder handle truck => Sys2Proof.Machine.execReadOrder handle truck s
  | .setPoint handle point => Sys2Proof.Machine.execSetPoint handle point s
  | .setLevel handle level => Sys2Proof.Machine.execSetLevel handle level s
  | .cancel handle => Sys2Proof.Machine.execCancel handle s
  | .depart handle => Sys2Proof.Machine.execDepart handle s
  | .confirmProposal handle tag => Sys2Proof.Machine.execConfirmProposal handle tag s
  | .rejectProposal handle tag => Sys2Proof.Machine.execRejectProposal handle tag s
  | .goOnShift station capacity => Sys2Proof.Machine.execGoOnShift station capacity s
  | .goOffShift station => Sys2Proof.Machine.execGoOffShift station s
  | .pollTask station => Sys2Proof.Machine.execPollTask station s
  | .accept station task => Sys2Proof.Machine.execAccept station task s
  | .decline station task => Sys2Proof.Machine.execDecline station task s
  | .lifted station tag => Sys2Proof.Machine.execLifted station tag s
  | .dropped station dest => Sys2Proof.Machine.execDropped station dest s
  | .reportMissing station => Sys2Proof.Machine.execReportMissing station s
  | .reportPosition station bay => Sys2Proof.Machine.execReportPosition station bay s
  | .setWatch entry field value mask oneShot => Sys2Proof.Machine.execSetWatch entry field value mask oneShot s
  | .readWatch entry => Sys2Proof.Machine.execReadWatch entry s
  | .clearWatch entry => Sys2Proof.Machine.execClearWatch entry s
  | .restart => Sys2Proof.Machine.execRestart s
  | .requestPeriod bytes start => Sys2Proof.Machine.execRequestPeriod bytes start s
  | .readPeriod clocked start supply => Sys2Proof.Machine.execReadPeriod clocked start supply s
  | .powerOn batteryHeld supply => Sys2Proof.Machine.execPowerOn batteryHeld supply s
  | .resetPin supply => Sys2Proof.Machine.execResetPin supply s
  | .partStop cause progress damaged => Sys2Proof.Machine.execPartStop cause progress damaged s
  | .startupCheckEnd damaged => Sys2Proof.Machine.execStartupCheckEnd damaged s
  | .supplyDip => Sys2Proof.Machine.execSupplyDip s
  | .supplyRecovery => Sys2Proof.Machine.execSupplyRecovery s
  | .pinChange pin high => Sys2Proof.Machine.execPinChange pin high s
  | .debounceExpiry line => Sys2Proof.Machine.execDebounceExpiry line s
  | .wettingSweepStack => Sys2Proof.Machine.execWettingSweepStack s
  | .scanStart => Sys2Proof.Machine.execScanStart s
  | .firstPassVisit => Sys2Proof.Machine.execFirstPassVisit s
  | .secondPassVisit => Sys2Proof.Machine.execSecondPassVisit s
  | .passEnd => Sys2Proof.Machine.execPassEnd s
  | .taskOffer => Sys2Proof.Machine.execTaskOffer s
  | .offerLapse task => Sys2Proof.Machine.execOfferLapse task s
  | .taskLapse task => Sys2Proof.Machine.execTaskLapse task s
  | .carryOverdue task => Sys2Proof.Machine.execCarryOverdue task s
  | .proposalExpiry handle => Sys2Proof.Machine.execProposalExpiry handle s

end Sys2Proof.Machine
end

