-- ==== Sys2Proof/Safety.lean ====
section
/-!
DEFINITION. The laws of the device as predicates on a state: what the statements about every step are made of. The
spec numbers twelve laws, and all of them stand here: law 1 (R32), law 2 (R35), law 3 (R31), law 4 (R36), law 5 (R37),
laws 6 and 7 (R66, R67), law 8 (R119), law 9 (R33, R60, R117), law 10 (R155), law 11 (R166) and law 12 (R72); and with
them the order queue (R62), the completeness of CLOSING (R157) and the sizes of the fixed tables (R1, R17, R118, R143,
R159). Beside them stand the stacks, chains and walks the statements speak of (R5, R34, R89, R91), and the outcomes of
requests.
-/

namespace Sys2Proof.Safety

open Sys2Proof.Machine

/-- Law 11 (R166): the attention pin is asserted exactly when the summary holds an enabled kind. -/
def attnLaw (s : State) : Prop := s.attn = s.wantsAttention

/-- Law 10 (R155): while the yard mode is CLOSED, no order and no task is live and every station is OFF_SHIFT. -/
def closedLaw (s : State) : Prop :=
  s.mode = .closed → s.orders = [] ∧ s.tasks = [] ∧ ∀ st ∈ s.stations, st.state = .offShift

/-- The mode is never CLOSING with both tables empty between claims (R157). -/
def closingLaw (s : State) : Prop := s.mode = .closing → s.orders ≠ [] ∨ s.tasks ≠ []

/-- Law 1 (R32) and the uniqueness of handles (R60): the keys of both tables rise strictly, so none stands twice. -/
def keyLaw (s : State) : Prop := Table.rising s.packs ∧ Table.rising s.orders

/-- Law 9 (R33, R60, R117): no more records live than the part has places for. -/
def capacityLaw (s : State) : Prop :=
  s.packs.length ≤ Config.packCapacity ∧ s.orders.length ≤ Config.orderCapacity ∧
    s.tasks.length ≤ Config.taskCapacity

/-- The tables of fixed size have their size (R1, R3, R17, R118, R143, R159), and no substitute list holds more than
three codes (R19). -/
def sizeLaw (s : State) : Prop :=
  s.yardMap.bays.length = 64 ∧ s.yardMap.points.length = 4 ∧ s.products.length = 256 ∧
    s.lineSettings.length = 7 ∧ s.lines.length = 7 ∧ s.stations.length = 8 ∧ s.watches.length = 4 ∧
    ∀ p ∈ s.products, p.substitutes.length ≤ Config.substitutesPerProduct

/-- What an order keeps to: no line is allocated above its quantity (law 6, R66), the committed mass never exceeds the
payload (law 7, R67), the rejected list holds at most 8 tags, each once (R71), and a proposal stands only in a
supervised order, for a line whose allocated count is below its quantity (law 12, R72, R105). -/
def orderOk (o : Order) : Prop :=
  (∀ l ∈ o.lines, l.allocated ≤ l.item.quantity) ∧ o.committed ≤ o.payload ∧
    o.rejected.length ≤ Config.rejectedTags ∧ o.rejected.Nodup ∧
    ∀ pr, o.proposal = some pr →
      o.supervised = true ∧ ∃ l, nth o.lines pr.line = some l ∧ l.allocated < l.item.quantity

/-- Every live order keeps to it. -/
def orderLaw (s : State) : Prop := ∀ e ∈ s.orders, orderOk e.2

/-- The queue holds every live order once and no other entry, higher levels first (R62). -/
def queueLaw (s : State) : Prop :=
  s.queue.Nodup ∧ (∀ h, h ∈ s.queue ↔ h ∈ s.orders.keys) ∧
    s.queue.Pairwise fun a b => levelOf s b ≤ levelOf s a

/-- Law 2 (R35) without its limit: the packs of every stack occupy the tiers from 0 up without a gap. -/
def tierLaw (s : State) : Prop :=
  ∀ b k, (stackList s b k).map (fun e => e.2.tier) = List.range (height s b k)

/-- Law 2 (R35), with what it rests on: the tiers of every stack are without a gap, no tier limit passes 6 (R1), no
stack stands above its bay's limit, and no LIFTED or LOADED pack has a place in a stack (law 3, R31). -/
def stackLaw (s : State) : Prop :=
  tierLaw s ∧ (∀ b, (s.bay b).tierLimit ≤ 6) ∧ (∀ b k, height s b k ≤ (s.bay b).tierLimit) ∧
    ∀ e ∈ s.packs, e.2.state = .lifted ∨ e.2.state = .loaded → e.2.location = none

/-! ## The laws that tie packs, tasks, stations and orders together -/

/-- The pack stands above the other one in its stack. -/
def above (upper lower : Pack) : Bool :=
  match lower.location, upper.location with
  | some l, some m => decide (m.bay = l.bay ∧ m.stack = l.stack ∧ l.tier < m.tier)
  | _, _ => false

/-- Law 3 and the hold reason (R31): a pack has a location exactly when it is STORED, RESERVED, MOVING or HELD
DAMAGED, and a hold reason exactly when it is HELD. It holds in every state, a start-up check included. -/
def placeLaw (s : State) : Prop :=
  ∀ e ∈ s.packs,
    (e.2.location.isSome = true ↔
      e.2.state = .stored ∨ e.2.state = .reserved ∨ e.2.state = .moving ∨ e.2.hold = some .damaged) ∧
      (e.2.hold.isSome = true ↔ e.2.state = .held)

/-- What a task's subject is (R37, R41, R116): RESERVED for the line a FETCH serves, MOVING for a SHIFT, and LIFTED
once the task is; a RETURN exists in LIFTED alone, and a reservation goes with a FETCH alone. -/
def subjectFits (t : Task) (p : Pack) : Prop :=
  match t.kind with
  | .fetch r => p.reservation = some r ∧ p.state = if t.state = .lifted then .lifted else .reserved
  | .shift _ => p.reservation = none ∧ p.state = if t.state = .lifted then .lifted else .moving
  | .giveBack => p.reservation = none ∧ p.state = .lifted ∧ t.state = .lifted

/-- Law 5 (R37), with the task numbers of R117 and the reservations of R31: packs and tasks name each other. A pack is
the subject of a task exactly when it is RESERVED, MOVING or LIFTED, and of one alone, since numbers are unique; a
STORED, MOVING or HELD pack has no reservation, and a LOADED one has. -/
def linkLaw (s : State) : Prop :=
  (s.tasks.map Task.number).Nodup ∧
    (∀ t ∈ s.tasks,
      1 ≤ t.number ∧ t.number ≤ Config.taskCapacity ∧
        ∃ e ∈ s.packs, e.1 = t.subject ∧ e.2.task = some t.number ∧ subjectFits t e.2) ∧
    ∀ e ∈ s.packs,
      ((e.2.state = .reserved ∨ e.2.state = .moving ∨ e.2.state = .lifted) →
        ∃ t ∈ s.tasks, t.subject = e.1 ∧ e.2.task = some t.number) ∧
      ((e.2.state = .stored ∨ e.2.state = .loaded ∨ e.2.state = .held) → e.2.task = none) ∧
      ((e.2.state = .stored ∨ e.2.state = .moving ∨ e.2.state = .held) → e.2.reservation = none) ∧
      (e.2.state = .loaded → e.2.reservation.isSome = true)

/-- Law 4 (R36): every pack above a RESERVED one is MOVING, and the subject of a SHIFT that is not LIFTED lies above the
RESERVED pack it serves. With it, what R120 makes of it: nothing lies above the subject of a FETCH that a station has
been offered or has accepted. -/
def digLaw (s : State) : Prop :=
  (∀ e ∈ s.packs, e.2.state = .reserved → ∀ f ∈ s.packs, above f.2 e.2 = true → f.2.state = .moving) ∧
    (∀ t ∈ s.tasks, t.isFetch = false → t.state ≠ .lifted →
      ∃ e ∈ s.packs, t.kind = .shift e.1 ∧ e.2.state = .reserved ∧
        ∃ f ∈ s.packs, f.1 = t.subject ∧ above f.2 e.2 = true) ∧
    ∀ t ∈ s.tasks, t.isFetch = true → (t.state = .offered ∨ t.state = .accepted) →
      ∀ e ∈ s.packs, e.1 = t.subject → ∀ f ∈ s.packs, above f.2 e.2 = false

/-- A station's state follows from the task it holds (R119), and it has a lift capacity while it is on shift (R118). -/
def stationAgrees (s : State) (n : Nat) (st : Station) : Prop :=
  (st.capacity = none ↔ st.state = .offShift) ∧
    ((st.state = .offShift ∨ st.state = .idle) → ∀ t ∈ s.tasks, t.station ≠ some n) ∧
    (st.state = .offered → ∃ t ∈ s.tasks, t.station = some n ∧ t.state = .offered) ∧
    (st.state = .busy → ∃ t ∈ s.tasks, t.station = some n ∧ (t.state = .accepted ∨ t.state = .lifted))

/-- Law 8 (R119): a task that is not OPEN is held by one station, no station holds two, and every station's state
follows from what it holds. -/
def stationLaw (s : State) : Prop :=
  (∀ t ∈ s.tasks,
    (t.state = .opened ↔ t.station = none) ∧ ∀ n ∈ t.station, n ≤ Config.stationCount ∧ (s.station n).isSome = true) ∧
    (∀ t ∈ s.tasks, ∀ u ∈ s.tasks, t.station ≠ none → t.station = u.station → t = u) ∧
    ∀ n, n ≤ Config.stationCount → ∀ st ∈ s.station n, stationAgrees s n st

/-- The packs whose reservation names an order line. -/
def packsOfLine (s : State) (r : LineRef) : Table Pack := s.packs.filter fun e => decide (e.2.reservation = some r)

/-- The packs whose reservation names an order. -/
def packsOfOrder (s : State) (h : Nat) : Table Pack :=
  s.packs.filter fun e => decide (e.2.reservation.map LineRef.handle = some h)

/-- Laws 6 and 7 as they tie the counts to the packs (R66, R67): a line's allocated count is the number of packs whose
reservation names it, its loaded count the number of those that are LOADED, an order's committed mass the sum of the
masses of the packs whose reservation names it; and every reservation names a line of a live order. -/
def countLaw (s : State) : Prop :=
  (∀ e ∈ s.packs, ∀ r ∈ e.2.reservation, ∃ o ∈ s.orders, o.1 = r.handle ∧ (nth o.2.lines r.line).isSome = true) ∧
    ∀ o ∈ s.orders,
      o.2.committed = ((packsOfOrder s o.1).map fun e => e.2.mass).sum ∧
        ∀ i, i < o.2.lines.length → ∀ l ∈ o.2.lines[i]?,
          l.allocated = (packsOfLine s ⟨o.1, i + 1⟩).length ∧
            l.loaded = ((packsOfLine s ⟨o.1, i + 1⟩).filter fun e => decide (e.2.state = .loaded)).length

/-- The records name each other as laws 3 to 8 say (R31, R36, R37, R66, R67, R119). In a start-up check the retained
pack records still stand as the reset found them, and no order and no task is live (R57, R183); while a CLEAR_YARD
runs the port executes it, and no order and no task is live (R54). -/
def workLaw (s : State) : Prop :=
  placeLaw s ∧ stationLaw s ∧ (s.port = .starting → s.orders = [] ∧ s.tasks = []) ∧
    (s.clearing = true → s.port = .executing .clearYard ∧ s.orders = [] ∧ s.tasks = []) ∧
    (s.port ≠ .starting → linkLaw s ∧ digLaw s ∧ countLaw s)

/-! ## Stacks, chains and walks -/

/-- The list holds the packs of the stack, bottom first (R5). -/
def stackIs (s : State) (b k : Nat) (l : Table Pack) : Prop :=
  (∀ e, e ∈ l ↔ e ∈ s.packs ∧ ∃ i, e.2.location = some ⟨b, k, i⟩) ∧ l.Pairwise fun e f => e.2.tier < f.2.tier

/-- The pack comes after a place in its chain: it was received on a later day, or on the same day with a higher tag
(R34, R91). -/
def follows (day tag : Nat) (e : Nat × Pack) : Prop := day < e.2.received ∨ (day = e.2.received ∧ tag < e.1)

/-- The list is the chain of the product: its located packs, in order of received day and then of tag (R34). -/
def chainIs (s : State) (code : Nat) (l : Table Pack) : Prop :=
  (∀ e, e ∈ l ↔ e ∈ s.packs ∧ e.2.product = code ∧ e.2.location.isSome = true) ∧
    l.Pairwise fun e f => follows e.2.received e.1 f

/-- The present pass visits the pack in the chain of the product (R34): a STORED pack in the first pass (R92), a
RESERVED one in the second (R97). -/
def sought (s : State) (code : Nat) (e : Nat × Pack) : Prop :=
  e ∈ s.packs ∧ e.2.product = code ∧ e.2.location.isSome = true ∧
    e.2.state = if s.engine.state = .secondPass then .reserved else .stored

/-- The pack is the first of the chain that the present pass visits among those meeting a condition (R89, R91). -/
def firstSought (s : State) (code : Nat) (which : Nat × Pack → Prop) (e : Nat × Pack) : Prop :=
  sought s code e ∧ which e ∧ ∀ f, sought s code f → which f → f = e ∨ follows e.2.received e.1 f

/-- The product code stands at the position in a pass's series of chains, as the substitute list stands (R89). -/
def inSeries (s : State) (item : LineItem) (position code : Nat) : Prop :=
  (position = 0 ∧ code = item.product) ∨
    (item.substitution = true ∧ 1 ≤ position ∧
      (s.product item.product).substitutes[position - 1]? = some code)

/-- The first pack visited of the series from a position on: chains without a pack to visit are passed on the way
(R89). -/
def visitsFrom (s : State) (item : LineItem) (start : Nat) (v : Visit) : Prop :=
  start ≤ v.position ∧ inSeries s item v.position v.code ∧
    firstSought s v.code (fun _ => True) (v.tag, v.pack) ∧
    ∀ position, start ≤ position → position < v.position →
      ∃ code, inSeries s item position code ∧ ∀ e, ¬ sought s code e

/-- The pack a walk visits next (R89, R91): at the walk's beginning the first of the series; then the first of the
chain being walked after the walk position; and past that chain's end the first of the series from the position after
the one at which the chain's walk began. -/
def visitsNext (s : State) (item : LineItem) (v : Visit) : Prop :=
  (s.engine.walk = none → visitsFrom s item 0 v) ∧
    ∀ w, s.engine.walk = some w →
      (v.code = w.code ∧ v.position = w.position ∧ firstSought s w.code (follows w.day w.tag) (v.tag, v.pack)) ∨
        ((∀ e, sought s w.code e → ¬ follows w.day w.tag e) ∧ visitsFrom s item (w.position + 1) v)

/-! ## Put-downs and wettings -/

/-- R6 refuses a put-down on the stack with the status, a disabled bay being answered as `disabled`. -/
def putDownRefused (s : State) (bay stack : Nat) (disabled status : Status) : Prop :=
  ((63 < bay ∨ (s.bay bay).stackCount ≤ stack) ∧ status = .badField) ∨
    (bay ≤ 63 ∧ stack < (s.bay bay).stackCount ∧
      (((s.bay bay).enabled = false ∧ status = disabled) ∨
        ((s.bay bay).enabled = true ∧ height s bay stack = (s.bay bay).tierLimit ∧ status = .stackFull) ∨
        ((s.bay bay).enabled = true ∧ height s bay stack ≠ (s.bay bay).tierLimit ∧
          holdsReserved s bay stack = true ∧ status = .buriesReserved)))

/-- R6 takes a put-down on the stack. -/
def putDownTaken (s : State) (bay stack : Nat) : Prop :=
  bay ≤ 63 ∧ stack < (s.bay bay).stackCount ∧ (s.bay bay).enabled = true ∧
    height s bay stack ≠ (s.bay bay).tierLimit ∧ holdsReserved s bay stack = false

/-- A wetting releases the reservation of a RESERVED pack (R154): the line asks for a product that needs kiln, and the
pack's FETCH is OPEN or OFFERED. -/
def wettingReleases (s : State) (tag : Nat) (r : LineRef) : Prop :=
  (∃ o l, Table.get s.orders r.handle = some o ∧ nth o.lines r.line = some l ∧
    (s.product l.item.product).fields.needsKiln = true) ∧
    ∃ f, s.tasks.find? (fun t => decide (t.subject = tag) && t.isFetch) = some f ∧
      (f.state = .opened ∨ f.state = .offered)

/-! ## Outcomes of a request -/

/-- The owning block may take the request: the part is not stopped, the port executes this request, and no CLEAR_YARD
runs (R172 step 4). -/
def atBlock (c : Instr) (s : State) : Prop := s.stopped = false ∧ s.port = .executing c ∧ s.clearing = false

/-- The request is answered OK with a reply, and the rest of the state is `t` (R172). -/
def okWith (c : Instr) (reply : List Byte) (t : State) : Out :=
  .next { t with port := .answered ⟨c.requestCode, .ok, reply, false⟩ }

/-- The request is answered with a refusal: an empty payload, the last status set, and the rest of the state `t`
(R172, R175). -/
def refusedWith (c : Instr) (status : Status) (t : State) : Out :=
  .next
    { t with
      port := .answered ⟨c.requestCode, status, [], false⟩
      lastStatus := some ⟨status, c.requestCode, c.stationField⟩ }

/-- The request is one that meets the guard of the supply (R187), in its writing form. -/
def guarded : Instr → Bool
  | .setBay _ _ _ _ _ _ _ => true
  | .setLoadingPoint w => w.isSome
  | .setLine w => w.isSome
  | .setTimers w => w.isSome
  | .setWeights w => w.isSome
  | .setDay d => d.isSome
  | .clearYard => true
  | .setProduct _ _ _ => true
  | .setSubstitutes _ _ => true
  | .receivePack _ _ _ _ _ _ _ _ _ => true
  | .recordMove _ _ _ => true
  | .holdPack _ => true
  | .releasePack _ _ => true
  | .scrapPack _ => true
  | .clearWetted _ _ => true
  | .cancel _ => true
  | .depart _ => true
  | .confirmProposal _ _ => true
  | .lifted _ _ => true
  | .dropped _ _ => true
  | .reportMissing _ => true
  | .restart => true
  | _ => false

/-- The fields of a guarded request pass the checks of BAD_FIELD that its rule makes before the supply's (R12, R15, R24,
R26, R43, R48, R50 to R53, R77, R78, R90, R94, R108, R130, R132, R133, R141, R146), and its sender is a station (R172). -/
def fieldsPass (s : State) : Instr → Prop
  | .setBay bay _ _ row col stackCount tierLimit =>
    bay ≤ 63 ∧ row ≤ 15 ∧ col ≤ 15 ∧ 1 ≤ stackCount ∧ stackCount ≤ 8 ∧ 1 ≤ tierLimit ∧ tierLimit ≤ 6
  | .setLoadingPoint (some w) => 1 ≤ w.point ∧ w.point ≤ 4 ∧ w.row ≤ 15 ∧ w.col ≤ 15
  | .setLine (some w) =>
    w.line ≤ 6 ∧ w.setting.source ≤ 3 ∧ w.setting.debounce ≤ 2550 ∧ w.setting.debounce % 10 = 0 ∧
      (w.line = 0 ↔ w.autoOpen.isSome = true)
  | .setTimers (some w) =>
    5 ≤ w.offer ∧ w.offer ≤ 120 ∧ 60 ≤ w.lift ∧ w.lift ≤ 1800 ∧ 60 ≤ w.carry ∧ w.carry ≤ 3600 ∧ 10 ≤ w.proposal ∧
      w.proposal ≤ 600
  | .setWeights (some w) => w.dig ≤ 15 ∧ w.distance ≤ 15 ∧ w.age ≤ 15 ∧ w.substitution ≤ 15
  | .setDay (some d) => s.settings.yardDay < d ∧ d ≤ 65535
  | .setProduct code defined f =>
    1 ≤ code ∧ code ≤ 255 ∧
      (defined = true →
        f.species ≤ 15 ∧ f.grade ≤ 7 ∧ 12 ≤ f.thickness ∧ f.thickness ≤ 300 ∧ 50 ≤ f.width ∧ f.width ≤ 300 ∧
          f.airDryDays ≤ 365)
  | .setSubstitutes code codes => 1 ≤ code ∧ code ≤ 255 ∧ codes.length ≤ 3 ∧ ∀ q ∈ codes, 1 ≤ q ∧ q ≤ 255
  | .receivePack tag product length count mass drying _ _ ready =>
    1 ≤ tag ∧ tag ≤ 16777215 ∧ 10 ≤ length ∧ length ≤ 90 ∧ 1 ≤ count ∧ count ≤ 2000 ∧ 50 ≤ mass ∧ mass ≤ 5000 ∧
      1 ≤ product ∧ product ≤ 255 ∧ (s.product product).defined = true ∧ (drying = .kiln → ready = none) ∧
      ∀ d, ready = some d → d ≤ 65535
  | .recordMove tag _ _ => 1 ≤ tag ∧ tag ≤ 16777215
  | .holdPack tag => 1 ≤ tag ∧ tag ≤ 16777215
  | .releasePack tag _ => 1 ≤ tag ∧ tag ≤ 16777215
  | .scrapPack tag => 1 ≤ tag ∧ tag ≤ 16777215
  | .clearWetted (some tag) none => 1 ≤ tag ∧ tag ≤ 16777215
  | .clearWetted none (some bay) => bay ≤ 63
  | .clearWetted _ _ => False
  | .cancel h => 1 ≤ h ∧ h ≤ 32
  | .depart h => 1 ≤ h ∧ h ≤ 32
  | .confirmProposal h tag => 1 ≤ h ∧ h ≤ 32 ∧ 1 ≤ tag ∧ tag ≤ 16777215
  | .lifted n tag => 1 ≤ n ∧ n ≤ 8 ∧ 1 ≤ tag ∧ tag ≤ 16777215
  | .dropped n dest =>
    1 ≤ n ∧ n ≤ 8 ∧ ∀ bay stack, dest = .stack bay stack → bay ≤ 63 ∧ stack < (s.bay bay).stackCount
  | .reportMissing n => 1 ≤ n ∧ n ≤ 8
  | _ => True

/-- The commands that may write a retained table other than the Pack Table and the restart record. -/
def writesSettings : Instr → Bool
  | .setBay _ _ _ _ _ _ _ => true
  | .setLoadingPoint _ => true
  | .setLine _ => true
  | .setTimers _ => true
  | .setWeights _ => true
  | .setDay _ => true
  | .setProduct _ _ _ => true
  | .setSubstitutes _ _ => true
  | .partStop _ _ _ => true
  | .startupCheckEnd _ => true
  | _ => false

/-- The commands that may change a pack record. -/
def writesPacks : Instr → Bool
  | .setBay _ _ _ _ _ _ _ => true
  | .clearYardEnd => true
  | .receivePack _ _ _ _ _ _ _ _ _ => true
  | .recordMove _ _ _ => true
  | .holdPack _ => true
  | .releasePack _ _ => true
  | .scrapPack _ => true
  | .clearWetted _ _ => true
  | .cancel _ => true
  | .depart _ => true
  | .confirmProposal _ _ => true
  | .lifted _ _ => true
  | .dropped _ _ => true
  | .reportMissing _ => true
  | .partStop _ _ _ => true
  | .startupCheckEnd _ => true
  | .supplyRecovery => true
  | .wettingSweepStack => true
  | .passEnd => true
  | _ => false

/-- The commands that may change a task or a station. -/
def movesWork : Instr → Bool
  | .setBay _ _ _ _ _ _ _ => true
  | .closeYard => true
  | .holdPack _ => true
  | .cancel _ => true
  | .depart _ => true
  | .confirmProposal _ _ => true
  | .goOnShift _ _ => true
  | .goOffShift _ => true
  | .pollTask _ => true
  | .accept _ _ => true
  | .decline _ _ => true
  | .lifted _ _ => true
  | .dropped _ _ => true
  | .reportMissing _ => true
  | .reportPosition _ _ => true
  | .requestPeriod _ _ => true
  | .readPeriod _ _ _ => true
  | .powerOn _ _ => true
  | .resetPin _ => true
  | .supplyRecovery => true
  | .wettingSweepStack => true
  | .passEnd => true
  | .taskOffer => true
  | .offerLapse _ => true
  | .taskLapse _ => true
  | .carryOverdue _ => true
  | _ => false

/-- The commands that may change an order beyond its STARVED flags, though no task and no station. -/
def changesOrders : Instr → Bool
  | .checkIn _ _ _ _ _ => true
  | .setPoint _ _ => true
  | .setLevel _ _ => true
  | .rejectProposal _ _ => true
  | .proposalExpiry _ => true
  | _ => false

end Sys2Proof.Safety
end

