-- ==== Sys2Proof/Certificates/Slice0/Obligations.lean ====
section
/-!
DEFINITION. The statements for the provers. A statement about a request is made where the port executes it and its
owning block takes it (`Safety.atBlock`); `Obligations.AnIdlePortTakesAWholeExchange` carries each of them to an idle
port. An outcome is given as the whole next state, so each statement is its own frame.
-/

open Sys2Proof Sys2Proof.Machine Sys2Proof.Safety

/-! ## The machine -/

/-- The values every record, mark and pin has after reset (R16, R29, R56, R81, R82, R142, R147, R155, R159, R164,
R165, R180, R182, R184): every volatile record at its reset value, every retained table at its defaults and named as
failed, and the summary with RESTARTED and STORE_LOST; beside it, the defaults of a yard map, a product and the yard
settings, field by field (R1, R3, R17, R94, R141). That State.reset is a part whose store held nothing, with a sound
supply, low pins and its start-up check ended, is the model's choice (log 5). -/
def Obligations.ResetLeavesEveryRecordAtItsResetValue : Prop :=
  State.reset.yardMap = YardMap.default ∧ State.reset.products = List.replicate 256 Product.default ∧
    State.reset.packs = [] ∧ State.reset.settings = ⟨⟨8, 4, 2, 6⟩, ⟨30, 600, 900, 120⟩, false, 0⟩ ∧
    State.reset.lineSettings = List.replicate 7 ⟨false, true, 0, 100⟩ ∧ State.reset.restartRecord = ⟨0, 0⟩ ∧
    State.reset.orders = [] ∧ State.reset.queue = [] ∧ State.reset.engine = ⟨.idle, none, none, none, false, 0⟩ ∧
    State.reset.tasks = [] ∧ State.reset.stations = List.replicate 8 ⟨.offShift, none, none, 0, false⟩ ∧
    State.reset.lines = List.replicate 7 ⟨false, none⟩ ∧ State.reset.raining = false ∧ State.reset.sweep = none ∧
    State.reset.sweepPending = false ∧ State.reset.mode = .closed ∧
    State.reset.watches = List.replicate 4 ⟨false, .product, 0, 0, false, 0, none⟩ ∧
    State.reset.enables = BitVec.allOnes 19 ∧ State.reset.attn = true ∧
    (∀ k, State.reset.holds k = decide (k = .restarted ∨ k = .storeLost)) ∧
    State.reset.port = .idle ∧ State.reset.lastStatus = none ∧ State.reset.cause = .powerOn ∧
    State.reset.failedTables = BitVec.allOnes 6 ∧ State.reset.badTables = 0 ∧ State.reset.owedRaises = 0 ∧
    State.reset.overrunNoted = false ∧ State.reset.clearing = false ∧ State.reset.supply = .sound ∧
    State.reset.dipNoted = false ∧ State.reset.supplyOff = false ∧ State.reset.resetHeld = false ∧
    State.reset.pins = 0 ∧ State.reset.miso = [] ∧ State.reset.pending = [] ∧
    YardMap.default =
      { bays :=
          (List.range 64).map fun b =>
            { enabled := false, covered := false, row := b / 8, col := b % 8, stackCount := 1, tierLimit := 6 }
        points :=
          [{ row := 15, col := 0 }, { row := 15, col := 5 }, { row := 15, col := 10 }, { row := 15, col := 15 }]
        defaultPoint := 1 } ∧
    Product.default =
      { defined := false
        fields :=
          { species := 0, grade := 0, thickness := 50, width := 150, needsKiln := false, airDryDays := 0 }
        substitutes := [] } ∧
    YardSettings.default =
      { weights := { dig := 8, distance := 4, age := 2, substitution := 6 }
        timers := { offer := 30, lift := 600, carry := 900, proposal := 120 }
        autoOpen := false
        yardDay := 0 }

/-- Every law the statements below carry from step to step holds after reset. -/
def Obligations.TheLawsHoldAfterReset : Prop :=
  attnLaw State.reset ∧ closedLaw State.reset ∧ closingLaw State.reset ∧ keyLaw State.reset ∧
    capacityLaw State.reset ∧ orderLaw State.reset ∧ queueLaw State.reset ∧ sizeLaw State.reset ∧
    stackLaw State.reset ∧ workLaw State.reset

/-- A step takes the command at the front of the queue, and is its effect on the state with the queue's rest. -/
def Obligations.AStepRunsTheFrontCommand : Prop :=
  ∀ (c : Instr) (rest : List Instr) (s : State),
    step { s with pending := c :: rest } = exec c { s with pending := rest }

/-- With nothing in the queue a step is a tick of 10 ms of a running part: deadlines and alarms fall unless the halt
is active, and proposal timers and debounce periods fall (R72, R135, R145, R150). The tick is the model's choice
(log 3). -/
def Obligations.AnEmptyQueueIsATick : Prop :=
  ∀ s : State, s.pending = [] →
    (s.running = true →
      step s =
        .next
          { s with
            tasks :=
              if lineActive s 2 then s.tasks
              else s.tasks.map fun t =>
                { t with deadline := t.deadline.map (· - 1), alarm := t.alarm.map (· - 1) }
            orders :=
              s.orders.map fun e =>
                (e.1, { e.2 with proposal := e.2.proposal.map fun p => { p with left := p.left - 1 } })
            lines := s.lines.map fun l => { l with period := l.period.map (· - 1) } }) ∧
    (s.running = false → step s = .next s)

/-- Every command answers a next state and leaves the queue to the step: no command faults and none is refused by the
model. That no state stops the part is the model's reading (log 19, DEDUCED), and that an event without its cause
changes nothing is its choice (log 2). -/
def Obligations.EveryCommandAnswersANextState : Prop :=
  ∀ (c : Instr) (s : State), ∃ t, exec c s = .next t ∧ t.pending = s.pending

/-! ## Laws every step keeps -/

/-- Law 11 (R166): the attention pin is asserted exactly when the summary holds an enabled kind. Beside it, what
posting a kind does, with the number of each kind (R164). -/
def Obligations.TheAttentionPinFollowsTheSummary : Prop :=
  (∀ s t : State, attnLaw s → step s = .next t → attnLaw t) ∧
    ∀ (k : EventKind) (s : State),
      [EventKind.orderComplete, .lineStarved, .proposalReady, .proposalExpired, .reservationTaken, .taskLapsed,
          .stationLost, .carryOverdue, .packMissing, .pointVacated, .watchHit, .rainChange, .gateArrival,
          .yardClosed, .tableFull, .supplyDip, .portOverrun, .restarted, .storeLost][k.number]? = some k ∧
        post k s =
          { s with
            summary := s.summary ||| BitVec.twoPow 19 k.number
            attn := decide ((s.summary ||| BitVec.twoPow 19 k.number) &&& s.enables ≠ 0#19) }

/-- Law 10 (R155), and the completeness of CLOSING (R157): a closed yard is at rest, and a closing one is not. -/
def Obligations.AClosedYardIsAtRest : Prop :=
  ∀ s t : State, closedLaw s → closingLaw s → step s = .next t → closedLaw t ∧ closingLaw t

/-- Laws 1 and 9 (R32, R33, R60, R117): tags and handles stay unique, no table overflows, and the tables of fixed size
keep it (R1, R3, R17, R118, R143, R159), with no substitute list above three codes (R19). -/
def Obligations.RecordsStayUniqueAndWithinCapacity : Prop :=
  ∀ s t : State, keyLaw s → capacityLaw s → sizeLaw s → step s = .next t → keyLaw t ∧ capacityLaw t ∧ sizeLaw t

/-- The limits of every order: no line allocated above its quantity, no committed mass above the payload, the rejected
list, and the proposal of law 12 (R66, R67, R71, R72). And laws 3 to 8, which tie the records together: the places and
hold reasons of packs (R31), the MOVING packs above RESERVED ones (R36), packs and the tasks they are the subjects of
(R37), each line's allocated and loaded counts as the numbers of packs reserved for it (R66), each order's committed
mass as the sum of their masses (R67), and stations and the tasks they hold (R119). -/
def Obligations.OrdersKeepTheirLimits : Prop :=
  (∀ s t : State, keyLaw s → orderLaw s → step s = .next t → orderLaw t) ∧
    ∀ s t : State, keyLaw s → stackLaw s → closedLaw s → workLaw s → step s = .next t → workLaw t

/-- The order queue holds every live order once, higher levels first (R62). An order's queue position is its place in
the queue, counted from 1. -/
def Obligations.TheQueueHoldsEveryOrderByLevel : Prop :=
  (∀ s t : State, keyLaw s → capacityLaw s → queueLaw s → step s = .next t → queueLaw t) ∧
    ∀ (h : Nat) (s : State),
      (∀ o, Table.get s.orders h = some o → levelOf s h = o.level) ∧
        ∀ front back, s.queue = front ++ h :: back → h ∉ front → queuePosition s h = front.length + 1

/-- Law 2 (R35): every step keeps the tiers of every stack without a gap and no stack above its bay's tier limit; and
in every state a removal keeps the tiers, and so does a put-down with whatever change of record it brings (R7, R8,
R9). With such tiers, what the Yard Map answers of a stack (R5, R11): its list is its packs bottom first, its height
their number, its top pack the last; and the packs above a pack are those after it in the list, the dig their number. -/
def Obligations.StacksKeepTheirTiersWithoutAGap : Prop :=
  (∀ s t : State, Table.rising s.packs → stackLaw s → step s = .next t → stackLaw t) ∧
    ∀ s : State, Table.rising s.packs → tierLaw s →
      (∀ tag : Nat,
        tierLaw (removeFromStack tag s) ∧ ∀ (b k : Nat) (f : Pack → Pack), tierLaw (putDown b k tag f s)) ∧
      ∀ b k : Nat,
        stackIs s b k (stackList s b k) ∧ height s b k = (stackList s b k).length ∧
          topPack s b k = (stackList s b k).getLast?.map Prod.fst ∧
          (holdsReserved s b k = true ↔ ∃ e ∈ stackList s b k, e.2.state = .reserved) ∧
          ∀ below e rest, stackList s b k = below ++ e :: rest →
            packsAbove s e.1 = rest ∧ dig s e.1 = rest.length ∧
              (movingAbove s e.1 = true ↔ ∃ f ∈ rest, f.2.state = .moving)

/-! ## The port -/

/-- Every request, with every field at every value its bytes can carry, is what its frame decodes to (R171, R172,
R190, R196). Beside it, how numbers, marks and bit sets stand in bytes (R189). -/
def Obligations.RequestFramesDecodeBack : Prop :=
  (∀ c : Instr, c.isRequest = true → c.wellFormed = true →
    (checkFrame c.frame).map readRequest = some (.ok c)) ∧
    (∀ n : Nat,
      byte n = BitVec.ofNat 8 n ∧ be2 n = [BitVec.ofNat 8 (n / 256), BitVec.ofNat 8 n] ∧
        be3 n = [BitVec.ofNat 8 (n / 65536), BitVec.ofNat 8 (n / 256), BitVec.ofNat 8 n]) ∧
    markByte true = 1#8 ∧ markByte false = 0#8 ∧
    ∀ (bits : List Bool) (n : Nat), bits.length ≤ 8 → (bitsByte bits).getLsbD n = bits.getD n false

/-- The frame check accepts exactly the periods that pass the five checks of R171, and reads from them the request
code in the second byte, the station field in the third, and the payload from the fifth on up to the check (R190). The
check byte is the CRC-8 of R173: the register starts at 0; each byte is combined with it by exclusive-or, and the
register is shifted left eight times, combined with 0x07 after each shift in which a 1 left the top. -/
def Obligations.TheFrameCheckIsThatOfTheSpec : Prop :=
  (∀ bytes : List Byte,
    ((checkFrame bytes).isSome = true ↔
      bytes[0]? = some 0xC3#8 ∧ 5 ≤ bytes.length ∧ (bytes.getD 3 0#8).toNat ≤ 60 ∧
        bytes.length = (bytes.getD 3 0#8).toNat + 5 ∧
        bytes.getLast? = some (crc8 ((bytes.drop 1).dropLast))) ∧
    ∀ f : Frame, checkFrame bytes = some f →
      f.code = (bytes.getD 1 0#8).toNat ∧ f.station = (bytes.getD 2 0#8).toNat ∧
        f.payload = ((bytes.drop 4).dropLast).map BitVec.toNat) ∧
    ∀ (bytes : List Byte) (b : Byte) (shift : Byte → Byte),
      (∀ r : Byte, shift r = if r.getLsbD 7 = true then (r <<< 1) ^^^ 0x07#8 else r <<< 1) →
      crc8 [] = 0#8 ∧
        crc8 (bytes ++ [b]) = shift (shift (shift (shift (shift (shift (shift (shift (crc8 bytes ^^^ b))))))))

/-- A request period meets the port in one of its conditions (R171, R172, R174, R175): ignored and noted in STARTING,
ignored with PORT_OVERRUN in EXECUTING; in ANSWERED the unread response is discarded with PORT_OVERRUN and the frame
taken; bytes that fail the frame check are answered BAD_FRAME with the code and station they echo; and a good frame is
answered UNKNOWN_REQUEST for a family or command there is not, and BAD_FIELD for a station field or a payload form
that is not allowed, as one of a length that R196 does not list for the command is not. Each such answer sets the last
status and touches nothing beyond the port. A period that a reset found in progress is lost (R180): busy filler, no
byte taken, and an overrun noted where its release still meets STARTING (log 11). -/
def Obligations.PeriodsMeetThePort : Prop :=
  (∀ (b : Byte) (rest : List Byte) (s : State), b ≠ 0#8 → s.stopped = false →
    (s.port = .starting →
      exec (.requestPeriod (b :: rest) .fresh) s =
        .next { s with miso := List.replicate (rest.length + 1) 0xA5#8, overrunNoted := true }) ∧
    (∀ c, s.port = .executing c →
      exec (.requestPeriod (b :: rest) .fresh) s =
        .next (post .portOverrun { s with miso := List.replicate (rest.length + 1) 0xA5#8 })) ∧
    (∀ r, s.port = .answered r →
      exec (.requestPeriod (b :: rest) .fresh) s =
        exec (.requestPeriod (b :: rest) .fresh) { post .portOverrun s with port := .idle }) ∧
    (s.port = .idle → checkFrame (b :: rest) = none →
      exec (.requestPeriod (b :: rest) .fresh) s =
        .next
          { s with
            miso := List.replicate (rest.length + 1) 0x00#8
            port := .answered ⟨(rest.getD 0 0#8).toNat, .badFrame, [], false⟩
            lastStatus := some ⟨.badFrame, (rest.getD 0 0#8).toNat, (rest.getD 1 0#8).toNat⟩ }) ∧
    (∀ (f : Frame) (known allowed : Bool) (status : Status), s.port = .idle → checkFrame (b :: rest) = some f →
      known = decide (f.code % 16 < [5, 10, 3, 9, 8, 9, 3, 1].getD (f.code / 16) 0) →
      allowed = decide (if f.code / 16 = 5 then 1 ≤ f.station ∧ f.station ≤ 8 else f.station = 0) →
      ((known = false ∧ status = .unknownRequest) ∨
        (known = true ∧ allowed = false ∧ status = .badField) ∨
        (known = true ∧ allowed = true ∧ readPayload (f.code / 16) (f.code % 16) f.station f.payload = none ∧
          status = .badField)) →
      exec (.requestPeriod (b :: rest) .fresh) s =
        .next
          { s with
            miso := List.replicate (rest.length + 1) 0x00#8
            port := .answered ⟨f.code, status, [], false⟩
            lastStatus := some ⟨status, f.code, f.station⟩ })) ∧
  (∀ (bytes : List Byte) (n : Nat) (supply : SupplyStatus) (s : State), s.stopped = false →
    exec (.readPeriod n .beforeReset supply) s = .next { s with miso := List.replicate n 0xA5#8 } ∧
    (s.port = .starting →
      exec (.requestPeriod bytes .beforeReset) s =
        .next { s with miso := List.replicate bytes.length 0xA5#8, overrunNoted := true }) ∧
    (s.port ≠ .starting →
      exec (.requestPeriod bytes .beforeReset) s = .next { s with miso := List.replicate bytes.length 0xA5#8 })) ∧
  ∀ (lengths : List (List (List Nat))) (family command station : Nat) (payload : List Nat),
    lengths =
      [[[0], [0], [0], [0], [0, 3]],
        [[7], [1], [0, 4], [0, 6, 7], [0, 8], [0, 4], [0, 2], [0], [0], [0]],
        [[11], [1], [1, 2, 3, 4]],
        [[12, 14], [3], [2], [5], [3], [3, 5], [3], [1, 3], [1, 4]],
        [[17, 28, 39, 50], [0, 1, 2], [2], [2], [1], [1], [4], [4]],
        [[2], [0], [0], [1], [1], [3], [0, 2], [0], [1]],
        [[5], [0, 1], [1]],
        [[0]]] →
    command < (lengths.getD family []).length → payload.length ∉ (lengths.getD family []).getD command [] →
      readPayload family command station payload = none

/-- The period that carries a request makes the port EXECUTING with it, and, for families 1 to 7, the last status
absent (R171, R172, R175). -/
def Obligations.ARequestPeriodHandsTheRequestOver : Prop :=
  ∀ (c : Instr) (s : State),
    c.isRequest = true → c.wellFormed = true → s.stopped = false → s.port = .idle →
    exec (.requestPeriod c.frame .fresh) s =
      .next
        { s with
          miso := List.replicate c.frame.length 0x00#8
          port := .executing c
          lastStatus := if c.requestCode / 16 = 0 then s.lastStatus else none }

/-- A request row at an idle port is its whole exchange: what its owning block does once the port executes it (the
model's choice, log 1). -/
def Obligations.AnIdlePortTakesAWholeExchange : Prop :=
  ∀ (c : Instr) (s : State), c.isRequest = true → s.stopped = false → s.port = .idle → s.clearing = false →
    exec c s =
      exec c
        { s with
          port := .executing c
          lastStatus := if c.requestCode / 16 = 0 then s.lastStatus else none }

/-- A read period clocks out the waiting response (R170, R173, R190): read to its check it leaves the port IDLE, and
for a restart response begins the RESTART_REQUEST reset (R179); released earlier it leaves the response unread. A
period that began before the response was placed gives busy filler, then idle filler, and delivers nothing. With the
port IDLE a read period gives idle filler, after busy filler where it began in a condition that ended in it; with the
port STARTING or EXECUTING it gives busy filler throughout; nothing else changes (R170). The record of the bytes
clocked out and the busy filler after the check of a restart response are the model's choice (log 11), and so is the
supply at the reset as an operand (log 10). -/
def Obligations.AReadPeriodDeliversTheResponse : Prop :=
  (∀ (n : Nat) (start : PeriodStart) (supply : SupplyStatus) (s : State), s.stopped = false → 0 < n →
    (s.port = .idle →
      exec (.readPeriod n .fresh supply) s = .next { s with miso := List.replicate n 0x00#8 } ∧
        ∀ lead, lead ≤ n →
          exec (.readPeriod n (.within lead) supply) s =
            .next { s with miso := List.replicate lead 0xA5#8 ++ List.replicate (n - lead) 0x00#8 }) ∧
    ((s.port = .starting ∨ ∃ c, s.port = .executing c) →
      exec (.readPeriod n start supply) s = .next { s with miso := List.replicate n 0xA5#8 })) ∧
  ∀ (code n : Nat) (status : Status) (payload : List Byte) (restart : Bool) (supply : SupplyStatus) (s : State)
    (body frame : List Byte),
    s.stopped = false → s.port = .answered ⟨code, status, payload, restart⟩ →
    body = [byte code, byte (statusNumber status), byte payload.length] ++ payload →
    frame = [0x3C#8] ++ body ++ [crc8 body] → 0 < n →
    (∀ lead, 0 < lead → lead ≤ n →
      exec (.readPeriod n (.within lead) supply) s =
        .next { s with miso := List.replicate lead 0xA5#8 ++ List.replicate (n - lead) 0x00#8 }) ∧
    (n < payload.length + 5 → exec (.readPeriod n .fresh supply) s = .next { s with miso := frame.take n }) ∧
    (payload.length + 5 ≤ n → restart = false →
      exec (.readPeriod n .fresh supply) s =
        .next
          { s with
            miso := frame ++ List.replicate (n - (payload.length + 5)) 0x00#8
            port := .idle }) ∧
    (payload.length + 5 ≤ n → restart = true →
      exec (.readPeriod n .fresh supply) s =
        .next
          (startReset .restartRequest supply
            { s with miso := frame ++ List.replicate (n - (payload.length + 5)) 0xA5#8 }))

/-- The requests that meet the supply guard are refused while the supply is low and change nothing (R187): with
POWER_LOW where their fields pass the checks of BAD_FIELD that their rules make before the supply's, and with
BAD_FIELD where they do not. -/
def Obligations.ALowSupplyRefusesRetainedChanges : Prop :=
  ∀ (c : Instr) (s : State), guarded c = true → atBlock c s → s.supply = .low →
    (exec c s = refusedWith c .powerLow s ∨ exec c s = refusedWith c .badField s) ∧
      (s.stations.length = 8 → fieldsPass s c → exec c s = refusedWith c .powerLow s) ∧
      (¬ fieldsPass s c → exec c s = refusedWith c .badField s)

/-! ## Frames -/

/-- The yard map, the products, the yard settings and the line settings change at the requests that write them and at
a start-up check alone; the pack records at the commands that name or reach them alone, so at no reading, no scan
visit and no offer. -/
def Obligations.OnlyTheirWritersChangeTheTables : Prop :=
  ∀ (c : Instr) (s t : State), exec c s = .next t →
    (writesSettings c = false →
      t.yardMap = s.yardMap ∧ t.products = s.products ∧ t.settings = s.settings ∧
        t.lineSettings = s.lineSettings) ∧
    (writesPacks c = false → t.packs = s.packs)

/-- Tasks and stations change at the commands that move them alone, and every other command but those on orders leaves
the queue and every order but its STARVED flags. -/
def Obligations.OnlyTheirMoversChangeTheWork : Prop :=
  ∀ (c : Instr) (s t : State), movesWork c = false → exec c s = .next t →
    t.tasks = s.tasks ∧ t.stations = s.stations ∧
      (changesOrders c = false →
        t.queue = s.queue ∧
          t.orders.map (fun e => (e.1, e.2.unstarved)) = s.orders.map fun e => (e.1, e.2.unstarved))

/-! ## Family 0, inquiry, and family 7 -/

/-- STATUS_SUMMARY, GET_CAPACITIES, GET_FAMILIES and SET_EVENT_ENABLES of payload length 0 change nothing, and give the
state as it stands; SET_EVENT_ENABLES with a set replaces it, leaves the summary and moves the pin with it, and a kind
above 18 is refused (R165, R166, R177, R178, R195, R197). Beside it, the numbers of the named values and of the status
codes (R176, R191). -/
def Obligations.InquiriesReadTheState : Prop :=
  ([ResetCause.powerOn, .resetPin, .restartRequest].map resetCauseNumber = [0, 1, 2] ∧
    [SupplyStatus.sound, .low].map supplyNumber = [0, 1] ∧
    [YardMode.opened, .closing, .closed].map yardModeNumber = [0, 1, 2] ∧
    [StationState.offShift, .idle, .offered, .busy].map stationStateNumber = [0, 1, 2, 3] ∧
    [EngineState.idle, .firstPass, .secondPass, .waiting].map engineStateNumber = [0, 1, 2, 3] ∧
    [Status.ok, .badFrame, .unknownRequest, .badField, .notFound, .wrongState, .tableFull, .duplicate, .inUse,
        .buriesReserved, .stackFull, .notOnTop, .busyPack, .wrongPack, .taskWithdrawn, .noTruck, .pointTaken, .stale,
        .mode, .powerLow].map statusNumber = List.range 20) ∧
  ∀ s : State,
    (atBlock .statusSummary s →
      exec .statusSummary s =
        okWith .statusSummary
          ([byte (resetCauseNumber s.cause)] ++ be2 s.restartRecord.count.toNat ++
            [byte s.failedTables.toNat, byte (supplyNumber s.supply), byte (yardModeNumber s.mode),
              markByte s.raining, bitsByte ((List.range 7).map (lineActive s))] ++
            be2 s.packs.length ++ [byte s.orders.length, byte s.tasks.length] ++
            s.stations.map (fun st => byte (stationStateNumber st.state)) ++
            [byte (engineStateNumber s.engine.state), bitsByte [s.engine.line.isSome, s.lastStatus.isSome]] ++
            (match s.engine.line with
              | none => [0#8, 0#8]
              | some r => [byte r.handle, byte r.line]) ++
            be2 s.engine.restarts.toNat ++ be3 s.summary.toNat ++ be3 s.enables.toNat ++
            match s.lastStatus with
              | none => [0#8, 0#8, 0#8]
              | some l => [byte (statusNumber l.status), byte l.code, byte l.station]) s) ∧
    (atBlock .getCapacities s →
      exec .getCapacities s =
        okWith .getCapacities ([8, 0, 32, 4, 24, 48, 8, 64, 8, 6, 255, 3, 8, 4, 19, 60].map byte) s) ∧
    (atBlock .getFamilies s →
      exec .getFamilies s = okWith .getFamilies ([255, 5, 10, 3, 9, 8, 9, 3, 1].map byte) s) ∧
    (atBlock (.setEventEnables none) s →
      exec (.setEventEnables none) s = okWith (.setEventEnables none) (be3 s.enables.toNat) s) ∧
    ∀ e : BitVec 24, atBlock (.setEventEnables (some e)) s →
      (e.toNat < 2 ^ 19 →
        exec (.setEventEnables (some e)) s =
          okWith (.setEventEnables (some e)) (be3 e.toNat)
            { s with enables := e.setWidth 19, attn := decide (s.summary &&& e.setWidth 19 ≠ 0#19) }) ∧
      (2 ^ 19 ≤ e.toNat →
        exec (.setEventEnables (some e)) s = refusedWith (.setEventEnables (some e)) .badField s)

/-- FETCH_EVENTS gives the summary and the enable set, empties the summary and releases the pin; STATUS_SUMMARY gives
both and leaves the summary and the pin as they were (R167). -/
def Obligations.FetchEventsEmptiesTheSummary : Prop :=
  ∀ s : State,
    (atBlock .fetchEvents s →
      exec .fetchEvents s =
        okWith .fetchEvents (be3 s.summary.toNat ++ be3 s.enables.toNat)
          { s with summary := 0#19, attn := false }) ∧
    (atBlock .statusSummary s →
      ∃ front back,
        exec .statusSummary s =
          okWith .statusSummary (front ++ be3 s.summary.toNat ++ be3 s.enables.toNat ++ back) s)

/-- RESTART is answered OK with its response marked, and begins no reset by itself (R179). -/
def Obligations.RestartMarksItsResponse : Prop :=
  ∀ s : State, atBlock .restart s →
    (s.supply = .sound → exec .restart s = .next { s with port := .answered ⟨0x70, .ok, [], true⟩ }) ∧
    (s.supply = .low → exec .restart s = refusedWith .restart .powerLow s)

/-! ## Family 1, yard -/

/-- READ_BAY gives the entry and, for each stack, its height and whether it holds a RESERVED pack, in every mode and
at any supply; a bay above 63 is refused (R14). -/
def Obligations.ReadBayGivesTheEntry : Prop :=
  ∀ (bay : Nat) (s : State), atBlock (.readBay bay) s →
    (∀ e, s.yardMap.bays[bay]? = some e → s.bay bay = e) ∧
    (bay ≤ 63 →
      exec (.readBay bay) s =
        okWith (.readBay bay)
          ([byte bay, markByte (s.bay bay).enabled, markByte (s.bay bay).covered, byte (s.bay bay).row,
              byte (s.bay bay).col, byte (s.bay bay).stackCount, byte (s.bay bay).tierLimit] ++
            (List.range (s.bay bay).stackCount).flatMap fun k =>
              [byte (height s bay k), markByte (holdsReserved s bay k)]) s) ∧
    (63 < bay → exec (.readBay bay) s = refusedWith (.readBay bay) .badField s)

/-- The reading forms of the yard requests change nothing (R15, R90, R94, R141, R146, R197). -/
def Obligations.YardReadsChangeNothing : Prop :=
  ∀ s : State,
    (∀ n p, s.yardMap.points[n]? = some p → s.pointAt (n + 1) = p) ∧
    pointsReply s =
      (List.range 4).flatMap (fun n =>
        [byte (s.pointAt (n + 1)).row, byte (s.pointAt (n + 1)).col, markByte (lineActive s (n + 3))]) ++
        [byte s.yardMap.defaultPoint] ∧
    linesReply s =
      (List.range 7).flatMap (fun k =>
        [markByte (lineSetting s k).enabled, markByte (lineSetting s k).activeHigh, byte (lineSetting s k).source] ++
          be2 (lineSetting s k).debounce ++
          [byte (linePin k (lineSetting s k).source),
            markByte (s.pins.getLsbD (linePin k (lineSetting s k).source)), markByte (lineActive s k)]) ++
        be2 s.pins.toNat ++
        [markByte s.settings.autoOpen, markByte s.raining, byte (yardModeNumber s.mode)] ∧
    (atBlock (.setLoadingPoint none) s →
      exec (.setLoadingPoint none) s = okWith (.setLoadingPoint none) (pointsReply s) s) ∧
    (atBlock (.setLine none) s → exec (.setLine none) s = okWith (.setLine none) (linesReply s) s) ∧
    (atBlock (.setTimers none) s →
      exec (.setTimers none) s =
        okWith (.setTimers none)
          (be2 s.settings.timers.offer ++ be2 s.settings.timers.lift ++ be2 s.settings.timers.carry ++
            be2 s.settings.timers.proposal) s) ∧
    (atBlock (.setWeights none) s →
      exec (.setWeights none) s =
        okWith (.setWeights none)
          [byte s.settings.weights.dig, byte s.settings.weights.distance, byte s.settings.weights.age,
            byte s.settings.weights.substitution] s) ∧
    (atBlock (.setDay none) s → exec (.setDay none) s = okWith (.setDay none) (be2 s.settings.yardDay) s)

/-- SET_BAY (R2, R12, R13, R153): a field out of range is refused with BAD_FIELD at any supply; a change of geometry
is refused with MODE while the yard is not CLOSED and with IN_USE while the bay holds a pack, and a place another
enabled bay has with DUPLICATE; accepted it writes the whole entry, clears every STARVED flag, and wets the packs of a
bay it uncovers in the rain. That to the watches each stack of such a bay is a claim of its own is the model's choice
(log 13), not the spec's. -/
def Obligations.SetBayWritesTheEntry : Prop :=
  ∀ (bay row col stackCount tierLimit : Nat) (enabled covered same taken : Bool) (s : State) (c : Instr),
    c = .setBay bay enabled covered row col stackCount tierLimit → atBlock c s →
    ((63 < bay ∨ 15 < row ∨ 15 < col ∨ stackCount = 0 ∨ 8 < stackCount ∨ tierLimit = 0 ∨ 6 < tierLimit) →
      exec c s = refusedWith c .badField s) ∧
    ((bay ≤ 63 ∧ row ≤ 15 ∧ col ≤ 15 ∧ 1 ≤ stackCount ∧ stackCount ≤ 8 ∧ 1 ≤ tierLimit ∧ tierLimit ≤ 6) →
      s.supply = .sound →
      same =
        decide ((s.bay bay).row = row ∧ (s.bay bay).col = col ∧ (s.bay bay).stackCount = stackCount ∧
          (s.bay bay).tierLimit = tierLimit) →
      (taken = true ↔
        enabled = true ∧
          ∃ n, n < 64 ∧ n ≠ bay ∧ (s.bay n).enabled = true ∧ (s.bay n).row = row ∧ (s.bay n).col = col) →
      (same = false → s.mode ≠ .closed → exec c s = refusedWith c .mode s) ∧
      (same = false → s.mode = .closed → (∃ e ∈ s.packs, e.2.inBay bay = true) →
        exec c s = refusedWith c .inUse s) ∧
      ((same = true ∨ (s.mode = .closed ∧ ∀ e ∈ s.packs, e.2.inBay bay = false)) →
        (taken = true → exec c s = refusedWith c .duplicate s) ∧
        ∀ u : State, taken = false →
          u =
            clearStarved
              { s with
                yardMap :=
                  { s.yardMap with
                    bays := s.yardMap.bays.set bay ⟨enabled, covered, row, col, stackCount, tierLimit⟩ } } →
          (((s.bay bay).covered = false ∨ covered = true ∨ s.raining = false) → exec c s = okWith c [] u) ∧
          ((s.bay bay).covered = true → covered = false → s.raining = true → s.yardMap.bays.length = 64 →
            exec c s = okWith c [] ((List.range stackCount).foldl (fun v k => wetStack v bay k) u))))

/-- The writing forms of SET_LOADING_POINT, SET_TIMERS and SET_WEIGHTS write what they carry and nothing else, and
clear no STARVED flag; a field out of range is refused with BAD_FIELD at any supply, and another place for a loading
point with MODE while the yard is not CLOSED; SET_DAY raises the yard day and clears every STARVED flag, and a day not
above the present one is refused (R15, R87, R88, R90, R94, R141). The clearing of every STARVED flag sets the
clear-seen mark of a scan under way (R88). -/
def Obligations.YardWritesWriteWhatTheyCarry : Prop :=
  (∀ s : State,
    (∀ w : PointWrite, atBlock (.setLoadingPoint (some w)) s →
      (w.point = 0 ∨ 4 < w.point ∨ 15 < w.row ∨ 15 < w.col) →
      exec (.setLoadingPoint (some w)) s = refusedWith (.setLoadingPoint (some w)) .badField s) ∧
    (∀ w : TimerSettings, atBlock (.setTimers (some w)) s →
      (w.offer < 5 ∨ 120 < w.offer ∨ w.lift < 60 ∨ 1800 < w.lift ∨ w.carry < 60 ∨ 3600 < w.carry ∨
        w.proposal < 10 ∨ 600 < w.proposal) →
      exec (.setTimers (some w)) s = refusedWith (.setTimers (some w)) .badField s) ∧
    (∀ w : Weights, atBlock (.setWeights (some w)) s →
      (15 < w.dig ∨ 15 < w.distance ∨ 15 < w.age ∨ 15 < w.substitution) →
      exec (.setWeights (some w)) s = refusedWith (.setWeights (some w)) .badField s) ∧
    ∀ w : PointWrite, atBlock (.setLoadingPoint (some w)) s → s.supply = .sound →
      1 ≤ w.point → w.point ≤ 4 → w.row ≤ 15 → w.col ≤ 15 → s.mode ≠ .closed →
      ((s.pointAt w.point).row ≠ w.row ∨ (s.pointAt w.point).col ≠ w.col) →
      exec (.setLoadingPoint (some w)) s = refusedWith (.setLoadingPoint (some w)) .mode s) ∧
  ∀ s : State, s.supply = .sound →
    clearStarved s =
        { s with
          orders :=
            s.orders.map fun e =>
              (e.1, { e.2 with lines := e.2.lines.map fun l => { l with starved := false } })
          engine := if s.engine.state = .idle then s.engine else { s.engine with clearSeen := true } } ∧
    (∀ (p row col : Nat) (d : Bool), atBlock (.setLoadingPoint (some ⟨p, row, col, d⟩)) s →
      1 ≤ p → p ≤ 4 → row ≤ 15 → col ≤ 15 →
      (s.mode = .closed ∨ ((s.pointAt p).row = row ∧ (s.pointAt p).col = col)) →
      ∀ u : State,
        u =
            { s with
              yardMap :=
                { s.yardMap with
                  points := s.yardMap.points.modify (p - 1) fun _ => ⟨row, col⟩
                  defaultPoint := if d then p else s.yardMap.defaultPoint } } →
          exec (.setLoadingPoint (some ⟨p, row, col, d⟩)) s =
            okWith (.setLoadingPoint (some ⟨p, row, col, d⟩)) (pointsReply u) u) ∧
    (∀ a b c d : Nat, atBlock (.setTimers (some ⟨a, b, c, d⟩)) s →
      5 ≤ a → a ≤ 120 → 60 ≤ b → b ≤ 1800 → 60 ≤ c → c ≤ 3600 → 10 ≤ d → d ≤ 600 →
      exec (.setTimers (some ⟨a, b, c, d⟩)) s =
        okWith (.setTimers (some ⟨a, b, c, d⟩)) (be2 a ++ be2 b ++ be2 c ++ be2 d)
          { s with settings := { s.settings with timers := ⟨a, b, c, d⟩ } }) ∧
    (∀ a b c d : Nat, atBlock (.setWeights (some ⟨a, b, c, d⟩)) s → a ≤ 15 → b ≤ 15 → c ≤ 15 → d ≤ 15 →
      exec (.setWeights (some ⟨a, b, c, d⟩)) s =
        okWith (.setWeights (some ⟨a, b, c, d⟩)) [byte a, byte b, byte c, byte d]
          { s with settings := { s.settings with weights := ⟨a, b, c, d⟩ } }) ∧
    (∀ d : Nat, atBlock (.setDay (some d)) s → d ≤ 65535 →
      (s.settings.yardDay < d →
        exec (.setDay (some d)) s =
          okWith (.setDay (some d)) (be2 d)
            { s with
              settings := { s.settings with yardDay := d }
              orders :=
                s.orders.map fun e =>
                  (e.1, { e.2 with lines := e.2.lines.map fun l => { l with starved := false } })
              engine := if s.engine.state = .idle then s.engine else { s.engine with clearSeen := true } }) ∧
      (d ≤ s.settings.yardDay → exec (.setDay (some d)) s = refusedWith (.setDay (some d)) .badField s))

/-- SET_LINE writes the line's settings and, for line 0, the auto-open mark; a field out of range is refused with
BAD_FIELD at any supply, and so is the auto-open mark where it does not belong or is missing. Disabling an active line
is its falling edge at once; any other write drops a pending period and judges the line afresh (R146). That with
debounce 0 a wanted state that differs makes its edge within the request, before the reply, is the model's choice
(log 22): R146 has the live state keep its value and a period begin, R145 has the edge taken as soon as it differs. -/
def Obligations.SetLineWritesAndJudgesTheLine : Prop :=
  ∀ (k : Nat) (w : LineSetting) (o : Option Bool) (s u : State),
    atBlock (.setLine (some ⟨k, w, o⟩)) s →
    ((6 < k ∨ 3 < w.source ∨ 2550 < w.debounce ∨ w.debounce % 10 ≠ 0 ∨ (k = 0 ∧ o = none) ∨ (k ≠ 0 ∧ o ≠ none)) →
      exec (.setLine (some ⟨k, w, o⟩)) s = refusedWith (.setLine (some ⟨k, w, o⟩)) .badField s) ∧
    (s.supply = .sound →
      (k ≤ 6 ∧ w.source ≤ 3 ∧ w.debounce ≤ 2550 ∧ w.debounce % 10 = 0 ∧ (k = 0 ↔ o.isSome = true)) →
      u =
        { s with
          lineSettings := s.lineSettings.set k w
          settings := { s.settings with autoOpen := o.getD s.settings.autoOpen } } →
      (w.enabled = false → lineActive s k = true →
        ∀ t, t = edgeEffect k false { u with lines := s.lines.set k ⟨false, none⟩ } →
          exec (.setLine (some ⟨k, w, o⟩)) s = okWith (.setLine (some ⟨k, w, o⟩)) (linesReply t) t) ∧
      ((w.enabled = true ∨ lineActive s k = false) →
        ∀ t, t = judgeLine { u with lines := s.lines.set k ⟨lineActive s k, none⟩ } k →
          exec (.setLine (some ⟨k, w, o⟩)) s = okWith (.setLine (some ⟨k, w, o⟩)) (linesReply t) t))

/-- CLOSE_YARD and OPEN_YARD (R156), with the judgement of CLOSING that a CLOSE_YARD makes at once (R157), which posts
its kind although R156 says that neither request does (log 23). A claim that may retire an order or a task ends, after
the watch comparisons, with the same judgement: with neither live a CLOSING yard opens again, with GATE_ARRIVAL, where
auto-open is set and GATE active, and else closes, with YARD_CLOSED and every station off shift (R157). -/
def Obligations.YardModesFollowTheirRequests : Prop :=
  (∀ (named : Option Nat) (before : Table Pack) (s u : State), u = observe named before s →
    ((s.mode ≠ .closing ∨ s.orders ≠ [] ∨ s.tasks ≠ []) → endClaim named before s = u) ∧
    (s.mode = .closing → s.orders = [] → s.tasks = [] → s.settings.autoOpen = true → lineActive s 0 = true →
      endClaim named before s = post .gateArrival { u with mode := .opened }) ∧
    (s.mode = .closing → s.orders = [] → s.tasks = [] → (s.settings.autoOpen = false ∨ lineActive s 0 = false) →
      endClaim named before s =
        post .yardClosed
          { u with
            mode := .closed
            stations := s.stations.map fun st => { st with state := .offShift, capacity := none } })) ∧
  ∀ s : State,
    (atBlock .openYard s → exec .openYard s = okWith .openYard [0#8] { s with mode := .opened }) ∧
    (atBlock .closeYard s → s.mode ≠ .opened →
      exec .closeYard s = okWith .closeYard [byte (yardModeNumber s.mode)] s) ∧
    (atBlock .closeYard s → s.mode = .opened → (s.orders ≠ [] ∨ s.tasks ≠ []) →
      exec .closeYard s = okWith .closeYard [1#8] { s with mode := .closing }) ∧
    (atBlock .closeYard s → s.mode = .opened → s.orders = [] → s.tasks = [] →
      s.settings.autoOpen = true → lineActive s 0 = true →
      exec .closeYard s = okWith .closeYard [0#8] (post .gateArrival s)) ∧
    (atBlock .closeYard s → s.mode = .opened → s.orders = [] → s.tasks = [] →
      (s.settings.autoOpen = false ∨ lineActive s 0 = false) →
      exec .closeYard s =
        okWith .closeYard [2#8]
          (post .yardClosed
            { s with
              mode := .closed
              stations := s.stations.map fun st => { st with state := .offShift, capacity := none } }))

/-- CLEAR_YARD in a closed yard runs on with the retained Pack Table marked invalid, and at its end every record has
retired, the table is valid and empty, the watches have compared each retirement as one change of its record, the
number retired is answered, and nothing else has changed (R54, R162). When each record retires within the request, and
that the watches take the records in order of tag, is the model's choice (log 9). -/
def Obligations.ClearYardEmptiesThePackTable : Prop :=
  ∀ s : State,
    (atBlock .clearYard s → s.supply = .sound → s.mode = .closed →
      exec .clearYard s = .next { s with clearing := true, badTables := s.badTables ||| 4#6 }) ∧
    (atBlock .clearYard s → s.supply = .sound → s.mode ≠ .closed →
      exec .clearYard s = refusedWith .clearYard .mode s) ∧
    (s.stopped = false → s.port = .executing .clearYard → s.clearing = true →
      ∀ u : State, u = { s with packs := [], clearing := false, badTables := s.badTables &&& 0x3B#6 } →
        exec .clearYardEnd s = okWith .clearYard (be2 s.packs.length) (observe none s.packs u) ∧
          (Table.rising s.packs →
            observe none s.packs u = s.packs.foldl (fun v e => observeChange e.1 (some e.2) none v) u))

/-! ## Family 2, products -/

/-- SET_PRODUCT (R24, R25): a code out of range, or a field out of range where the product is to be defined, is refused
with BAD_FIELD at any supply; undefining a product that a live pack or a line of a live order names is refused with
IN_USE; accepted it writes the entry, prunes every listing the change makes unsound, counts the listings pruned, and
clears every STARVED flag. That the count leaves out the own list of a product that becomes undefined is the model's
reading (log 16, DEDUCED). -/
def Obligations.SetProductWritesAndPrunes : Prop :=
  ∀ (code : Nat) (defined : Bool) (f : ProductFields) (s : State) (c : Instr),
    c = .setProduct code defined f → atBlock c s →
    ((code = 0 ∨ 255 < code ∨
        (defined = true ∧
          (15 < f.species ∨ 7 < f.grade ∨ f.thickness < 12 ∨ 300 < f.thickness ∨ f.width < 50 ∨ 300 < f.width ∨
            365 < f.airDryDays))) →
      exec c s = refusedWith c .badField s) ∧
    (1 ≤ code → code ≤ 255 → s.supply = .sound →
      (defined = true →
        f.species ≤ 15 ∧ f.grade ≤ 7 ∧ 12 ≤ f.thickness ∧ f.thickness ≤ 300 ∧ 50 ≤ f.width ∧ f.width ≤ 300 ∧
          f.airDryDays ≤ 365) →
      (defined = false → (s.product code).defined = true →
        ((∃ e ∈ s.packs, e.2.product = code) ∨ ∃ e ∈ s.orders, ∃ l ∈ e.2.lines, l.item.product = code) →
        exec c s = refusedWith c .inUse s) ∧
      ∀ (entry : Product) (before : List Product),
        (defined = false → (s.product code).defined = true →
          (∀ e ∈ s.packs, e.2.product ≠ code) ∧ ∀ e ∈ s.orders, ∀ l ∈ e.2.lines, l.item.product ≠ code) →
        entry =
          (if defined = true then
            ⟨true, f, if (s.product code).defined = true then (s.product code).substitutes else []⟩
          else if (s.product code).defined = true then Product.default
          else s.product code) →
        before = s.products.set code entry →
        ∃ after : List Product,
          after.length = before.length ∧
          (∀ (i : Nat) (p : Product), before[i]? = some p →
            after[i]? =
              some
                { p with
                  substitutes :=
                    p.substitutes.filter fun q =>
                      decide
                        ((i ≠ code ∧ q ≠ code) ∨
                          (p.defined = true ∧ (before.getD q Product.default).defined = true ∧
                            (before.getD q Product.default).fields.species = p.fields.species ∧
                            (before.getD q Product.default).fields.thickness = p.fields.thickness ∧
                            (before.getD q Product.default).fields.width = p.fields.width ∧
                            p.fields.grade ≤ (before.getD q Product.default).fields.grade)) }) ∧
          exec c s =
            okWith c
              (be2
                ((before.map fun p => p.substitutes.length).sum - (after.map fun p => p.substitutes.length).sum))
              (clearStarved { s with products := after }))

/-- SET_SUBSTITUTES replaces the list whole and clears every STARVED flag; refused are a list of more than three codes or
with a code out of range, a product that is not defined, and a list with a code that is undefined, the product's own,
twice there, or not sound (R20, R26). READ_PRODUCT changes nothing (R27). -/
def Obligations.SubstituteListsAreReplacedWhole : Prop :=
  ∀ (code : Nat) (codes : List Nat) (inUse : Bool) (s : State),
    (inUse = true ↔
      (∃ e ∈ s.packs, e.2.product = code) ∨ ∃ e ∈ s.orders, ∃ l ∈ e.2.lines, l.item.product = code) →
    (∀ p, s.products[code]? = some p → s.product code = p) ∧
    (atBlock (.setSubstitutes code codes) s →
      (code = 0 ∨ 255 < code ∨ 3 < codes.length ∨ ∃ q ∈ codes, q = 0 ∨ 255 < q) →
      exec (.setSubstitutes code codes) s = refusedWith (.setSubstitutes code codes) .badField s) ∧
    (atBlock (.setSubstitutes code codes) s → 1 ≤ code → code ≤ 255 → codes.length ≤ 3 → s.supply = .sound →
      (∀ q ∈ codes, 1 ≤ q ∧ q ≤ 255) →
      ((s.product code).defined = false →
        exec (.setSubstitutes code codes) s = refusedWith (.setSubstitutes code codes) .notFound s) ∧
      ((s.product code).defined = true →
        (¬ codes.Nodup ∨
          ∃ q ∈ codes,
            q = code ∨ (s.product q).defined = false ∨
              (s.product q).fields.species ≠ (s.product code).fields.species ∨
              (s.product q).fields.thickness ≠ (s.product code).fields.thickness ∨
              (s.product q).fields.width ≠ (s.product code).fields.width ∨
              (s.product q).fields.grade < (s.product code).fields.grade) →
        exec (.setSubstitutes code codes) s = refusedWith (.setSubstitutes code codes) .badField s)) ∧
    (atBlock (.setSubstitutes code codes) s → 1 ≤ code → code ≤ 255 → codes.length ≤ 3 → s.supply = .sound →
      (s.product code).defined = true → codes.Nodup →
      (∀ q ∈ codes,
        1 ≤ q ∧ q ≤ 255 ∧ q ≠ code ∧ (s.product q).defined = true ∧
          (s.product q).fields.species = (s.product code).fields.species ∧
          (s.product q).fields.thickness = (s.product code).fields.thickness ∧
          (s.product q).fields.width = (s.product code).fields.width ∧
          (s.product code).fields.grade ≤ (s.product q).fields.grade) →
      exec (.setSubstitutes code codes) s =
        okWith (.setSubstitutes code codes) (byte codes.length :: codes.map byte)
          (clearStarved
            { s with products := s.products.set code { s.product code with substitutes := codes } })) ∧
    (atBlock (.readProduct code) s → code ≤ 255 →
      exec (.readProduct code) s =
        okWith (.readProduct code)
          ([byte code, markByte (s.product code).defined, byte (s.product code).fields.species,
              byte (s.product code).fields.grade] ++
            be2 (s.product code).fields.thickness ++ be2 (s.product code).fields.width ++
            [markByte (s.product code).fields.needsKiln] ++ be2 (s.product code).fields.airDryDays ++
            be2 (s.packs.filter fun e => decide (e.2.product = code) && e.2.location.isSome).length ++
            [markByte inUse, byte (s.product code).substitutes.length] ++
            (s.product code).substitutes.map byte) s) ∧
    (atBlock (.readProduct code) s → 255 < code →
      exec (.readProduct code) s = refusedWith (.readProduct code) .badField s)

/-! ## Family 3, packs -/

/-- RECEIVE_PACK (R6, R23, R32, R33, R43, R44, R153): a field out of range, a product that is not defined, or a ready
day with drying KILN is refused with BAD_FIELD at any supply; a tag already live is refused with DUPLICATE; with 2048
records live it is refused and TABLE_FULL is posted; a put-down that R6 does not take is refused, a disabled bay with
BAD_FIELD; accepted it creates the record on top of its stack, STORED, with the yard day as its received day, born
wetted where rain falls, and clears every STARVED flag. -/
def Obligations.ReceivePackCreatesTheRecord : Prop :=
  ∀ (tag product length count mass bay stack : Nat) (drying : Drying) (ready : Option Nat) (s : State)
    (p : Pack) (c : Instr),
    c = .receivePack tag product length count mass drying bay stack ready → atBlock c s →
    ((tag = 0 ∨ 16777215 < tag ∨ length < 10 ∨ 90 < length ∨ count = 0 ∨ 2000 < count ∨ mass < 50 ∨ 5000 < mass ∨
        product = 0 ∨ 255 < product ∨ (s.product product).defined = false ∨ (drying = .kiln ∧ ready ≠ none)) →
      exec c s = refusedWith c .badField s) ∧
    ((1 ≤ tag ∧ tag ≤ 16777215 ∧ 10 ≤ length ∧ length ≤ 90 ∧ 1 ≤ count ∧ count ≤ 2000 ∧ 50 ≤ mass ∧ mass ≤ 5000 ∧
        1 ≤ product ∧ product ≤ 255) →
      (s.product product).defined = true → (drying = .kiln → ready = none) → (∀ d, ready = some d → d ≤ 65535) →
      s.supply = .sound →
      p =
        { product := product
          length := length
          count := count
          mass := mass
          received := s.settings.yardDay
          drying :=
            match drying with
            | .kiln => .kiln
            | .air =>
              .air (ready.getD (min 65535 (s.settings.yardDay + (s.product product).fields.airDryDays)))
          wetted := s.raining && !(s.bay bay).covered
          state := .stored
          location := some ⟨bay, stack, height s bay stack⟩
          reservation := none
          task := none
          hold := none } →
      (∀ q, Table.get s.packs tag = some q → exec c s = refusedWith c .duplicate s) ∧
      (∀ status, Table.get s.packs tag = none → s.packs.length < 2048 →
        putDownRefused s bay stack .badField status → exec c s = refusedWith c status s) ∧
      (Table.get s.packs tag = none → s.packs.length < 2048 → putDownTaken s bay stack →
        exec c s =
          okWith c
            ([bitsByte [p.ready.isSome]] ++ be3 tag ++ be2 s.settings.yardDay ++ be2 (p.ready.getD 0) ++
              [byte (height s bay stack), markByte p.wetted])
            (observe (some tag) s.packs (clearStarved { s with packs := Table.put s.packs tag p }))) ∧
      (Table.get s.packs tag = none → 2048 ≤ s.packs.length → exec c s = refusedWith c .tableFull (post .tableFull s)))

/-- READ_PACK, READ_STACK and FIND_OLDEST change nothing, and answer from the table as it stands (R45, R46, R47, R192,
R197): READ_PACK with every field of the record, its dig and its task, and FIND_OLDEST with the first pack of the
product's chain, or the one after the tag it gives; a chain without that pack is NOT_FOUND, and a tag that is not in
the chain BAD_FIELD, as is a tag or a code out of range. Beside it, the numbers of R191 for packs and tasks. -/
def Obligations.PackReadsChangeNothing : Prop :=
  ([PackState.stored, .reserved, .moving, .lifted, .loaded, .held].map packStateNumber = [1, 2, 3, 4, 5, 6] ∧
    [HoldReason.damaged, .missing, .lostInTransit, .loadedUnconfirmed].map holdReasonNumber = [1, 2, 3, 4] ∧
    (∀ (r : LineRef) (tag : Nat), [.fetch r, .shift tag, .giveBack].map taskKindNumber = [1, 2, 3]) ∧
    [TaskState.opened, .offered, .accepted, .lifted].map taskStateNumber = [1, 2, 3, 4]) ∧
  ∀ (tag bay stack code : Nat) (s : State),
    (∀ p reply, atBlock (.readPack tag) s → 1 ≤ tag → tag ≤ 16777215 → Table.get s.packs tag = some p →
      reply =
        [bitsByte
            [decide (p.drying ≠ .kiln), p.location.isSome, p.reservation.isSome, p.task.isSome, p.hold.isSome]] ++
          be3 tag ++ [byte p.product, byte p.length] ++ be2 p.count ++ be2 p.mass ++ be2 p.received ++
          (match p.drying with
            | .kiln => [0#8, 0#8, 0#8]
            | .air ready => 1#8 :: be2 ready) ++
          [markByte p.wetted, byte (packStateNumber p.state)] ++
          (match p.location with
            | none => [0#8, 0#8, 0#8, 0#8]
            | some l => [byte l.bay, byte l.stack, byte l.tier, byte (dig s tag)]) ++
          (match p.reservation with
            | none => [0#8, 0#8]
            | some r => [byte r.handle, byte r.line]) ++
          (match p.task with
            | none => [0#8, 0#8, 0#8]
            | some n =>
              byte n ::
                match s.tasks.find? (fun t => decide (t.number = n)) with
                | none => [0#8, 0#8]
                | some t => [byte (taskKindNumber t.kind), byte (taskStateNumber t.state)]) ++
          [match p.hold with
            | none => 0#8
            | some h => byte (holdReasonNumber h)] →
      exec (.readPack tag) s = okWith (.readPack tag) reply s ∧ reply.length = 27) ∧
    (atBlock (.readPack tag) s → 1 ≤ tag → tag ≤ 16777215 → Table.get s.packs tag = none →
      exec (.readPack tag) s = refusedWith (.readPack tag) .notFound s) ∧
    (atBlock (.readPack tag) s → (tag = 0 ∨ 16777215 < tag) →
      exec (.readPack tag) s = refusedWith (.readPack tag) .badField s) ∧
    (∀ after, atBlock (.findOldest code after) s → (code = 0 ∨ 255 < code) →
      exec (.findOldest code after) s = refusedWith (.findOldest code after) .badField s) ∧
    (atBlock (.readStack bay stack) s → bay ≤ 63 → stack < (s.bay bay).stackCount →
      exec (.readStack bay stack) s =
        okWith (.readStack bay stack)
          ([byte (s.bay bay).tierLimit, byte (height s bay stack)] ++
            (stackList s bay stack).flatMap fun e =>
              [bitsByte [e.2.hold.isSome]] ++ be3 e.1 ++ [byte (packStateNumber e.2.state)] ++
                [match e.2.hold with
                  | none => 0#8
                  | some h => byte (holdReasonNumber h)] ++
                [markByte e.2.wetted]) s) ∧
    (atBlock (.readStack bay stack) s → (63 < bay ∨ (s.bay bay).stackCount ≤ stack) →
      exec (.readStack bay stack) s = refusedWith (.readStack bay stack) .badField s) ∧
    ∀ (l : Table Pack) (after : Option Nat) (c : Instr), c = .findOldest code after → atBlock c s →
      1 ≤ code → code ≤ 255 → Table.rising s.packs → chainIs s code l →
      (∀ e reply,
        ((after = none ∧ l.head? = some e) ∨
          ∃ before f rest, after = some f.1 ∧ l = before ++ f :: e :: rest) →
        reply =
          [bitsByte [decide (e.2.drying ≠ .kiln)]] ++ be2 l.length ++ be3 e.1 ++ be2 e.2.received ++
            [byte (packStateNumber e.2.state)] ++
            (match e.2.location with
              | none => [0#8, 0#8, 0#8]
              | some m => [byte m.bay, byte m.stack, byte m.tier]) ++
            [markByte e.2.wetted] ++
            (match e.2.drying with
              | .kiln => [0#8, 0#8, 0#8]
              | .air ready => 1#8 :: be2 ready) →
        exec c s = okWith c reply s ∧ reply.length = 16) ∧
      (((after = none ∧ l = []) ∨ ∃ before f, after = some f.1 ∧ l = before ++ [f]) →
        exec c s = refusedWith c .notFound s) ∧
      ∀ n, after = some n → (∀ e ∈ l, e.1 ≠ n) → exec c s = refusedWith c .badField s

/-- RECORD_MOVE (R6, R9, R48, R49, R153): a pack that is RESERVED, MOVING or LIFTED is refused with BUSY_PACK, one
that is LOADED or HELD for another reason than DAMAGED with WRONG_STATE, and one that is not on top of its stack with
NOT_ON_TOP. Of a STORED or HELD DAMAGED pack on top of its stack, a put-down that R6 does not take is refused, a
disabled bay with MODE; else the pack moves to the top of the other stack, in one change, and is wetted where rain
falls; on its own stack nothing changes. It clears no STARVED flag. Beside it, what every removal and every put-down
writes: a removal clears the pack's location and lowers each pack above it by one tier (R8); a put-down gives the pack
the place above all the packs of the stack, with the change of record its requester asks for, and wets it in an
uncovered bay in the rain (R7, R9, R153). -/
def Obligations.RecordMoveMovesATopPack : Prop :=
  (∀ (tag : Nat) (s : State),
    (∀ p l, Table.get s.packs tag = some p → p.location = some l →
      removeFromStack tag s =
        { s with
          packs :=
            s.packs.map fun e =>
              (e.1,
                if e.1 = tag then { e.2 with location := none }
                else
                  match e.2.location with
                  | none => e.2
                  | some m =>
                    if m.bay = l.bay ∧ m.stack = l.stack ∧ l.tier < m.tier then
                      { e.2 with location := some ⟨m.bay, m.stack, m.tier - 1⟩ }
                    else e.2) }) ∧
    ((∀ p, Table.get s.packs tag = some p → p.location = none) → removeFromStack tag s = s) ∧
    ∀ (b k : Nat) (f : Pack → Pack) (u : State) (among : Nat × Pack → Bool), u = removeFromStack tag s →
      (∀ e, among e = true ↔ ∃ i, e.2.location = some ⟨b, k, i⟩) →
      putDown b k tag f s =
        { u with
          packs :=
            u.packs.map fun e =>
              (e.1,
                if e.1 = tag then
                  { f e.2 with
                    location := some ⟨b, k, (u.packs.filter among).length⟩
                    wetted := e.2.wetted || (s.raining && !(s.bay b).covered) }
                else e.2) }) ∧
  ∀ (tag bay stack : Nat) (s : State) (p : Pack) (l : Location) (c : Instr),
    c = .recordMove tag bay stack → atBlock c s → 1 ≤ tag → tag ≤ 16777215 → s.supply = .sound →
    Table.get s.packs tag = some p →
    ((p.state = .reserved ∨ p.state = .moving ∨ p.state = .lifted) → exec c s = refusedWith c .busyPack s) ∧
    ((p.state = .loaded ∨ (p.state = .held ∧ p.hold ≠ some .damaged)) → exec c s = refusedWith c .wrongState s) ∧
    ((p.state = .stored ∨ (p.state = .held ∧ p.hold = some .damaged)) → p.location = some l →
      (topPack s l.bay l.stack ≠ some tag → exec c s = refusedWith c .notOnTop s) ∧
      (topPack s l.bay l.stack = some tag →
        (∀ status, putDownRefused s bay stack .mode status → exec c s = refusedWith c status s) ∧
        (putDownTaken s bay stack → ¬ (l.bay = bay ∧ l.stack = stack) →
          exec c s =
            okWith c [byte bay, byte stack, byte (height (removeFromStack tag s) bay stack)]
              (observe (some tag) s.packs (putDown bay stack tag id s))) ∧
        (putDownTaken s bay stack → l.bay = bay → l.stack = stack →
          exec c s = okWith c [byte l.bay, byte l.stack, byte l.tier] s)))

/-- HOLD_PACK makes a STORED pack HELD DAMAGED in place, and releases the reservation of a RESERVED pack whose FETCH
is OPEN or OFFERED; every other state is refused with BUSY_PACK. RELEASE_PACK brings a HELD pack back, in place or
onto a stack, and refuses a put-down that R6 does not take; a pack that is not HELD is refused with WRONG_STATE, and a
location for a DAMAGED pack, or none for one HELD for another reason, with BAD_FIELD. SCRAP_PACK retires a STORED or
HELD pack, and refuses every other state with BUSY_PACK. These three and RECORD_MOVE refuse a tag out of range with
BAD_FIELD at any supply, and a tag that is not live with NOT_FOUND (R6, R48, R50, R51, R52). What the release of a
reservation does is stated in CancelAndDepartEndTheOrder. -/
def Obligations.PacksAreHeldReleasedAndScrapped : Prop :=
  (∀ (p : Pack) (why : HoldReason),
    p.toStored = { p with state := .stored, reservation := none, task := none, hold := none } ∧
      p.toHeld why = { p with state := .held, reservation := none, task := none, hold := some why }) ∧
  (∀ (tag : Nat) (s : State),
    fetchUntaken s tag = true ↔
      ∃ f, s.tasks.find? (fun t => decide (t.subject = tag) && t.isFetch) = some f ∧
        (f.state = .opened ∨ f.state = .offered)) ∧
  (∀ (tag bay stack : Nat) (place : Option (Nat × Nat)) (s : State) (c : Instr),
    (c = .holdPack tag ∨ c = .releasePack tag place ∨ c = .scrapPack tag ∨ c = .recordMove tag bay stack) →
    atBlock c s →
    ((tag = 0 ∨ 16777215 < tag) → exec c s = refusedWith c .badField s) ∧
    (1 ≤ tag → tag ≤ 16777215 → s.supply = .sound → Table.get s.packs tag = none →
      exec c s = refusedWith c .notFound s)) ∧
  ∀ (tag : Nat) (s : State) (p : Pack), 1 ≤ tag → tag ≤ 16777215 → s.supply = .sound →
    Table.get s.packs tag = some p →
    (atBlock (.holdPack tag) s → p.state = .stored →
      exec (.holdPack tag) s =
        okWith (.holdPack tag) []
          (observe (some tag) s.packs
            { s with
              packs :=
                Table.update s.packs tag fun q =>
                  { q with state := .held, reservation := none, task := none, hold := some .damaged } })) ∧
    (atBlock (.holdPack tag) s → p.state = .reserved → fetchUntaken s tag = true →
      exec (.holdPack tag) s =
        okWith (.holdPack tag) []
          (endClaim (some tag) s.packs (releaseAtRest tag (Pack.toHeld .damaged) s))) ∧
    (atBlock (.holdPack tag) s → p.state ≠ .stored → (p.state ≠ .reserved ∨ fetchUntaken s tag = false) →
      exec (.holdPack tag) s = refusedWith (.holdPack tag) .busyPack s) ∧
    (atBlock (.releasePack tag none) s → p.state = .held → p.hold = some .damaged →
      exec (.releasePack tag none) s =
        okWith (.releasePack tag none)
          (match p.location with
            | none => [0#8, 0#8, 0#8]
            | some l => [byte l.bay, byte l.stack, byte l.tier])
          (observe (some tag) s.packs
            (clearStarved { s with packs := Table.update s.packs tag Pack.toStored }))) ∧
    (∀ bay stack, atBlock (.releasePack tag (some (bay, stack))) s → p.state = .held → p.hold ≠ some .damaged →
      (∀ status, putDownRefused s bay stack .mode status →
        exec (.releasePack tag (some (bay, stack))) s =
          refusedWith (.releasePack tag (some (bay, stack))) status s) ∧
      (putDownTaken s bay stack →
        exec (.releasePack tag (some (bay, stack))) s =
          okWith (.releasePack tag (some (bay, stack)))
            [byte bay, byte stack, byte (height (removeFromStack tag s) bay stack)]
            (observe (some tag) s.packs (clearStarved (putDown bay stack tag Pack.toStored s))))) ∧
    (∀ place, atBlock (.releasePack tag place) s → p.state ≠ .held →
      exec (.releasePack tag place) s = refusedWith (.releasePack tag place) .wrongState s) ∧
    (∀ place, atBlock (.releasePack tag place) s → p.state = .held →
      ((p.hold = some .damaged ∧ place ≠ none) ∨ (p.hold ≠ some .damaged ∧ place = none)) →
      exec (.releasePack tag place) s = refusedWith (.releasePack tag place) .badField s) ∧
    (atBlock (.scrapPack tag) s → p.state ≠ .stored → p.state ≠ .held →
      exec (.scrapPack tag) s = refusedWith (.scrapPack tag) .busyPack s) ∧
    (atBlock (.scrapPack tag) s → (p.state = .stored ∨ p.state = .held) →
      exec (.scrapPack tag) s =
        okWith (.scrapPack tag) []
          (observe (some tag) s.packs
            { removeFromStack tag s with packs := Table.erase (removeFromStack tag s).packs tag }))

/-- CLEAR_WETTED clears the mark of the pack it names, or of every pack in the bay it names, answers the number of
marks cleared, and clears every STARVED flag when that is above 0; a tag and a bay together, or neither, and a tag or
a bay out of range are refused with BAD_FIELD at any supply, and a tag that is not live with NOT_FOUND (R53). -/
def Obligations.ClearWettedClearsMarks : Prop :=
  (∀ (tag bay : Option Nat) (s : State) (c : Instr), c = .clearWetted tag bay → atBlock c s →
    ((tag.isSome = bay.isSome ∨ (∃ t, tag = some t ∧ (t = 0 ∨ 16777215 < t)) ∨ ∃ b, bay = some b ∧ 63 < b) →
      exec c s = refusedWith c .badField s) ∧
    ∀ t, tag = some t → bay = none → 1 ≤ t → t ≤ 16777215 → s.supply = .sound → Table.get s.packs t = none →
      exec c s = refusedWith c .notFound s) ∧
  ∀ (which : Nat → Pack → Bool) (tag bay : Option Nat) (s u : State) (n : Nat),
    atBlock (.clearWetted tag bay) s → s.supply = .sound →
    ((∃ t p, tag = some t ∧ bay = none ∧ 1 ≤ t ∧ t ≤ 16777215 ∧ Table.get s.packs t = some p ∧
        which = fun v _ => decide (v = t)) ∨
      (∃ b, tag = none ∧ bay = some b ∧ b ≤ 63 ∧ which = fun _ p => p.inBay b)) →
    n = (s.packs.filter fun e => which e.1 e.2 && e.2.wetted).length →
    u =
      observe tag s.packs
        { s with
          packs := s.packs.map fun e => (e.1, if which e.1 e.2 then { e.2 with wetted := false } else e.2) } →
    (n = 0 → exec (.clearWetted tag bay) s = okWith (.clearWetted tag bay) [0#8] u) ∧
    (0 < n → exec (.clearWetted tag bay) s = okWith (.clearWetted tag bay) [byte n] (clearStarved u))

/-! ## Family 4, orders -/

/-- CHECK_IN (R60, R62, R63, R64): a field out of range, a product that is not defined, or a number or sum of lines
that is not allowed is refused with BAD_FIELD in every mode; with fields in range it is refused with MODE in a yard
that is not OPEN, with TABLE_FULL, posted too, when 32 orders are live, and with DUPLICATE for a truck reference that
is live; accepted it takes the lowest free handle, creates the order QUEUED with nothing allocated, and joins the
queue at the tail of its level. -/
def Obligations.CheckInCreatesTheOrder : Prop :=
  ∀ (truck level payload : Nat) (supervised : Bool) (lines : List LineItem) (s : State) (c : Instr),
    c = .checkIn truck level payload supervised lines → atBlock c s →
    ((truck = 0 ∨ 65535 < truck ∨ 3 < level ∨ payload < 1000 ∨ 40000 < payload ∨ lines = [] ∨ 4 < lines.length ∨
        24 < (lines.map LineItem.quantity).sum ∨
        ∃ l ∈ lines,
          l.quantity = 0 ∨ 24 < l.quantity ∨ l.low < 10 ∨ 90 < l.low ∨ l.high < 10 ∨ 90 < l.high ∨ l.high < l.low ∨
            5 < l.digLimit ∨ l.product = 0 ∨ 255 < l.product ∨ (s.product l.product).defined = false ∨
            ∃ w, l.window = some w ∧
              (15 < w.rowMin ∨ 15 < w.rowMax ∨ w.rowMax < w.rowMin ∨ 15 < w.colMin ∨ 15 < w.colMax ∨
                w.colMax < w.colMin)) →
      exec c s = refusedWith c .badField s) ∧
    ((1 ≤ truck ∧ truck ≤ 65535 ∧ level ≤ 3 ∧ 1000 ≤ payload ∧ payload ≤ 40000) →
      1 ≤ lines.length → lines.length ≤ 4 → (lines.map LineItem.quantity).sum ≤ 24 →
      (∀ l ∈ lines,
        1 ≤ l.quantity ∧ l.quantity ≤ 24 ∧ 10 ≤ l.low ∧ l.low ≤ l.high ∧ l.high ≤ 90 ∧ l.digLimit ≤ 5 ∧
          1 ≤ l.product ∧ l.product ≤ 255 ∧ (s.product l.product).defined = true ∧
          ∀ w, l.window = some w →
            w.rowMin ≤ w.rowMax ∧ w.rowMax ≤ 15 ∧ w.colMin ≤ w.colMax ∧ w.colMax ≤ 15) →
      (s.mode ≠ .opened → exec c s = refusedWith c .mode s) ∧
      (s.mode = .opened → 32 ≤ s.orders.length → exec c s = refusedWith c .tableFull (post .tableFull s)) ∧
      (s.mode = .opened → s.orders.length < 32 → (∃ e ∈ s.orders, e.2.truck = truck) →
        exec c s = refusedWith c .duplicate s) ∧
      (s.mode = .opened → s.orders.length < 32 → (∀ e ∈ s.orders, e.2.truck ≠ truck) → queueLaw s →
      ∃ h front back,
        1 ≤ h ∧ h ≤ 32 ∧ h ∉ s.orders.keys ∧ (∀ m, 1 ≤ m → m < h → m ∈ s.orders.keys) ∧
          s.queue = front ++ back ∧ (∀ x ∈ front, level ≤ levelOf s x) ∧
          (∀ x, back.head? = some x → levelOf s x < level) ∧
          exec c s =
            okWith c [byte h, byte (front.length + 1)]
              { s with
                orders :=
                  Table.put s.orders h
                    { truck := truck
                      level := level
                      state := .queued
                      point := none
                      payload := payload
                      supervised := supervised
                      lines := lines.map fun l => ⟨l, 0, 0, false⟩
                      committed := 0
                      proposal := none
                      rejected := [] }
                queue := front ++ h :: back }))

/-- READ_ORDER changes nothing, whichever form it has (R65, R193): a handle or a truck reference out of range, or both
together, is refused with BAD_FIELD, and one that no live order has with NOT_FOUND; else it gives one order with its
queue position, its remaining budget, its deck line and its lines, or the queue's list. The deck line is the lowest
numbered line not wholly loaded (R68). That seconds left are rounded up is the model's choice (log 3). -/
def Obligations.ReadOrderChangesNothing : Prop :=
  [OrderState.queued, .atPoint, .complete].map orderStateNumber = [1, 2, 3] ∧
  (∀ s : State,
    (atBlock (.readOrder none none) s →
      exec (.readOrder none none) s =
        okWith (.readOrder none none)
          (byte s.queue.length ::
            s.queue.flatMap fun n =>
              match Table.get s.orders n with
              | none => []
              | some u => [byte n] ++ be2 u.truck ++ [byte u.level, byte (orderStateNumber u.state)]) s) ∧
    ∀ (handle truck : Option Nat) (c : Instr), c = .readOrder handle truck → atBlock c s →
      (((handle.isSome = true ∧ truck.isSome = true) ∨ (∃ h, handle = some h ∧ (h = 0 ∨ 32 < h)) ∨
          ∃ r, truck = some r ∧ (r = 0 ∨ 65535 < r)) →
        exec c s = refusedWith c .badField s) ∧
      (((∃ h, handle = some h ∧ truck = none ∧ 1 ≤ h ∧ h ≤ 32 ∧ Table.get s.orders h = none) ∨
          ∃ r, handle = none ∧ truck = some r ∧ 1 ≤ r ∧ r ≤ 65535 ∧ ∀ e ∈ s.orders, e.2.truck ≠ r) →
        exec c s = refusedWith c .notFound s)) ∧
  ∀ (h : Nat) (o : Order) (s : State) (deck : Option Nat) (front back : List Nat) (reply : List Byte),
    s.queue = front ++ h :: back → h ∉ front →
    (((∀ l ∈ o.lines, l.item.quantity ≤ l.loaded) ∧ deck = none) ∨
      ∃ full l rest, o.lines = full ++ l :: rest ∧ (∀ m ∈ full, m.item.quantity ≤ m.loaded) ∧
        l.loaded < l.item.quantity ∧ deck = some (full.length + 1)) →
    reply =
      [bitsByte [o.point.isSome, o.proposal.isSome, deck.isSome], byte h] ++ be2 o.truck ++
        [byte o.level, byte (orderStateNumber o.state), byte (o.point.getD 0)] ++ be2 o.payload ++
        [markByte o.supervised] ++ be2 o.committed ++ be2 (o.payload - o.committed) ++
        [byte (front.length + 1), byte (deck.getD 0)] ++
        (match o.proposal with
          | none => List.replicate 8 0#8
          | some p => [byte p.line] ++ be3 p.tag ++ be2 p.cost ++ be2 ((p.left + 99) / 100)) ++
        [byte o.rejected.length] ++ o.rejected.flatMap be3 ++ [byte o.lines.length] ++
        o.lines.zipIdx.flatMap (fun e =>
          [bitsByte [e.1.item.window.isSome], byte (e.2 + 1), byte e.1.item.product, byte e.1.item.quantity,
              byte e.1.item.low, byte e.1.item.high] ++
            (match e.1.item.window with
              | none => [0#8, 0#8, 0#8, 0#8]
              | some w => [byte w.rowMin, byte w.rowMax, byte w.colMin, byte w.colMax]) ++
            [markByte e.1.item.substitution, byte e.1.item.digLimit, byte e.1.allocated, byte e.1.loaded,
              markByte e.1.starved]) →
    reply.length = 26 + 3 * o.rejected.length + 15 * o.lines.length ∧
    (atBlock (.readOrder (some h) none) s → 1 ≤ h → h ≤ 32 → Table.get s.orders h = some o →
      exec (.readOrder (some h) none) s = okWith (.readOrder (some h) none) reply s) ∧
    ∀ before after, atBlock (.readOrder none (some o.truck)) s → 1 ≤ o.truck → o.truck ≤ 65535 →
      s.orders = before ++ (h, o) :: after → (∀ e ∈ before, e.2.truck ≠ o.truck) →
      exec (.readOrder none (some o.truck)) s = okWith (.readOrder none (some o.truck)) reply s

/-- SET_POINT writes the point and calls a QUEUED order to it, and refuses what R73 refuses; SET_LEVEL moves the order
to the tail of its new level and clears every STARVED flag, and repeating the level changes nothing (R62, R73, R75).
-/
def Obligations.PointsAndLevelsAreWritten : Prop :=
  ∀ (h n : Nat) (s : State),
    (orderHasLifted s h = true ↔
      ∃ e ∈ s.packs, e.2.state = .lifted ∧ ∃ r, e.2.reservation = some r ∧ r.handle = h) ∧
    (atBlock (.setPoint h n) s → (h = 0 ∨ 32 < h ∨ n = 0 ∨ 4 < n) →
      exec (.setPoint h n) s = refusedWith (.setPoint h n) .badField s) ∧
    (atBlock (.setPoint h n) s → 1 ≤ h → h ≤ 32 → 1 ≤ n → n ≤ 4 → Table.get s.orders h = none →
      exec (.setPoint h n) s = refusedWith (.setPoint h n) .notFound s) ∧
    (atBlock (.setLevel h n) s → (h = 0 ∨ 32 < h ∨ 3 < n) →
      exec (.setLevel h n) s = refusedWith (.setLevel h n) .badField s) ∧
    (atBlock (.setLevel h n) s → 1 ≤ h → h ≤ 32 → n ≤ 3 → Table.get s.orders h = none →
      exec (.setLevel h n) s = refusedWith (.setLevel h n) .notFound s) ∧
    ∀ o : Order, 1 ≤ h → h ≤ 32 → Table.get s.orders h = some o →
    (atBlock (.setPoint h n) s → 1 ≤ n → n ≤ 4 → (∀ e ∈ s.orders, e.1 ≠ h → e.2.point ≠ some n) →
      (o.point = none ∨ o.point = some n ∨ orderHasLifted s h = false) →
      exec (.setPoint h n) s =
        okWith (.setPoint h n) []
          { s with
            orders :=
              Table.update s.orders h fun u =>
                { u with point := some n, state := if u.state = .queued then .atPoint else u.state } }) ∧
    (atBlock (.setPoint h n) s → 1 ≤ n → n ≤ 4 → (∃ e ∈ s.orders, e.1 ≠ h ∧ e.2.point = some n) →
      exec (.setPoint h n) s = refusedWith (.setPoint h n) .pointTaken s) ∧
    (∀ m, atBlock (.setPoint h n) s → 1 ≤ n → n ≤ 4 → (∀ e ∈ s.orders, e.1 ≠ h → e.2.point ≠ some n) →
      o.point = some m → m ≠ n → orderHasLifted s h = true →
      exec (.setPoint h n) s = refusedWith (.setPoint h n) .wrongState s) ∧
    (atBlock (.setLevel h n) s → n ≤ 3 → o.level = n →
      exec (.setLevel h n) s = okWith (.setLevel h n) [byte (queuePosition s h)] s) ∧
    (atBlock (.setLevel h n) s → n ≤ 3 → o.level ≠ n →
      ∃ front back,
        s.queue.filter (fun x => decide (x ≠ h)) = front ++ back ∧ (∀ x ∈ front, n ≤ levelOf s x) ∧
          (∀ x, back.head? = some x → levelOf s x < n) ∧
          exec (.setLevel h n) s =
            okWith (.setLevel h n) [byte (front.length + 1)]
              (clearStarved
                { s with
                  orders := Table.update s.orders h fun u => { u with level := n }
                  queue := front ++ h :: back }))

/-- CANCEL and DEPART refuse a handle out of range with BAD_FIELD at any supply and one that is not live with
NOT_FOUND; else they release the order's reservations, deal with its LOADED packs, retire the order, free its place in
the queue, and abandon a scan of one of its lines (R76, R77, R78, R79, R99); which packs are released first (log 15),
and that to the watches the claim names no record (log 13), are the model's choice. What a release does (R139): the
SHIFTs that serve the pack and are not LIFTED retire, and their packs become STORED; the FETCH of a pack at rest
retires; a station that held one of these becomes IDLE with notice WITHDRAWN; the counts fall; and a LIFTED FETCH
becomes a RETURN of the same station, with the notice. -/
def Obligations.CancelAndDepartEndTheOrder : Prop :=
  (∀ (h : Nat) (s : State) (c : Instr), (c = .cancel h ∨ c = .depart h) → atBlock c s →
    ((h = 0 ∨ 32 < h) → exec c s = refusedWith c .badField s) ∧
    (1 ≤ h → h ≤ 32 → s.supply = .sound → Table.get s.orders h = none → exec c s = refusedWith c .notFound s)) ∧
  (∀ (h : Nat) (o : Order) (s u : State) (retired : State → State), 1 ≤ h → h ≤ 32 → s.supply = .sound →
    Table.get s.orders h = some o →
    u =
      (tagsOf s .lifted h).foldl (fun v t => releaseLifted t v)
        ((tagsOf s .reserved h).foldl (fun v t => releaseAtRest t Pack.toStored v) s) →
    retired =
      (fun v : State =>
        endClaim none s.packs
          { v with
            orders := Table.erase v.orders h
            queue := v.queue.filter fun x => decide (x ≠ h)
            engine :=
              if v.engine.line.map LineRef.handle = some h then
                ⟨.idle, none, none, none, false, v.engine.restarts⟩
              else v.engine }) →
    (∀ st, tagsOf s st h =
      (s.packs.filter fun e => decide (e.2.state = st ∧ e.2.reservation.map LineRef.handle = some h)).map Prod.fst) ∧
    (atBlock (.cancel h) s →
      exec (.cancel h) s =
        okWith (.cancel h)
          [byte (tagsOf s .loaded h).length, byte (tagsOf s .lifted h).length, byte (tagsOf s .reserved h).length]
          (retired ((tagsOf u .loaded h).foldl (fun v t => changePack t (Pack.toHeld .loadedUnconfirmed) v) u))) ∧
    (atBlock (.depart h) s →
      exec (.depart h) s =
        okWith (.depart h)
          [byte (tagsOf s .loaded h).length, byte (tagsOf s .lifted h).length, byte (tagsOf s .reserved h).length]
          (retired ((tagsOf u .loaded h).foldl (fun v t => retirePack t v) u))) ∧
    (∀ v, Table.get (retired v).orders h = none ∧ h ∉ (retired v).queue)) ∧
  (∀ (tag : Nat) (s v : State) (gone : List Task),
    gone = s.tasks.filter (fun t => decide (t.kind = .shift tag ∧ t.state ≠ .lifted)) → v = releaseShifts tag s →
    v.tasks = s.tasks.filter (fun t => decide (t.number ∉ gone.map Task.number)) ∧
      v.packs =
        s.packs.map (fun e =>
          (e.1,
            if e.1 ∈ gone.map Task.subject then
              { e.2 with state := .stored, reservation := none, task := none, hold := none }
            else e.2)) ∧
      (∀ (i : Nat) (st : Station), s.stations[i]? = some st →
        v.stations[i]? =
          some (if some (i + 1) ∈ gone.map Task.station then { st with state := .idle, notice := true } else st)) ∧
      (gone = [] → v = s) ∧
      (gone ≠ [] →
        v.orders = s.orders.map (fun e => (e.1, e.2.unstarved)) ∧
          v.engine = if s.engine.state = .idle then s.engine else { s.engine with clearSeen := true })) ∧
  ∀ (tag : Nat) (p : Pack) (r : LineRef) (f : Task) (after : Pack → Pack) (lower : Table Order → Table Order)
    (s v : State),
    Table.get s.packs tag = some p → p.reservation = some r → v = releaseShifts tag s →
    v.tasks.find? (fun t => decide (t.subject = tag) && t.isFetch) = some f →
    lower =
      (fun t =>
        Table.update t r.handle fun o =>
          { o with
            lines := changeNth o.lines r.line fun l => { l with allocated := l.allocated - 1 }
            committed := o.committed - p.mass }) →
    releaseAtRest tag after s =
        { v with
          packs := Table.update v.packs tag after
          tasks := v.tasks.filter fun t => decide (t.number ≠ f.number)
          stations :=
            match f.station with
            | none => v.stations
            | some n => changeNth v.stations n fun st => { st with state := .idle, notice := true }
          orders := lower (v.orders.map fun e => (e.1, e.2.unstarved))
          engine := if v.engine.state = .idle then v.engine else { v.engine with clearSeen := true } } ∧
      ∀ n, f.station = some n →
        releaseLifted tag s =
          { v with
            packs := Table.update v.packs tag fun q => { q with reservation := none }
            tasks :=
              v.tasks.map fun u =>
                if u.number = f.number then
                  { u with kind := .giveBack, suggested := suggestFromStation v (some n) }
                else u
            stations := changeNth v.stations n fun st => { st with notice := true }
            orders := lower v.orders }

/-- CONFIRM_PROPOSAL and REJECT_PROPOSAL refuse a handle or a tag out of range with BAD_FIELD, a handle that is not
live with NOT_FOUND, and an empty slot or one that names another tag with WRONG_STATE. Taken, CONFIRM_PROPOSAL empties
the slot in every case: it reserves a STORED pack or takes over a RESERVED one that passes validation, and is answered
STALE otherwise. REJECT_PROPOSAL empties the slot and adds the tag to the rejected list. An expired proposal leaves
the list (R71, R108 to R111). -/
def Obligations.ProposalsAreAnswered : Prop :=
  (∀ (h tag : Nat) (s : State) (c : Instr), (c = .confirmProposal h tag ∨ c = .rejectProposal h tag) →
    atBlock c s →
    ((h = 0 ∨ 32 < h ∨ tag = 0 ∨ 16777215 < tag) → exec c s = refusedWith c .badField s) ∧
    (1 ≤ h → h ≤ 32 → 1 ≤ tag → tag ≤ 16777215 → (c = .rejectProposal h tag ∨ s.supply = .sound) →
      (Table.get s.orders h = none → exec c s = refusedWith c .notFound s) ∧
      ∀ o, Table.get s.orders h = some o → (∀ pr, o.proposal = some pr → pr.tag ≠ tag) →
        exec c s = refusedWith c .wrongState s)) ∧
  ∀ (h tag : Nat) (o : Order) (pr : Proposal) (s u : State), 1 ≤ h → h ≤ 32 → 1 ≤ tag → tag ≤ 16777215 →
    Table.get s.orders h = some o → o.proposal = some pr → pr.tag = tag →
    u = { s with orders := Table.update s.orders h fun v => { v with proposal := none } } →
    (∀ p l, atBlock (.confirmProposal h tag) s → s.supply = .sound → Table.get s.packs tag = some p →
      nth o.lines pr.line = some l → l.allocated < l.item.quantity → p.state = .stored →
      firstPassOk s o l.item tag p = true →
      exec (.confirmProposal h tag) s =
        okWith (.confirmProposal h tag) (be3 tag ++ be2 (packCost s o l.item tag p))
          (observe (some tag) s.packs (reserve ⟨h, pr.line⟩ tag p u))) ∧
    (∀ p l, atBlock (.confirmProposal h tag) s → s.supply = .sound → Table.get s.packs tag = some p →
      nth o.lines pr.line = some l → l.allocated < l.item.quantity → p.state = .reserved →
      secondPassOk s o l.item tag p = true →
      exec (.confirmProposal h tag) s =
        okWith (.confirmProposal h tag) (be3 tag ++ be2 (packCost s o l.item tag p))
          (observe (some tag) s.packs (takeOver ⟨h, pr.line⟩ tag p u))) ∧
    (atBlock (.confirmProposal h tag) s → s.supply = .sound →
      (∀ p l, Table.get s.packs tag = some p → nth o.lines pr.line = some l → l.allocated < l.item.quantity →
        ¬ (p.state = .stored ∧ firstPassOk s o l.item tag p = true) ∧
          ¬ (p.state = .reserved ∧ secondPassOk s o l.item tag p = true)) →
      exec (.confirmProposal h tag) s = refusedWith (.confirmProposal h tag) .stale u) ∧
    (atBlock (.rejectProposal h tag) s →
      exec (.rejectProposal h tag) s =
        okWith (.rejectProposal h tag) []
          { s with
            orders :=
              Table.update s.orders h fun v =>
                { v with
                  proposal := none
                  rejected :=
                    if tag ∈ v.rejected then v.rejected
                    else if v.rejected.length < 8 then v.rejected ++ [tag]
                    else v.rejected.drop 1 ++ [tag] } }) ∧
    (s.running = true → pr.left = 0 → exec (.proposalExpiry h) s = .next (post .proposalExpired u))

/-- A reservation creates one SHIFT for each pack above the winner, from the top pack down, and then its FETCH, all
OPEN, each with the lowest free number as it is created (R117); it makes the winner RESERVED for the line and the
packs above it MOVING, each naming its task, and raises the line's allocated count and the committed mass (R40, R102).
A takeover gives the pack to the taker: the victim's counts fall and its STARVED flag is cleared, the taker's counts
rise, the FETCH serves the taker's line, and an OFFERED FETCH that would not be offerable for it is withdrawn from its
station (R103, R104). That a takeover always sets the clear-seen mark of a scan is the model's reading (log 14). -/
def Obligations.AReservationDigsFromTheTop : Prop :=
  (∀ (r : LineRef) (tag : Nat) (p : Pack) (s t : State) (made : List Task), Table.rising s.packs →
    Table.get s.packs tag = some p → s.tasks.length + (packsAbove s tag).length < 48 → t = reserve r tag p s →
    made = t.tasks.drop s.tasks.length →
    t.tasks = s.tasks ++ made ∧
      made.map (fun u => { u with number := 0 }) =
        (packsAbove s tag).keys.reverse.map
            (fun n => (⟨0, .shift tag, n, .opened, none, none, none, none, none⟩ : Task)) ++
          [⟨0, .fetch r, tag, .opened, none, none, none, none, none⟩] ∧
      (∀ front u back, made = front ++ u :: back →
        1 ≤ u.number ∧ u.number ≤ 48 ∧ u.number ∉ (s.tasks ++ front).map Task.number ∧
          ∀ n, 1 ≤ n → n < u.number → n ∈ (s.tasks ++ front).map Task.number) ∧
      (∀ u ∈ made, ∃ q, Table.get t.packs u.subject = some q ∧ q.task = some u.number) ∧
      (∃ n, Table.get t.packs tag = some { p with state := .reserved, reservation := some r, task := n }) ∧
      (∀ e ∈ packsAbove s tag, ∃ n, Table.get t.packs e.1 = some { e.2 with state := .moving, task := n }) ∧
      (∀ n, n ≠ tag → n ∉ (packsAbove s tag).keys → Table.get t.packs n = Table.get s.packs n) ∧
      t =
        { s with
          packs := t.packs
          tasks := t.tasks
          orders :=
            Table.update s.orders r.handle fun o =>
              { o with
                lines := changeNth o.lines r.line fun l => { l with allocated := l.allocated + 1 }
                committed := o.committed + p.mass } }) ∧
  ∀ (r victim : LineRef) (tag : Nat) (p : Pack) (s t : State), p.reservation = some victim →
    t = takeOver r tag p s →
    (t.packs = Table.update s.packs tag fun q => { q with reservation := some r }) ∧
      (t.orders =
        Table.update
          (Table.update s.orders victim.handle fun o =>
            { o with
              lines :=
                changeNth o.lines victim.line fun l => { l with allocated := l.allocated - 1, starved := false }
              committed := o.committed - p.mass })
          r.handle fun o =>
            { o with
              lines := changeNth o.lines r.line fun l => { l with allocated := l.allocated + 1 }
              committed := o.committed + p.mass }) ∧
      t.engine = (if s.engine.state = .idle then s.engine else { s.engine with clearSeen := true }) ∧
      t.holds .reservationTaken = true ∧
      ∀ f, s.tasks.find? (fun u => decide (u.subject = tag) && u.isFetch) = some f →
        ((f.state ≠ .offered ∨ gatesOpen s r tag = true) →
          (t.tasks = s.tasks.map fun u => if u.number = f.number then { u with kind := .fetch r } else u) ∧
            t.stations = s.stations) ∧
        (f.state = .offered → gatesOpen s r tag = false →
          (t.tasks =
            s.tasks.map fun u =>
              if u.number = f.number then
                { u with
                  kind := .fetch r
                  state := .opened
                  station := none
                  suggested := none
                  deadline := none
                  alarm := none
                  lapsed := f.lapsed }
              else u) ∧
            t.stations =
              match f.station with
              | none => s.stations
              | some n => changeNth s.stations n fun st => { st with state := .idle, notice := true })

/-! ## Family 5, stations -/

/-- GO_ON_SHIFT makes an OFF_SHIFT station IDLE; a lift capacity out of range is refused with BAD_FIELD, a CLOSED yard
with MODE, and a station on shift with WRONG_STATE. GO_OFF_SHIFT takes a station off shift and returns a task it has
not lifted to OPEN; POLL_TASK clears the notice and nothing else, and gives the station's state, the notice and the
held task with its subject, timers and served order (R127, R194); REPORT_POSITION sets the last bay in every station
state (R125, R126, R134). The task a station holds is the live task that names it (R119). That seconds left are
rounded up is the model's choice (log 3). -/
def Obligations.StationsComeGoPollAndReport : Prop :=
  ∀ (n : Nat) (st : Station) (s : State) (held : Option Task), 1 ≤ n → n ≤ 8 → s.stations[n - 1]? = some st →
    held = s.tasks.find? (fun t => decide (t.station = some n)) →
    (∀ capacity, atBlock (.goOnShift n capacity) s → 500 ≤ capacity → capacity ≤ 6000 → s.mode ≠ .closed →
      st.state = .offShift →
      exec (.goOnShift n capacity) s =
        okWith (.goOnShift n capacity) []
          { s with
            stations :=
              s.stations.modify (n - 1) fun u => { u with state := .idle, capacity := some capacity, lapses := 0 } }) ∧
    (∀ capacity, atBlock (.goOnShift n capacity) s → 500 ≤ capacity → capacity ≤ 6000 → s.mode = .closed →
      exec (.goOnShift n capacity) s = refusedWith (.goOnShift n capacity) .mode s) ∧
    (∀ capacity, atBlock (.goOnShift n capacity) s → (capacity < 500 ∨ 6000 < capacity) →
      exec (.goOnShift n capacity) s = refusedWith (.goOnShift n capacity) .badField s) ∧
    (∀ capacity, atBlock (.goOnShift n capacity) s → 500 ≤ capacity → capacity ≤ 6000 → s.mode ≠ .closed →
      st.state ≠ .offShift →
      exec (.goOnShift n capacity) s = refusedWith (.goOnShift n capacity) .wrongState s) ∧
    (atBlock (.goOffShift n) s → held = none →
      exec (.goOffShift n) s =
        okWith (.goOffShift n) []
          { s with stations := s.stations.modify (n - 1) fun u => { u with state := .offShift, capacity := none } }) ∧
    (∀ t, atBlock (.goOffShift n) s → held = some t → t.state ≠ .lifted →
      exec (.goOffShift n) s =
        okWith (.goOffShift n) []
          { s with
            tasks :=
              s.tasks.map fun u =>
                if u.number = t.number then
                  { u with
                    state := .opened
                    station := none
                    suggested := none
                    deadline := none
                    alarm := none
                    lapsed := t.lapsed }
                else u
            stations := s.stations.modify (n - 1) fun u => { u with state := .offShift, capacity := none } }) ∧
    (∀ t, atBlock (.goOffShift n) s → held = some t → t.state = .lifted →
      exec (.goOffShift n) s = refusedWith (.goOffShift n) .wrongState s) ∧
    (∀ reply, atBlock (.pollTask n) s →
      ((held = none ∧
          reply = [bitsByte [st.notice], byte (stationStateNumber st.state)] ++ List.replicate 19 0#8) ∨
        ∃ t p handle point, held = some t ∧ Table.get s.packs t.subject = some p ∧
          ((∃ r o, t.kind = .fetch r ∧ handle = some r.handle ∧ Table.get s.orders r.handle = some o ∧
              point = o.point) ∨
            (t.isFetch = false ∧ handle = none ∧ point = none)) ∧
          reply =
            [bitsByte
                [st.notice, true, p.location.isSome, t.suggested.isSome, t.deadline.isSome, t.alarm.isSome,
                  handle.isSome, point.isSome],
              byte (stationStateNumber st.state), byte t.number, byte (taskKindNumber t.kind),
              byte (taskStateNumber t.state)] ++ be3 t.subject ++ be2 p.mass ++
              (match p.location with
                | none => [0#8, 0#8, 0#8]
                | some l => [byte l.bay, byte l.stack, byte l.tier]) ++
              (match t.suggested with
                | none => [0#8, 0#8]
                | some place => [byte place.1, byte place.2]) ++
              be2 ((t.deadline.getD 0 + 99) / 100) ++ be2 ((t.alarm.getD 0 + 99) / 100) ++
              [byte (handle.getD 0), byte (point.getD 0)]) →
      reply.length = 21 ∧
        exec (.pollTask n) s =
          okWith (.pollTask n) reply
            { s with stations := s.stations.modify (n - 1) fun u => { u with notice := false } }) ∧
    (∀ bay, atBlock (.reportPosition n bay) s → bay ≤ 63 →
      exec (.reportPosition n bay) s =
        okWith (.reportPosition n bay) []
          { s with stations := s.stations.modify (n - 1) fun u => { u with lastBay := some bay } }) ∧
    (∀ bay, atBlock (.reportPosition n bay) s → 63 < bay →
      exec (.reportPosition n bay) s = refusedWith (.reportPosition n bay) .badField s)

/-- ACCEPT of an OFFERED task sets the lift timer and the station BUSY, and repeated changes nothing; DECLINE returns
the task to OPEN with this station as its lapsed station; a task the station does not hold is answered TASK_WITHDRAWN,
one it holds LIFTED WRONG_STATE, and a task number out of range BAD_FIELD (R128, R129). -/
def Obligations.OffersAreAcceptedAndDeclined : Prop :=
  ∀ (n task : Nat) (s : State) (held : Option Task), 1 ≤ n → n ≤ 8 →
    held = s.tasks.find? (fun t => decide (t.station = some n)) →
    (∀ c, (c = .accept n task ∨ c = .decline n task) → atBlock c s →
      ((task = 0 ∨ 48 < task) → exec c s = refusedWith c .badField s) ∧
      ∀ t, 1 ≤ task → task ≤ 48 → held = some t → t.number = task → t.state = .lifted →
        exec c s = refusedWith c .wrongState s) ∧
    (1 ≤ task → task ≤ 48 →
      (∀ t, atBlock (.accept n task) s → held = some t → t.number = task → t.state = .offered →
        exec (.accept n task) s =
          okWith (.accept n task) []
            { s with
              tasks :=
                s.tasks.map fun u =>
                  if u.number = task then
                    { u with state := .accepted, deadline := some (s.settings.timers.lift * 100) }
                  else u
              stations := s.stations.modify (n - 1) fun st => { st with state := .busy, lapses := 0 } }) ∧
      (∀ t, atBlock (.accept n task) s → held = some t → t.number = task → t.state = .accepted →
        exec (.accept n task) s = okWith (.accept n task) [] s) ∧
      (atBlock (.accept n task) s → (∀ t, held = some t → t.number ≠ task) →
        exec (.accept n task) s = refusedWith (.accept n task) .taskWithdrawn s) ∧
      (∀ t, atBlock (.decline n task) s → held = some t → t.number = task → t.state ≠ .lifted →
        exec (.decline n task) s =
          okWith (.decline n task) []
            { s with
              tasks :=
                s.tasks.map fun u =>
                  if u.number = task then
                    { u with
                      state := .opened
                      station := none
                      suggested := none
                      deadline := none
                      alarm := none
                      lapsed := some n }
                  else u
              stations := s.stations.modify (n - 1) fun st => { st with state := .idle } }) ∧
      (atBlock (.decline n task) s → (∀ t, held = some t → t.number ≠ task) →
        exec (.decline n task) s = refusedWith (.decline n task) .taskWithdrawn s))

/-- LIFTED of the held task's subject makes the task LIFTED with its carry alarm, takes the pack off its stack, and
makes the station BUSY where the pack stood; repeated it changes nothing; a late lift takes up an OPEN task; an
unplanned lift creates a RETURN for the top pack, with the lowest free task number (R117, R130, R131). Refused are a
tag out of range with BAD_FIELD at any supply, a station OFF_SHIFT with WRONG_STATE, another pack than the held one
with WRONG_PACK, and, to a station that holds no task, a tag that is not live with NOT_FOUND, a pack under others with
NOT_ON_TOP, and a pack neither STORED nor the subject of an OPEN task with BUSY_PACK. That the lift of an offered task
without an ACCEPT keeps the lapse count is the model's reading (log 25, DEDUCED). -/
def Obligations.LiftsTakeThePackOffItsStack : Prop :=
  ∀ (n tag : Nat) (st : Station) (p : Pack) (s : State) (held : Option Task), 1 ≤ n → n ≤ 8 →
    atBlock (.lifted n tag) s → s.stations[n - 1]? = some st →
    held = s.tasks.find? (fun t => decide (t.station = some n)) →
    ((tag = 0 ∨ 16777215 < tag) → exec (.lifted n tag) s = refusedWith (.lifted n tag) .badField s) ∧
    (1 ≤ tag → tag ≤ 16777215 → s.supply = .sound → st.state = .offShift →
      exec (.lifted n tag) s = refusedWith (.lifted n tag) .wrongState s) ∧
    (1 ≤ tag → tag ≤ 16777215 → s.supply = .sound → st.state ≠ .offShift → held = none →
      Table.get s.packs tag = none → exec (.lifted n tag) s = refusedWith (.lifted n tag) .notFound s) ∧
    (1 ≤ tag → tag ≤ 16777215 → s.supply = .sound → st.state ≠ .offShift → Table.get s.packs tag = some p →
      (held = none → (∀ u ∈ s.tasks, u.subject ≠ tag) → p.state = .stored → dig s tag ≠ 0 →
        exec (.lifted n tag) s = refusedWith (.lifted n tag) .notOnTop s) ∧
      (held = none → (∀ u ∈ s.tasks, u.subject = tag → u.state ≠ .opened) → p.state ≠ .stored →
        exec (.lifted n tag) s = refusedWith (.lifted n tag) .busyPack s) ∧
      (∀ t l, held = some t → t.subject = tag → t.state ≠ .lifted → p.location = some l →
        exec (.lifted n tag) s =
          okWith (.lifted n tag) []
            (observe (some tag) s.packs
              { removeFromStack tag s with
                packs :=
                  Table.update (removeFromStack tag s).packs tag fun q =>
                    { q with state := .lifted, task := some t.number }
                tasks :=
                  s.tasks.map fun u =>
                    if u.number = t.number then
                      { u with
                        state := .lifted
                        station := some n
                        suggested := t.suggested
                        lapsed := none
                        deadline := none
                        alarm := some (s.settings.timers.carry * 100) }
                    else u
                stations :=
                  s.stations.modify (n - 1) fun v => { v with state := .busy, lastBay := some l.bay } })) ∧
      (∀ t, held = some t → t.subject = tag → t.state = .lifted →
        exec (.lifted n tag) s = okWith (.lifted n tag) [] s) ∧
      (∀ t, held = some t → t.subject ≠ tag →
        exec (.lifted n tag) s = refusedWith (.lifted n tag) .wrongPack s) ∧
      (∀ t l, held = none →
        s.tasks.find? (fun u => decide (u.subject = tag ∧ u.state = .opened)) = some t →
        (t.isFetch = false ∨ movingAbove s tag = false) → p.location = some l →
        exec (.lifted n tag) s =
          okWith (.lifted n tag) []
            (observe (some tag) s.packs
              { removeFromStack tag s with
                packs :=
                  Table.update (removeFromStack tag s).packs tag fun q =>
                    { q with state := .lifted, task := some t.number }
                tasks :=
                  s.tasks.map fun u =>
                    if u.number = t.number then
                      { u with
                        state := .lifted
                        station := some n
                        suggested := suggestFor s t
                        lapsed := none
                        deadline := none
                        alarm := some (s.settings.timers.carry * 100) }
                    else u
                stations :=
                  s.stations.modify (n - 1) fun v =>
                    { v with state := .busy, lastBay := some l.bay, lapses := 0 } })) ∧
      (∀ t, held = none →
        s.tasks.find? (fun u => decide (u.subject = tag ∧ u.state = .opened)) = some t → t.isFetch = true →
        movingAbove s tag = true →
        exec (.lifted n tag) s = refusedWith (.lifted n tag) .notOnTop s) ∧
      (∀ l k, held = none → (∀ u ∈ s.tasks, u.subject ≠ tag) → p.state = .stored → p.location = some l →
        dig s tag = 0 → s.tasks.length < 48 → 1 ≤ k → k ≤ 48 → k ∉ s.tasks.map Task.number →
        (∀ m, 1 ≤ m → m < k → m ∈ s.tasks.map Task.number) →
        exec (.lifted n tag) s =
          okWith (.lifted n tag) []
            (observe (some tag) s.packs
              { removeFromStack tag s with
                packs :=
                  Table.update (removeFromStack tag s).packs tag fun q =>
                    { q with state := .lifted, task := some k }
                tasks :=
                  s.tasks ++
                    [{ number := k
                       kind := .giveBack
                       subject := tag
                       state := .lifted
                       station := some n
                       suggested := suggest s l.bay (some l)
                       lapsed := none
                       deadline := none
                       alarm := some (s.settings.timers.carry * 100) }]
                stations :=
                  s.stations.modify (n - 1) fun v =>
                    { v with state := .busy, lastBay := some l.bay, lapses := 0 } })) ∧
      (held = none → (∀ u ∈ s.tasks, u.subject ≠ tag) → p.state = .stored → dig s tag = 0 →
        48 ≤ s.tasks.length →
        exec (.lifted n tag) s = refusedWith (.lifted n tag) .tableFull (post .tableFull s)))

/-- DROPPED to a stack that is not there is refused with BAD_FIELD at any supply, and by a station that holds no
LIFTED task with WRONG_STATE. DROPPED of a FETCH to the truck makes the pack LOADED, raises the loaded count and
retires the task; a SHIFT or RETURN put down on a stack becomes STORED and its task retires; a FETCH set back becomes
RESERVED again and its task OPEN, and where rain falls on it its reservation is released as a wetting releases one; a
put-down that R6 does not take is refused, a disabled bay with MODE; a SHIFT or RETURN for the truck is refused, and
so is a FETCH whose truck is not there. The order becomes COMPLETE with its last pack (R6, R69, R132, R154). -/
def Obligations.DropsEndTheCarry : Prop :=
  (∀ (n : Nat) (dest : Destination) (s : State), 1 ≤ n → n ≤ 8 → atBlock (.dropped n dest) s →
    (∀ bay stack, dest = .stack bay stack → (63 < bay ∨ (s.bay bay).stackCount ≤ stack) →
      exec (.dropped n dest) s = refusedWith (.dropped n dest) .badField s) ∧
    ((∀ bay stack, dest = .stack bay stack → bay ≤ 63 ∧ stack < (s.bay bay).stackCount) → s.supply = .sound →
      (∀ u ∈ s.tasks, u.station = some n → u.state ≠ .lifted) →
      exec (.dropped n dest) s = refusedWith (.dropped n dest) .wrongState s)) ∧
  ∀ (n : Nat) (t : Task) (p : Pack) (s : State), 1 ≤ n → n ≤ 8 → s.supply = .sound →
    s.tasks.find? (fun u => decide (u.station = some n)) = some t → t.state = .lifted →
    Table.get s.packs t.subject = some p →
    (∀ r o point, atBlock (.dropped n .truck) s → t.kind = .fetch r → Table.get s.orders r.handle = some o →
      o.point = some point → lineActive s (point + 2) = true →
      exec (.dropped n .truck) s =
        okWith (.dropped n .truck) []
          (endClaim (some t.subject) s.packs
            (clearStarved
              { loadLine r s with
                packs :=
                  Table.update (removeFromStack t.subject s).packs t.subject fun q =>
                    { q with state := .loaded, task := none }
                tasks := s.tasks.filter fun u => decide (u.number ≠ t.number)
                stations := s.stations.modify (n - 1) fun st => { st with state := .idle } }))) ∧
    (∀ bay stack status, atBlock (.dropped n (.stack bay stack)) s → putDownRefused s bay stack .mode status →
      exec (.dropped n (.stack bay stack)) s = refusedWith (.dropped n (.stack bay stack)) status s) ∧
    (∀ r o, atBlock (.dropped n .truck) s → t.kind = .fetch r → Table.get s.orders r.handle = some o →
      (∀ point, o.point = some point → lineActive s (point + 2) = false) →
      exec (.dropped n .truck) s = refusedWith (.dropped n .truck) .noTruck s) ∧
    (atBlock (.dropped n .truck) s → t.isFetch = false →
      exec (.dropped n .truck) s = refusedWith (.dropped n .truck) .badField s) ∧
    (∀ bay stack, atBlock (.dropped n (.stack bay stack)) s → t.isFetch = false → putDownTaken s bay stack →
      exec (.dropped n (.stack bay stack)) s =
        okWith (.dropped n (.stack bay stack)) []
          (endClaim (some t.subject) s.packs
            (clearStarved
              { putDown bay stack t.subject
                  (fun q => { q with state := .stored, reservation := none, task := none, hold := none }) s with
                tasks := s.tasks.filter fun u => decide (u.number ≠ t.number)
                stations :=
                  s.stations.modify (n - 1) fun st => { st with state := .idle, lastBay := some bay } }))) ∧
    (∀ r bay stack, atBlock (.dropped n (.stack bay stack)) s → t.kind = .fetch r → putDownTaken s bay stack →
      exec (.dropped n (.stack bay stack)) s =
        okWith (.dropped n (.stack bay stack)) []
          (endClaim (some t.subject) s.packs
            (judgeRained bay t.subject
              { putDown bay stack t.subject (fun q => { q with state := .reserved }) s with
                tasks :=
                  s.tasks.map fun u =>
                    if u.number = t.number then
                      { u with
                        state := .opened
                        station := none
                        suggested := none
                        deadline := none
                        alarm := none
                        lapsed := some n }
                    else u
                stations :=
                  s.stations.modify (n - 1) fun st => { st with state := .idle, lastBay := some bay } }))) ∧
    (∀ (bay tag : Nat) (u : State) (q : Pack) (r : LineRef), Table.get u.packs tag = some q →
      q.state = .reserved → q.reservation = some r →
      (u.raining = true → (u.bay bay).covered = false → wettingReleases u tag r →
        judgeRained bay tag u = releaseAtRest tag Pack.toStored u) ∧
      ((u.raining = false ∨ (u.bay bay).covered = true ∨ ¬ wettingReleases u tag r) →
        judgeRained bay tag u = u)) ∧
    ∀ (r : LineRef) (o u : Order), Table.get s.orders r.handle = some o →
      u = { o with lines := changeNth o.lines r.line fun l => { l with loaded := l.loaded + 1 } } →
      ((∀ l ∈ u.lines, l.loaded = l.item.quantity) →
        loadLine r s =
          post .orderComplete
            { s with
              orders :=
                Table.update s.orders r.handle fun v =>
                  { v with
                    lines := changeNth v.lines r.line fun l => { l with loaded := l.loaded + 1 }
                    state :=
                      if (changeNth v.lines r.line fun l => { l with loaded := l.loaded + 1 }).all
                          (fun l => decide (l.loaded = l.item.quantity)) = true then .complete
                      else v.state } } ∧
          Table.get (loadLine r s).orders r.handle = some { u with state := .complete }) ∧
      ((∃ l ∈ u.lines, l.loaded ≠ l.item.quantity) →
        (∃ orders, loadLine r s = { s with orders := orders }) ∧
          Table.get (loadLine r s).orders r.handle = some u) ∧
      ∀ h, h ≠ r.handle → Table.get (loadLine r s).orders h = Table.get s.orders h

/-- REPORT_MISSING makes the subject HELD MISSING off its stack, retires the task, posts PACK_MISSING and frees the
station; for a FETCH the reservation is released with its counts and its SHIFT tasks; for a task already LIFTED, and
from a station that holds none, it is refused with WRONG_STATE (R133). What the release of the SHIFT tasks does is
stated in CancelAndDepartEndTheOrder. -/
def Obligations.AMissingReportReleasesTheReservation : Prop :=
  (∀ (n : Nat) (s : State), 1 ≤ n → n ≤ 8 → atBlock (.reportMissing n) s → s.supply = .sound →
    (∀ u ∈ s.tasks, u.station ≠ some n) →
    exec (.reportMissing n) s = refusedWith (.reportMissing n) .wrongState s) ∧
  ∀ (n : Nat) (t : Task) (p : Pack) (s : State), 1 ≤ n → n ≤ 8 →
    atBlock (.reportMissing n) s → s.supply = .sound →
    s.tasks.find? (fun u => decide (u.station = some n)) = some t → Table.get s.packs t.subject = some p →
    (∀ l u lower, p.location = some l → t.state ≠ .lifted →
      ((t.isFetch = false ∧ u = s ∧ lower = s.orders) ∨
        ∃ r, t.isFetch = true ∧ p.reservation = some r ∧ u = releaseShifts t.subject s ∧
          lower =
            Table.update u.orders r.handle fun o =>
              { o with
                lines := changeNth o.lines r.line fun m => { m with allocated := m.allocated - 1 }
                committed := o.committed - p.mass }) →
      exec (.reportMissing n) s =
        okWith (.reportMissing n) []
          (endClaim (some t.subject) s.packs
            (post .packMissing
              (clearStarved
                { removeFromStack t.subject u with
                  packs :=
                    Table.update (removeFromStack t.subject u).packs t.subject fun q =>
                      { q with state := .held, reservation := none, task := none, hold := some .missing }
                  orders := lower
                  tasks := u.tasks.filter fun v => decide (v.number ≠ t.number)
                  stations :=
                    u.stations.modify (n - 1) fun st => { st with state := .idle, lastBay := some l.bay } })))) ∧
    (t.state = .lifted → exec (.reportMissing n) s = refusedWith (.reportMissing n) .wrongState s)

/-! ## Family 6, watches -/

/-- SET_WATCH arms an entry with no hit, READ_WATCH changes nothing, CLEAR_WATCH returns the entry to its reset values;
an entry outside 1 to 4, or a value or mask above 255, is refused with BAD_FIELD (R159, R163). -/
def Obligations.WatchesAreSetReadAndCleared : Prop :=
  ∀ (n value mask : Nat) (f : WatchField) (o : Bool) (s : State),
    (∀ c, (c = .setWatch n f value mask o ∨ c = .readWatch (some n) ∨ c = .clearWatch n) → atBlock c s →
      (n = 0 ∨ 4 < n) → exec c s = refusedWith c .badField s) ∧
    (atBlock (.setWatch n f value mask o) s → (255 < value ∨ 255 < mask) →
      exec (.setWatch n f value mask o) s = refusedWith (.setWatch n f value mask o) .badField s) ∧
    (s.watches.length = 4 → 1 ≤ n → n ≤ 4 →
      (atBlock (.setWatch n f value mask o) s → value ≤ 255 → mask ≤ 255 →
        exec (.setWatch n f value mask o) s =
          okWith (.setWatch n f value mask o)
            ([0#8, byte n, 1#8, byte (watchFieldNumber f), byte value, byte mask, markByte o, 0#8] ++ [0#8, 0#8, 0#8])
            { s with watches := s.watches.set (n - 1) ⟨true, f, byte value, byte mask, o, 0, none⟩ }) ∧
      (atBlock (.readWatch (some n)) s →
        exec (.readWatch (some n)) s = okWith (.readWatch (some n)) (watchReply s n) s) ∧
      (∀ w, s.watches[n - 1]? = some w →
        watchReply s n =
          [bitsByte [w.lastTag.isSome], byte n, markByte w.armed, byte (watchFieldNumber w.field), w.value, w.mask,
              markByte w.oneShot, byte w.hits] ++ be3 (w.lastTag.getD 0)) ∧
      [WatchField.product, .state, .bay, .holdReason].map watchFieldNumber = [0, 1, 2, 3] ∧
      (atBlock (.readWatch none) s →
        exec (.readWatch none) s = okWith (.readWatch none) ([1, 2, 3, 4].flatMap (watchReply s)) s) ∧
      (atBlock (.clearWatch n) s →
        exec (.clearWatch n) s =
          okWith (.clearWatch n) []
            { s with watches := s.watches.set (n - 1) ⟨false, .product, 0#8, 0#8, false, 0, none⟩ }))

/-- The hit of a watch entry at one change of one record (R161): the value after matches in the bits the mask selects
and the value before did not; the count rises to 255 at most, the last tag is the record's, a one-shot entry disarms,
and WATCH_HIT is posted; a change that hits no entry changes nothing. The watch values of each field, a record not yet
born having none and a retired one 7 in STATE alone (R160, R161). A claim is compared record by record: every record
it altered, once, against the table as it stood before the claim, first the one the claim names and then the others in
order of tag (R38, R162); that a record altered in several steps of a claim is one change is the model's choice (log
13). -/
def Obligations.AWatchHitsWhenTheValueComesToMatch : Prop :=
  (∀ (tag i : Nat) (before after : Option Pack) (w : Watch) (s : State), s.watches[i]? = some w →
    ((w.armed = true ∧ (∃ v, valueAfter w.field after = some v ∧ v &&& w.mask = w.value &&& w.mask) ∧
        ∀ v, valueBefore w.field before = some v → v &&& w.mask ≠ w.value &&& w.mask) →
      (observeChange tag before after s).watches[i]? =
          some { w with hits := min 255 (w.hits + 1), lastTag := some tag, armed := !w.oneShot } ∧
        (observeChange tag before after s).holds .watchHit = true) ∧
    ((w.armed = false ∨ (∀ v, valueAfter w.field after = some v → v &&& w.mask ≠ w.value &&& w.mask) ∨
        ∃ v, valueBefore w.field before = some v ∧ v &&& w.mask = w.value &&& w.mask) →
      (observeChange tag before after s).watches[i]? = some w)) ∧
  (∀ (tag : Nat) (before after : Option Pack) (s : State), ∃ watches : List Watch,
    watches.length = s.watches.length ∧
      ((watches = s.watches ∧ observeChange tag before after s = s) ∨
        observeChange tag before after s = post .watchHit { s with watches := watches }) ∧
      ((∀ w ∈ s.watches,
          w.armed = false ∨ (∀ v, valueAfter w.field after = some v → v &&& w.mask ≠ w.value &&& w.mask) ∨
            ∃ v, valueBefore w.field before = some v ∧ v &&& w.mask = w.value &&& w.mask) →
        observeChange tag before after s = s)) ∧
  (∀ (f : WatchField) (p : Pack),
    valueBefore f none = none ∧ valueAfter f none = (if f = .state then some 7#8 else none) ∧
      valueAfter f (some p) = valueBefore f (some p) ∧
      valueBefore .product (some p) = some (BitVec.ofNat 8 p.product) ∧
      valueBefore .state (some p) =
        some
          (match p.state with
          | .stored => 1#8
          | .reserved => 2#8
          | .moving => 3#8
          | .lifted => 4#8
          | .loaded => 5#8
          | .held => 6#8) ∧
      valueBefore .bay (some p) = p.location.map (fun l => BitVec.ofNat 8 l.bay) ∧
      valueBefore .holdReason (some p) =
        p.hold.map fun h =>
          match h with
          | .damaged => 1#8
          | .missing => 2#8
          | .lostInTransit => 3#8
          | .loadedUnconfirmed => 4#8) ∧
  ∀ (named : Option Nat) (before : Table Pack) (s : State), ∃ first rest : List Nat,
    observe named before s =
        (first ++ rest).foldl (fun u t => observeChange t (Table.get before t) (Table.get s.packs t) u) s ∧
      (∀ t, t ∈ first ++ rest ↔ Table.get before t ≠ Table.get s.packs t) ∧
      rest.Pairwise (· < ·) ∧ (∀ t ∈ first, named = some t ∧ t ∉ rest) ∧ first.length ≤ 1 ∧
      ∀ t, named = some t → t ∉ rest

/-! ## Resets and the supply -/

/-- POWER_ON, RESET_PIN and the check byte of a restart response begin a reset: the retained tables stand, every
volatile record takes its reset value, the port is STARTING, and the summary is empty with the pin released; while the
supply is off the RESET pin begins none. PART_STOP empties the summary and releases the pin, and keeps what an
abandoned start-up check had written (R183, R184, R185). The model's own: the orders of rows a board would not give
(log 24), the raises owed and the progress of a check (log 7), the battery and damage operands (log 6), the supply
operand (log 10). -/
def Obligations.AResetKeepsTheRetainedTables : Prop :=
  (∀ (cause : ResetCause) (supply : SupplyStatus) (s : State),
    startReset cause supply s =
      { s with
        owedRaises := s.owedRaises + if cause = .powerOn then 0 else 1
        orders := []
        queue := []
        engine := ⟨.idle, none, none, none, false, 0⟩
        tasks := []
        stations := List.replicate 8 ⟨.offShift, none, none, 0, false⟩
        lines := List.replicate 7 ⟨false, none⟩
        raining := false
        sweep := none
        sweepPending := false
        mode := .closed
        watches := List.replicate 4 ⟨false, .product, 0, 0, false, 0, none⟩
        summary := 0
        enables := BitVec.allOnes 19
        attn := false
        port := .starting
        lastStatus := none
        overrunNoted := false
        clearing := false
        cause := cause
        failedTables := 0
        supply := supply
        dipNoted := false }) ∧
  (∀ (held : Bool) (supply : SupplyStatus) (s : State),
    exec (.powerOn held supply) s =
        .next
          (startReset .powerOn supply
            { s with supplyOff := false, badTables := if held then s.badTables else 0x3F#6 }) ∧
      (s.supplyOff = false →
        exec (.resetPin supply) s = .next (startReset .resetPin supply { s with resetHeld := false })) ∧
      (s.supplyOff = true → exec (.resetPin supply) s = .next { s with resetHeld := false })) ∧
  (∀ (cause : StopCause) (progress : CheckProgress) (damaged : BitVec 6) (s kept : State),
    kept = (if s.stopped = false ∧ s.port = .starting then checkSteps progress damaged s else s) →
    exec (.partStop cause progress damaged) s =
      .next
        { kept with
          supplyOff := if cause = .supplyLost then true else kept.supplyOff
          resetHeld := if cause = .resetLow then true else kept.resetHeld
          summary := 0
          attn := false }) ∧
  ∀ (tables damaged reached f : BitVec 6) (s : State),
    reached = (if tables = 0#6 then 0#6 else tables ||| 0x20#6) → f = (s.badTables ||| damaged) &&& reached →
    checkSteps (.checking tables) damaged s =
        { s with
          yardMap := if f.getLsbD 0 then YardMap.default else s.yardMap
          products := if f.getLsbD 1 then List.replicate 256 Product.default else s.products
          packs := if f.getLsbD 2 then [] else s.packs
          settings := if f.getLsbD 3 then YardSettings.default else s.settings
          lineSettings := if f.getLsbD 4 then List.replicate 7 ⟨false, true, 0, 100⟩ else s.lineSettings
          restartRecord :=
            if f.getLsbD 5 then ⟨0, f⟩ else ⟨s.restartRecord.count, s.restartRecord.carried ||| f⟩
          owedRaises := if f.getLsbD 5 then (if s.cause = .powerOn then 0 else 1) else s.owedRaises
          badTables := (s.badTables ||| damaged) &&& ~~~reached } ∧
      ∀ u v : State,
        u = checkSteps (.checking 0x3F#6) damaged s →
        v =
          { u with
            packs :=
              if u.restartRecord.carried.getLsbD 0 = true ∨ u.restartRecord.carried.getLsbD 1 = true then []
              else u.packs } →
        checkSteps .emptied damaged s = v ∧
          checkSteps .raised damaged s =
            { v with
              restartRecord :=
                { v.restartRecord with count := v.restartRecord.count + BitVec.ofNat 16 v.owedRaises }
              owedRaises := 0 } ∧
          checkSteps .reconciled damaged s =
            { checkSteps .raised damaged s with packs := v.packs.map fun e => (e.1, e.2.reconciled) }

/-- The start-up check sets each failed table to its defaults, empties the Pack Table for a failed yard map or Product
Table, reconciles the packs, raises the restart count, a failed restart record counting from 0, names the failed
tables, posts RESTARTED, and with it STORE_LOST, PORT_OVERRUN and SUPPLY_DIP each exactly where its cause is there,
leaves the port IDLE, and has the seven lines judged; nothing else changes (R57, R147, R184, R185). The raises owed by
resets that interrupted a check are the model's own (log 7), the damage as an operand too (log 6), and so is that the
lines are judged at once, in order of number (log 22). -/
def Obligations.TheStartUpCheckRestoresTheStore : Prop :=
  (∀ (damaged f : BitVec 6) (s u : State) (kinds : List EventKind), s.stopped = false → s.port = .starting →
    f = s.badTables ||| damaged →
    u =
      { s with
        yardMap := if f.getLsbD 0 then YardMap.default else s.yardMap
        products := if f.getLsbD 1 then List.replicate 256 Product.default else s.products
        packs :=
          if f.getLsbD 0 = true ∨ f.getLsbD 1 = true ∨ f.getLsbD 2 = true ∨
              (f.getLsbD 5 = false ∧
                (s.restartRecord.carried.getLsbD 0 = true ∨ s.restartRecord.carried.getLsbD 1 = true)) then []
          else s.packs.map fun e => (e.1, e.2.reconciled)
        settings := if f.getLsbD 3 then YardSettings.default else s.settings
        lineSettings := if f.getLsbD 4 then List.replicate 7 ⟨false, true, 0, 100⟩ else s.lineSettings
        restartRecord :=
          { count :=
              if f.getLsbD 5 then (if s.cause = .powerOn then 0#16 else 1#16)
              else s.restartRecord.count + BitVec.ofNat 16 s.owedRaises
            carried := 0#6 }
        owedRaises := 0
        badTables := 0#6
        failedTables := if f.getLsbD 5 then f else s.restartRecord.carried ||| f
        port := .idle
        overrunNoted := false
        dipNoted := false } →
    kinds =
      [.restarted] ++ (if u.failedTables ≠ 0#6 then [.storeLost] else []) ++
        (if s.overrunNoted = true then [.portOverrun] else []) ++
        (if s.supply = .low ∨ s.dipNoted = true then [.supplyDip] else []) →
    exec (.startupCheckEnd damaged) s =
        .next ((List.range 7).foldl judgeLine (kinds.foldl (fun v k => post k v) u)) ∧
      (s.summary = 0#19 → ∀ k, (kinds.foldl (fun v k => post k v) u).holds k = decide (k ∈ kinds))) ∧
  ∀ p : Pack,
    p.reconciled.reservation = none ∧ p.reconciled.task = none ∧ p.reconciled.wetted = p.wetted ∧
      ((p.state = .stored ∨ p.state = .reserved ∨ p.state = .moving) →
        p.reconciled.state = .stored ∧ p.reconciled.location = p.location) ∧
      (p.state = .lifted →
        p.reconciled.state = .held ∧ p.reconciled.location = none ∧ p.reconciled.hold = some .lostInTransit) ∧
      (p.state = .loaded →
        p.reconciled.state = .held ∧ p.reconciled.location = none ∧
          p.reconciled.hold = some .loadedUnconfirmed) ∧
      (p.state = .held →
        p.reconciled.state = .held ∧ p.reconciled.location = p.location ∧ p.reconciled.hold = p.hold)

/-- A dip makes the supply low and posts SUPPLY_DIP, noted instead during a start-up check; a recovery makes it sound
and validates a scan held in WAITING (R113, R186). -/
def Obligations.TheSupplyDipsAndRecovers : Prop :=
  ∀ s : State, s.stopped = false →
    (s.supply = .sound → s.port ≠ .starting →
      exec .supplyDip s = .next (post .supplyDip { s with supply := .low })) ∧
    (s.supply = .sound → s.port = .starting →
      exec .supplyDip s = .next { s with supply := .low, dipNoted := true }) ∧
    (s.supply = .low → s.engine.state ≠ .waiting → exec .supplyRecovery s = .next { s with supply := .sound }) ∧
    (∀ c, s.supply = .low → s.engine.state = .waiting → s.engine.lead = some c →
      exec .supplyRecovery s = .next (finishScan c { s with supply := .sound }))

/-! ## Yard lines -/

/-- PIN_CHANGE gives the pin its level and has the lines judged; a debounce period that has run out is the line's
edge, which sets its live state and has the effects of its line; and the sweep wets one stack at a time, the first at
or after its position in order of bay and stack whose bay is not covered, and ends past the last (R145, R148, R149,
R151, R152). A wetting marks every pack of the stack, and releases the
reservation of its RESERVED pack where the line's product needs kiln and the FETCH is OPEN or OFFERED (R152, R154).
The order of judging (log 22), the sweep's end as a step of its own and the reading of covered at each stack (log 17),
and that to the watches a wetting names no record (log 13), are the model's choice. -/
def Obligations.LinesTakeTheirEdges : Prop :=
  ∀ (s : State), s.running = true →
    (∀ pin high, pin < 16 →
      ∃ pins : BitVec 16,
        (∀ n, n < 16 → pins.getLsbD n = if n = pin then high else s.pins.getLsbD n) ∧
          exec (.pinChange pin high) s = .next ((List.range 7).foldl judgeLine { s with pins := pins })) ∧
    (∀ k a, s.lines[k]? = some ⟨a, some 0⟩ →
      exec (.debounceExpiry k) s =
        .next (edgeEffect k (!a) { s with lines := s.lines.set k ⟨!a, none⟩ })) ∧
    (s.mode = .closed → s.settings.autoOpen = true →
      edgeEffect 0 true s = post .gateArrival { s with mode := .opened }) ∧
    ((s.mode ≠ .closed ∨ s.settings.autoOpen = false) → edgeEffect 0 true s = post .gateArrival s) ∧
    (edgeEffect 0 false s = s) ∧
    (s.sweep = none →
      edgeEffect 1 true s = { post .rainChange { s with raining := true } with sweep := some (0, 0) }) ∧
    (s.sweep ≠ none →
      edgeEffect 1 true s = { post .rainChange { s with raining := true } with sweepPending := true }) ∧
    (edgeEffect 1 false s = post .rainChange { s with raining := false }) ∧
    (∀ rising, edgeEffect 2 rising s = s) ∧
    (∀ p, 1 ≤ p → edgeEffect (p + 2) true s = s) ∧
    (∀ p h o, 1 ≤ p → s.orders.find? (fun e => decide (e.2.point = some p)) = some (h, o) →
      edgeEffect (p + 2) false s = if orderHasLifted s h then post .pointVacated s else s) ∧
    (∀ p, 1 ≤ p → (∀ e ∈ s.orders, e.2.point ≠ some p) → edgeEffect (p + 2) false s = s) ∧
    (∀ (bay stack : Nat) (left : Nat → Nat → Prop), s.sweep = some (bay, stack) →
      (∀ b k, left b k ↔
        b ≤ 63 ∧ k < (s.bay b).stackCount ∧ (s.bay b).covered = false ∧ (bay < b ∨ (bay = b ∧ stack ≤ k))) →
      (∀ b k, left b k → (∀ c m, left c m → b < c ∨ (b = c ∧ k ≤ m)) →
        exec .wettingSweepStack s = .next { wetStack s b k with sweep := some (b, k + 1) }) ∧
      ((∀ b k, ¬ left b k) → s.sweepPending = true →
        exec .wettingSweepStack s = .next { s with sweep := some (0, 0), sweepPending := false }) ∧
      ((∀ b k, ¬ left b k) → s.sweepPending = false →
        exec .wettingSweepStack s = .next { s with sweep := none })) ∧
    ∀ (b k : Nat) (u : State), Table.rising s.packs →
      u =
        { s with
          packs := s.packs.map fun e => (e.1, if e.2.inStack b k then { e.2 with wetted := true } else e.2) } →
      ((∀ e ∈ s.packs, e.2.inStack b k = true → e.2.state ≠ .reserved) →
        wetStack s b k = endClaim none s.packs u) ∧
      ∀ tag p r, Table.get s.packs tag = some p → p.inStack b k = true → p.state = .reserved →
        p.reservation = some r →
        (∀ e ∈ s.packs, e.2.inStack b k = true → e.2.state = .reserved → e.1 = tag) →
        (wettingReleases s tag r →
          wetStack s b k = endClaim none s.packs (releaseAtRest tag Pack.toStored u)) ∧
        (¬ wettingReleases s tag r → wetStack s b k = endClaim none s.packs u)

/-- A line's wanted state that differs from its live state begins a debounce period, which is dropped when it returns;
a pending period runs on; with debounce 0 the edge is taken at once (R145). The wanted state is active when the line
is enabled and its pin stands at the line's active level, the pin being the one its source choice names (R144). That a
period that has run out, its DEBOUNCE_EXPIRY not yet taken, is dropped too is the model's choice (log 4). -/
def Obligations.DebounceHoldsEdgesBack : Prop :=
  ∀ (k pin : Nat) (a wanted : Bool) (period : Option Nat) (w : LineSetting) (s : State),
    s.lines[k]? = some ⟨a, period⟩ → s.lineSettings[k]? = some w →
    ((w.source = 0 ∧ pin = k) ∨ (w.source = 1 ∧ pin = k + 7) ∨ (w.source = 2 ∧ pin = 14) ∨
      (w.source = 3 ∧ pin = 15)) →
    (wanted = true ↔ w.enabled = true ∧ s.pins.getLsbD pin = w.activeHigh) →
    (lineActive s k = a ∧ lineSetting s k = w ∧ linePin k w.source = pin) ∧
    (wanted = a → judgeLine s k = { s with lines := s.lines.set k ⟨a, none⟩ }) ∧
    (wanted ≠ a → period ≠ none → judgeLine s k = s) ∧
    (wanted ≠ a → period = none → w.debounce ≠ 0 →
      judgeLine s k = { s with lines := s.lines.set k ⟨a, some (w.debounce / 10)⟩ }) ∧
    (wanted ≠ a → period = none → w.debounce = 0 →
      judgeLine s k = edgeEffect k (!a) { s with lines := s.lines.set k ⟨!a, none⟩ })

/-! ## The scan engine -/

/-- The cost of a pack for a line: the base, the dig, the distance to the order's loading point or the default one,
and the place in the substitute list, each by its weight, less the age up to 255 days by its weight; it lies from 271
to 6466 (R11, R21, R93). -/
def Obligations.CostsStayInTheirRange : Prop :=
  (∀ (s : State) (o : Order) (item : LineItem) (tag n : Nat) (p : Pack) (l : Location) (point : Point),
    p.location = some l → point = s.pointAt (o.point.getD s.yardMap.defaultPoint) →
    ((p.product = item.product ∧ n = 0) ∨
      (p.product ≠ item.product ∧ item.substitution = true ∧ 1 ≤ n ∧
        (s.product item.product).substitutes[n - 1]? = some p.product ∧
        ∀ m, m < n - 1 → (s.product item.product).substitutes[m]? ≠ some p.product)) →
    packCost s o item tag p =
      4096 + 16 * s.settings.weights.dig * dig s tag +
          s.settings.weights.distance *
            ((((s.bay l.bay).row - point.row) + (point.row - (s.bay l.bay).row)) +
              (((s.bay l.bay).col - point.col) + (point.col - (s.bay l.bay).col))) +
          16 * s.settings.weights.substitution * n -
        s.settings.weights.age * min 255 (s.settings.yardDay - p.received)) ∧
  ∀ (s : State) (o : Order) (item : LineItem) (tag : Nat) (p : Pack),
    s.settings.weights.dig ≤ 15 → s.settings.weights.distance ≤ 15 → s.settings.weights.age ≤ 15 →
    s.settings.weights.substitution ≤ 15 → dig s tag ≤ 5 → packDistance s o p ≤ 30 →
    (∀ n, servingPosition s item p.product = some n → n ≤ 3) →
    271 ≤ packCost s o item tag p ∧ packCost s o item tag p ≤ 6466

/-- An IDLE engine begins a scan of the first line that wants a pack, in queue order and line number order, with
everything of the scan set afresh; it begins none in a CLOSED yard, with a low supply, or with no line that wants a
pack, and a SCAN_START with a scan under way changes nothing (log 2). Each visit of a pass judges one pack, STORED in
the first pass and RESERVED in the second, by the tests of R92 or R97 with R21 and R22, moves the walk to it, and
keeps the better candidate by cost, received day and tag (R84, R92, R95, R97). Which pack comes next (R34, R89, R91):
the first of the series of chains at the walk's beginning, then the first of the chain after the walk position, and
past its end the first of the chains at the positions after it. One such pack to a visit, and that a visited chain is
left at the next visit, are the model's choice (log 12). -/
def Obligations.TheEngineChoosesAndVisits : Prop :=
  (∀ s : State, s.running = true →
    (∀ front h back o lines l more,
      s.engine.state = .idle → s.supply = .sound → s.mode ≠ .closed →
      s.queue = front ++ h :: back → Table.get s.orders h = some o → o.lines = lines ++ l :: more →
      (∀ x ∈ front, ∀ u, Table.get s.orders x = some u → ∀ m ∈ u.lines,
        ¬ (m.allocated < m.item.quantity ∧ m.starved = false ∧ u.proposal = none ∧ u.committed < u.payload)) →
      (∀ m ∈ lines,
        ¬ (m.allocated < m.item.quantity ∧ m.starved = false ∧ o.proposal = none ∧ o.committed < o.payload)) →
      l.allocated < l.item.quantity → l.starved = false → o.proposal = none → o.committed < o.payload →
      exec .scanStart s =
        .next
          { s with engine := ⟨.firstPass, some ⟨h, lines.length + 1⟩, none, none, false, s.engine.restarts⟩ }) ∧
    ((s.engine.state ≠ .idle ∨ s.mode = .closed ∨ s.supply = .low ∨
        ∀ h ∈ s.queue, ∀ o, Table.get s.orders h = some o → ∀ m ∈ o.lines,
          ¬ (m.allocated < m.item.quantity ∧ m.starved = false ∧ o.proposal = none ∧ o.committed < o.payload)) →
      exec .scanStart s = .next s) ∧
    (∀ r o l v, s.engine.line = some r → Table.get s.orders r.handle = some o → nth o.lines r.line = some l →
      Table.rising s.packs → sizeLaw s → visitsNext s l.item v →
      (s.engine.state = .firstPass →
        v.pack.state = .stored ∧ exec .firstPassVisit s =
          .next
            { s with
              engine :=
                { s.engine with
                  walk := some ⟨v.code, v.position, v.pack.received, v.tag⟩
                  lead :=
                    if firstPassOk s o l.item v.tag v.pack then
                      leadAfter s.engine.lead
                        ⟨v.tag, v.pack.received, packCost s o l.item v.tag v.pack, .first⟩
                    else s.engine.lead } }) ∧
      (s.engine.state = .secondPass →
        v.pack.state = .reserved ∧ exec .secondPassVisit s =
          .next
            { s with
              engine :=
                { s.engine with
                  walk := some ⟨v.code, v.position, v.pack.received, v.tag⟩
                  lead :=
                    if secondPassOk s o l.item v.tag v.pack then
                      leadAfter s.engine.lead
                        ⟨v.tag, v.pack.received, packCost s o l.item v.tag v.pack, .second⟩
                    else s.engine.lead } }))) ∧
  (∀ c d : Candidate,
    leadAfter none c = some c ∧
      leadAfter (some d) c =
        some
          (if c.cost < d.cost ∨ (c.cost = d.cost ∧ (c.day < d.day ∨ (c.day = d.day ∧ c.tag < d.tag))) then c
          else d)) ∧
  (∀ (s : State) (item : LineItem) (v : Visit), Table.rising s.packs → sizeLaw s →
    (nextVisit s item = some v ↔ visitsNext s item v)) ∧
  (∀ (s : State) (o : Order) (item : LineItem) (tag : Nat) (p : Pack),
    passOk .first s o item tag p = firstPassOk s o item tag p ∧
      passOk .second s o item tag p = secondPassOk s o item tag p ∧
      (p.location = none → firstPassOk s o item tag p = false ∧ secondPassOk s o item tag p = false)) ∧
  ∀ (s : State) (o : Order) (item : LineItem) (tag : Nat) (p : Pack) (l : Location) (fits : Bool),
    p.location = some l →
    (fits = true ↔
      (p.product = item.product ∨
          (item.substitution = true ∧ p.product ∈ (s.product item.product).substitutes)) ∧
        (if (s.product item.product).fields.needsKiln = true then p.drying = .kiln ∧ p.wetted = false
        else ∀ ready, p.drying = .air ready → ready ≤ s.settings.yardDay) ∧
        (∀ w, item.window = some w →
          w.rowMin ≤ (s.bay l.bay).row ∧ (s.bay l.bay).row ≤ w.rowMax ∧ w.colMin ≤ (s.bay l.bay).col ∧
            (s.bay l.bay).col ≤ w.colMax) ∧
        item.low ≤ p.length ∧ p.length ≤ item.high ∧ p.mass ≤ o.payload - o.committed ∧ tag ∉ o.rejected) →
    (firstPassOk s o item tag p = true ↔
      p.state = .stored ∧ fits = true ∧ (s.bay l.bay).enabled = true ∧ dig s tag ≤ item.digLimit ∧
        (∀ e ∈ packsAbove s tag, e.2.state = .stored) ∧ dig s tag < 48 - s.tasks.length) ∧
      (secondPassOk s o item tag p = true ↔
        p.state = .reserved ∧ fits = true ∧
          (∃ r holder, p.reservation = some r ∧ Table.get s.orders r.handle = some holder ∧
            holder.level < o.level) ∧
          ∃ f, s.tasks.find? (fun t => decide (t.subject = tag) && t.isFetch) = some f ∧
            (f.state = .opened ∨ f.state = .offered))

/-- At the end of a pass: a winner that passes validation is reserved, taken over, or, for a supervised order,
proposed; one that fails restarts the scan; a low supply makes the engine wait; and with no candidate the engine
enters the second pass, or leaves the line STARVED unless the clear-seen mark is set (R83, R86, R88, R96, R101 to
R107). Where the walk ends is the model's choice (log 12), and so is that a PASS_END with a visit left changes nothing
(log 2). A scan that waits is validated in the same way when the supply comes back (R113, R186). What a reservation
and a takeover write is stated in AReservationDigsFromTheTop. -/
def Obligations.APassEndsWithItsOutcome : Prop :=
  ∀ (r : LineRef) (o : Order) (l : OrderLine) (s u : State), s.running = true → s.engine.line = some r →
    Table.get s.orders r.handle = some o → nth o.lines r.line = some l → Table.rising s.packs → sizeLaw s →
    (u = { s with engine := ⟨.idle, none, none, none, false, s.engine.restarts⟩ }) →
    (∀ (c : Candidate) (out : Out), s.engine.lead = some c → s.supply = .sound →
      (((s.engine.state = .firstPass ∨ s.engine.state = .secondPass) ∧ (∀ v, ¬ visitsNext s l.item v) ∧
          out = exec .passEnd s) ∨
        (s.engine.state = .waiting ∧ out = exec .supplyRecovery { s with supply := .low })) →
      (∀ p, Table.get s.packs c.tag = some p → l.allocated < l.item.quantity → c.pass = .first →
        firstPassOk s o l.item c.tag p = true → o.supervised = false →
        out = .next { observe (some c.tag) s.packs (reserve r c.tag p s) with engine := u.engine }) ∧
      (∀ p, Table.get s.packs c.tag = some p → l.allocated < l.item.quantity → c.pass = .second →
        secondPassOk s o l.item c.tag p = true → o.supervised = false →
        out = .next { observe (some c.tag) s.packs (takeOver r c.tag p s) with engine := u.engine }) ∧
      (∀ p, Table.get s.packs c.tag = some p → l.allocated < l.item.quantity →
        passOk c.pass s o l.item c.tag p = true → o.supervised = true → o.proposal = none →
        out =
          .next
            (post .proposalReady
              { u with
                orders :=
                  Table.update s.orders r.handle fun v =>
                    { v with
                      proposal :=
                        some
                          ⟨r.line, c.tag, packCost s o l.item c.tag p, s.settings.timers.proposal * 100⟩ } })) ∧
      ((l.item.quantity ≤ l.allocated ∨ (o.supervised = true ∧ o.proposal ≠ none) ∨
          ∀ p, Table.get s.packs c.tag = some p → passOk c.pass s o l.item c.tag p = false) →
        out = .next { s with engine := ⟨.firstPass, some r, none, none, false, s.engine.restarts + 1#16⟩ })) ∧
    ((s.engine.state = .firstPass ∨ s.engine.state = .secondPass) → (∀ v, ¬ visitsNext s l.item v) →
      (∀ c, s.engine.lead = some c → s.supply = .low →
        exec .passEnd s = .next { s with engine := { s.engine with state := .waiting, walk := none } }) ∧
      (s.engine.lead = none → s.engine.state = .firstPass → 0 < o.level →
        exec .passEnd s =
          .next { s with engine := { s.engine with state := .secondPass, walk := none, lead := none } }) ∧
      (s.engine.lead = none → (s.engine.state = .secondPass ∨ o.level = 0) → s.engine.clearSeen = true →
        exec .passEnd s = .next u) ∧
      (s.engine.lead = none → (s.engine.state = .secondPass ∨ o.level = 0) → s.engine.clearSeen = false →
        exec .passEnd s =
          .next
            (post .lineStarved
              { u with
                orders :=
                  Table.update s.orders r.handle fun v =>
                    { v with lines := changeNth v.lines r.line fun m => { m with starved := true } } }))) ∧
    ((s.engine.state = .firstPass ∨ s.engine.state = .secondPass) → (∃ v, visitsNext s l.item v) →
      exec .passEnd s = .next s)

/-! ## Offers and timers -/

/-- TASK_OFFER offers the task of highest rank that has a qualifying station, the oldest of equals, to the nearest of
them, the lowest number of equals: the task becomes OFFERED with its deadline, and the station OFFERED. Beside it
stand the tests it makes: which tasks are offerable, which stations qualify, the rank, the distance, and the suggested
destination of a SHIFT, and of a pack on the forks from its station's last bay (R120 to R123). That a station without
a last bay gives such a pack none is the model's choice (log 20), and so is that TASK_OFFER with nothing to offer
changes nothing (log 2). -/
def Obligations.TheArbiterOffersTheHighestRank : Prop :=
  (∀ (t : Task) (n : Nat) (s : State), s.running = true → lineActive s 2 = false →
    chosenTask s = some t → chosenStation s t = some n →
    exec .taskOffer s =
        .next
          { s with
            tasks :=
              s.tasks.map fun u =>
                if u.number = t.number then
                  { t with
                    state := .offered
                    station := some n
                    suggested := suggestFor s t
                    deadline := some (s.settings.timers.offer * 100) }
                else u
            stations := changeNth s.stations n fun st => { st with state := .offered } } ∧
      (t ∈ s.tasks ∧ offerable s t = true ∧ 1 ≤ n ∧ n ≤ 8 ∧ qualifies s t n = true) ∧
      (∀ u ∈ s.tasks, offerable s u = true → (∃ m, 1 ≤ m ∧ m ≤ 8 ∧ qualifies s u m = true) →
        ranksBefore s u t = false) ∧
      (∀ front back, s.tasks = front ++ t :: back → t ∉ front →
        ∀ u ∈ front, offerable s u = true → (∃ m, 1 ≤ m ∧ m ≤ 8 ∧ qualifies s u m = true) →
          ranksBefore s t u = true) ∧
      (∀ m, 1 ≤ m → m ≤ 8 → qualifies s t m = true →
        stationDistance s t n < stationDistance s t m ∨
          (stationDistance s t n = stationDistance s t m ∧ n ≤ m))) ∧
  (∀ s : State, s.running = true →
    ((∃ u ∈ s.tasks, offerable s u = true ∧ ∃ m, 1 ≤ m ∧ m ≤ 8 ∧ qualifies s u m = true) →
      ∃ t n, chosenTask s = some t ∧ chosenStation s t = some n) ∧
    ((∀ u ∈ s.tasks, offerable s u = true → ∀ m, 1 ≤ m → m ≤ 8 → qualifies s u m = false) →
      exec .taskOffer s = .next s)) ∧
  (∀ (s : State) (t : Task),
    offerable s t = true ↔
      t.state = .opened ∧ lineActive s 2 = false ∧
        ((∃ tag, t.kind = .shift tag) ∨ ∃ r, t.kind = .fetch r ∧ gatesOpen s r t.subject = true)) ∧
  (∀ (s : State) (r : LineRef) (tag : Nat),
    gatesOpen s r tag = true ↔
      ∃ o point, Table.get s.orders r.handle = some o ∧ o.point = some point ∧ lineActive s (point + 2) = true ∧
        (∀ e ∈ packsAbove s tag, e.2.state ≠ .moving) ∧
        ∀ l ∈ o.lines.take (r.line - 1), l.loaded = l.item.quantity) ∧
  (∀ (s : State) (t : Task) (q : Pack) (able : Nat → Prop), Table.get s.packs t.subject = some q →
    (∀ n, able n ↔
      ∃ st, s.stations[n - 1]? = some st ∧ st.state = .idle ∧ q.mass ≤ st.capacity.getD 0) →
    ∀ n, 1 ≤ n → n ≤ 8 →
      (qualifies s t n = true ↔
        able n ∧ (t.lapsed ≠ some n ∨ ∀ m, 1 ≤ m → m ≤ 8 → m ≠ n → ¬ able m))) ∧
  (∀ (s : State) (t u : Task),
    ranksBefore s t u = true ↔
      taskPosition s t < taskPosition s u ∨
        (taskPosition s t = taskPosition s u ∧ t.isFetch = false ∧ u.isFetch = true)) ∧
  (∀ (s : State) (t : Task),
    (∀ r, t.kind = .fetch r → taskPosition s t = queuePosition s r.handle ∧ suggestFor s t = none) ∧
      ∀ tag p r, t.kind = .shift tag → Table.get s.packs tag = some p → p.reservation = some r →
        taskPosition s t = queuePosition s r.handle) ∧
  (∀ (s : State) (t : Task) (n : Nat) (st : Station) (q : Pack), 1 ≤ n → s.stations[n - 1]? = some st →
    Table.get s.packs t.subject = some q →
    (∀ b l, st.lastBay = some b → q.location = some l →
      stationDistance s t n =
        (((s.bay b).row - (s.bay l.bay).row) + ((s.bay l.bay).row - (s.bay b).row)) +
          (((s.bay b).col - (s.bay l.bay).col) + ((s.bay l.bay).col - (s.bay b).col))) ∧
      (st.lastBay = none → stationDistance s t n = 30)) ∧
  (∀ (s : State) (t : Task) (tag : Nat) (q : Pack) (l : Location), t.kind = .shift tag →
    Table.get s.packs t.subject = some q → q.location = some l → suggestFor s t = suggest s l.bay (some l)) ∧
  (∀ (s : State) (n : Nat) (st : Station), 1 ≤ n → s.stations[n - 1]? = some st →
    suggestFromStation s (some n) =
      match st.lastBay with
      | none => none
      | some b => suggest s b none) ∧
  ∀ (s : State) (near : Nat) (place : Option Location) (away : Nat → Nat) (room : Nat → Nat → Prop),
    (∀ b,
      away b =
        (((s.bay near).row - (s.bay b).row) + ((s.bay b).row - (s.bay near).row)) +
          (((s.bay near).col - (s.bay b).col) + ((s.bay b).col - (s.bay near).col))) →
    (∀ b k, room b k ↔
      b ≤ 63 ∧ k < (s.bay b).stackCount ∧ (s.bay b).enabled = true ∧ height s b k < (s.bay b).tierLimit ∧
        (∀ l, place = some l → ¬ (l.bay = b ∧ l.stack = k)) ∧ holdsReserved s b k = false) →
    (∀ b k, suggest s near place = some (b, k) ↔
      room b k ∧ ∀ c m, room c m → away b < away c ∨ (away b = away c ∧ (b < c ∨ (b = c ∧ k ≤ m)))) ∧
      (suggest s near place = none ↔ ∀ b k, ¬ room b k)

/-- OFFER_LAPSE returns the task to OPEN and costs the station a lapse, at the third of which it is lost; TASK_LAPSE
returns an ACCEPTED task to OPEN with notice WITHDRAWN and TASK_LAPSED; CARRY_OVERDUE posts its kind and stops the
alarm (R136, R137, R138). -/
def Obligations.TaskTimersLapse : Prop :=
  ∀ (k n : Nat) (t : Task) (st : Station) (s u : State), s.running = true → 1 ≤ n → n ≤ 8 →
    s.tasks.find? (fun v => decide (v.number = k)) = some t → t.station = some n →
    s.stations[n - 1]? = some st →
    u =
      { s with
        tasks :=
          s.tasks.map fun v =>
            if v.number = k then
              { v with
                state := .opened
                station := none
                suggested := none
                deadline := none
                alarm := none
                lapsed := some n }
            else v } →
    (t.state = .offered → t.deadline = some 0 → st.lapses < 2 →
      exec (.offerLapse k) s =
        .next { u with stations := s.stations.set (n - 1) { st with state := .idle, lapses := st.lapses + 1 } }) ∧
    (t.state = .offered → t.deadline = some 0 → 2 ≤ st.lapses →
      exec (.offerLapse k) s =
        .next
          (post .stationLost
            { u with
              stations :=
                s.stations.set (n - 1) { st with state := .offShift, capacity := none, lapses := 3 } })) ∧
    (t.state = .accepted → t.deadline = some 0 →
      exec (.taskLapse k) s =
        .next
          (post .taskLapsed
            { u with stations := s.stations.set (n - 1) { st with state := .idle, notice := true } })) ∧
    (t.state = .lifted → t.alarm = some 0 →
      exec (.carryOverdue k) s =
        .next
          (post .carryOverdue
            { s with tasks := s.tasks.map fun v => if v.number = k then { v with alarm := none } else v }))
end

