-- ==== Sys2Proof/Laws/State.lean ====
section
/-!
SUPPORT. What each leaf update of the state does to each field: one lemma for a field and an update, true by
computation, so that a proof never unfolds the record.
-/

namespace Sys2Proof.Machine

/-! ## driveAttn -/

@[simp] theorem pending_driveAttn (s : State) : (driveAttn s).pending = s.pending := rfl
@[simp] theorem yardMap_driveAttn (s : State) : (driveAttn s).yardMap = s.yardMap := rfl
@[simp] theorem products_driveAttn (s : State) : (driveAttn s).products = s.products := rfl
@[simp] theorem packs_driveAttn (s : State) : (driveAttn s).packs = s.packs := rfl
@[simp] theorem settings_driveAttn (s : State) : (driveAttn s).settings = s.settings := rfl
@[simp] theorem lineSettings_driveAttn (s : State) : (driveAttn s).lineSettings = s.lineSettings := rfl
@[simp] theorem restartRecord_driveAttn (s : State) : (driveAttn s).restartRecord = s.restartRecord := rfl
@[simp] theorem badTables_driveAttn (s : State) : (driveAttn s).badTables = s.badTables := rfl
@[simp] theorem owedRaises_driveAttn (s : State) : (driveAttn s).owedRaises = s.owedRaises := rfl
@[simp] theorem orders_driveAttn (s : State) : (driveAttn s).orders = s.orders := rfl
@[simp] theorem queue_driveAttn (s : State) : (driveAttn s).queue = s.queue := rfl
@[simp] theorem engine_driveAttn (s : State) : (driveAttn s).engine = s.engine := rfl
@[simp] theorem tasks_driveAttn (s : State) : (driveAttn s).tasks = s.tasks := rfl
@[simp] theorem stations_driveAttn (s : State) : (driveAttn s).stations = s.stations := rfl
@[simp] theorem lines_driveAttn (s : State) : (driveAttn s).lines = s.lines := rfl
@[simp] theorem raining_driveAttn (s : State) : (driveAttn s).raining = s.raining := rfl
@[simp] theorem sweep_driveAttn (s : State) : (driveAttn s).sweep = s.sweep := rfl
@[simp] theorem sweepPending_driveAttn (s : State) : (driveAttn s).sweepPending = s.sweepPending := rfl
@[simp] theorem mode_driveAttn (s : State) : (driveAttn s).mode = s.mode := rfl
@[simp] theorem watches_driveAttn (s : State) : (driveAttn s).watches = s.watches := rfl
@[simp] theorem summary_driveAttn (s : State) : (driveAttn s).summary = s.summary := rfl
@[simp] theorem enables_driveAttn (s : State) : (driveAttn s).enables = s.enables := rfl
@[simp] theorem attn_driveAttn (s : State) : (driveAttn s).attn = s.wantsAttention := rfl
@[simp] theorem port_driveAttn (s : State) : (driveAttn s).port = s.port := rfl
@[simp] theorem lastStatus_driveAttn (s : State) : (driveAttn s).lastStatus = s.lastStatus := rfl
@[simp] theorem overrunNoted_driveAttn (s : State) : (driveAttn s).overrunNoted = s.overrunNoted := rfl
@[simp] theorem clearing_driveAttn (s : State) : (driveAttn s).clearing = s.clearing := rfl
@[simp] theorem cause_driveAttn (s : State) : (driveAttn s).cause = s.cause := rfl
@[simp] theorem failedTables_driveAttn (s : State) : (driveAttn s).failedTables = s.failedTables := rfl
@[simp] theorem supply_driveAttn (s : State) : (driveAttn s).supply = s.supply := rfl
@[simp] theorem dipNoted_driveAttn (s : State) : (driveAttn s).dipNoted = s.dipNoted := rfl
@[simp] theorem supplyOff_driveAttn (s : State) : (driveAttn s).supplyOff = s.supplyOff := rfl
@[simp] theorem resetHeld_driveAttn (s : State) : (driveAttn s).resetHeld = s.resetHeld := rfl
@[simp] theorem pins_driveAttn (s : State) : (driveAttn s).pins = s.pins := rfl
@[simp] theorem miso_driveAttn (s : State) : (driveAttn s).miso = s.miso := rfl

/-! ## post -/

@[simp] theorem pending_post (k : EventKind) (s : State) : (post k s).pending = s.pending := rfl
@[simp] theorem yardMap_post (k : EventKind) (s : State) : (post k s).yardMap = s.yardMap := rfl
@[simp] theorem products_post (k : EventKind) (s : State) : (post k s).products = s.products := rfl
@[simp] theorem packs_post (k : EventKind) (s : State) : (post k s).packs = s.packs := rfl
@[simp] theorem settings_post (k : EventKind) (s : State) : (post k s).settings = s.settings := rfl
@[simp] theorem lineSettings_post (k : EventKind) (s : State) : (post k s).lineSettings = s.lineSettings := rfl
@[simp] theorem restartRecord_post (k : EventKind) (s : State) : (post k s).restartRecord = s.restartRecord := rfl
@[simp] theorem badTables_post (k : EventKind) (s : State) : (post k s).badTables = s.badTables := rfl
@[simp] theorem owedRaises_post (k : EventKind) (s : State) : (post k s).owedRaises = s.owedRaises := rfl
@[simp] theorem orders_post (k : EventKind) (s : State) : (post k s).orders = s.orders := rfl
@[simp] theorem queue_post (k : EventKind) (s : State) : (post k s).queue = s.queue := rfl
@[simp] theorem engine_post (k : EventKind) (s : State) : (post k s).engine = s.engine := rfl
@[simp] theorem tasks_post (k : EventKind) (s : State) : (post k s).tasks = s.tasks := rfl
@[simp] theorem stations_post (k : EventKind) (s : State) : (post k s).stations = s.stations := rfl
@[simp] theorem lines_post (k : EventKind) (s : State) : (post k s).lines = s.lines := rfl
@[simp] theorem raining_post (k : EventKind) (s : State) : (post k s).raining = s.raining := rfl
@[simp] theorem sweep_post (k : EventKind) (s : State) : (post k s).sweep = s.sweep := rfl
@[simp] theorem sweepPending_post (k : EventKind) (s : State) : (post k s).sweepPending = s.sweepPending := rfl
@[simp] theorem mode_post (k : EventKind) (s : State) : (post k s).mode = s.mode := rfl
@[simp] theorem watches_post (k : EventKind) (s : State) : (post k s).watches = s.watches := rfl
@[simp] theorem summary_post (k : EventKind) (s : State) : (post k s).summary = s.summary ||| k.bit := rfl
@[simp] theorem enables_post (k : EventKind) (s : State) : (post k s).enables = s.enables := rfl
@[simp] theorem attn_post (k : EventKind) (s : State) : (post k s).attn = decide ((s.summary ||| k.bit) &&& s.enables ≠ 0#19) := rfl
@[simp] theorem port_post (k : EventKind) (s : State) : (post k s).port = s.port := rfl
@[simp] theorem lastStatus_post (k : EventKind) (s : State) : (post k s).lastStatus = s.lastStatus := rfl
@[simp] theorem overrunNoted_post (k : EventKind) (s : State) : (post k s).overrunNoted = s.overrunNoted := rfl
@[simp] theorem clearing_post (k : EventKind) (s : State) : (post k s).clearing = s.clearing := rfl
@[simp] theorem cause_post (k : EventKind) (s : State) : (post k s).cause = s.cause := rfl
@[simp] theorem failedTables_post (k : EventKind) (s : State) : (post k s).failedTables = s.failedTables := rfl
@[simp] theorem supply_post (k : EventKind) (s : State) : (post k s).supply = s.supply := rfl
@[simp] theorem dipNoted_post (k : EventKind) (s : State) : (post k s).dipNoted = s.dipNoted := rfl
@[simp] theorem supplyOff_post (k : EventKind) (s : State) : (post k s).supplyOff = s.supplyOff := rfl
@[simp] theorem resetHeld_post (k : EventKind) (s : State) : (post k s).resetHeld = s.resetHeld := rfl
@[simp] theorem pins_post (k : EventKind) (s : State) : (post k s).pins = s.pins := rfl
@[simp] theorem miso_post (k : EventKind) (s : State) : (post k s).miso = s.miso := rfl

/-! ## emptySummary -/

@[simp] theorem pending_emptySummary (s : State) : (emptySummary s).pending = s.pending := rfl
@[simp] theorem yardMap_emptySummary (s : State) : (emptySummary s).yardMap = s.yardMap := rfl
@[simp] theorem products_emptySummary (s : State) : (emptySummary s).products = s.products := rfl
@[simp] theorem packs_emptySummary (s : State) : (emptySummary s).packs = s.packs := rfl
@[simp] theorem settings_emptySummary (s : State) : (emptySummary s).settings = s.settings := rfl
@[simp] theorem lineSettings_emptySummary (s : State) : (emptySummary s).lineSettings = s.lineSettings := rfl
@[simp] theorem restartRecord_emptySummary (s : State) : (emptySummary s).restartRecord = s.restartRecord := rfl
@[simp] theorem badTables_emptySummary (s : State) : (emptySummary s).badTables = s.badTables := rfl
@[simp] theorem owedRaises_emptySummary (s : State) : (emptySummary s).owedRaises = s.owedRaises := rfl
@[simp] theorem orders_emptySummary (s : State) : (emptySummary s).orders = s.orders := rfl
@[simp] theorem queue_emptySummary (s : State) : (emptySummary s).queue = s.queue := rfl
@[simp] theorem engine_emptySummary (s : State) : (emptySummary s).engine = s.engine := rfl
@[simp] theorem tasks_emptySummary (s : State) : (emptySummary s).tasks = s.tasks := rfl
@[simp] theorem stations_emptySummary (s : State) : (emptySummary s).stations = s.stations := rfl
@[simp] theorem lines_emptySummary (s : State) : (emptySummary s).lines = s.lines := rfl
@[simp] theorem raining_emptySummary (s : State) : (emptySummary s).raining = s.raining := rfl
@[simp] theorem sweep_emptySummary (s : State) : (emptySummary s).sweep = s.sweep := rfl
@[simp] theorem sweepPending_emptySummary (s : State) : (emptySummary s).sweepPending = s.sweepPending := rfl
@[simp] theorem mode_emptySummary (s : State) : (emptySummary s).mode = s.mode := rfl
@[simp] theorem watches_emptySummary (s : State) : (emptySummary s).watches = s.watches := rfl
@[simp] theorem summary_emptySummary (s : State) : (emptySummary s).summary = 0#19 := rfl
@[simp] theorem enables_emptySummary (s : State) : (emptySummary s).enables = s.enables := rfl
@[simp] theorem attn_emptySummary (s : State) : (emptySummary s).attn = decide (0#19 &&& s.enables ≠ 0#19) := rfl
@[simp] theorem port_emptySummary (s : State) : (emptySummary s).port = s.port := rfl
@[simp] theorem lastStatus_emptySummary (s : State) : (emptySummary s).lastStatus = s.lastStatus := rfl
@[simp] theorem overrunNoted_emptySummary (s : State) : (emptySummary s).overrunNoted = s.overrunNoted := rfl
@[simp] theorem clearing_emptySummary (s : State) : (emptySummary s).clearing = s.clearing := rfl
@[simp] theorem cause_emptySummary (s : State) : (emptySummary s).cause = s.cause := rfl
@[simp] theorem failedTables_emptySummary (s : State) : (emptySummary s).failedTables = s.failedTables := rfl
@[simp] theorem supply_emptySummary (s : State) : (emptySummary s).supply = s.supply := rfl
@[simp] theorem dipNoted_emptySummary (s : State) : (emptySummary s).dipNoted = s.dipNoted := rfl
@[simp] theorem supplyOff_emptySummary (s : State) : (emptySummary s).supplyOff = s.supplyOff := rfl
@[simp] theorem resetHeld_emptySummary (s : State) : (emptySummary s).resetHeld = s.resetHeld := rfl
@[simp] theorem pins_emptySummary (s : State) : (emptySummary s).pins = s.pins := rfl
@[simp] theorem miso_emptySummary (s : State) : (emptySummary s).miso = s.miso := rfl

/-! ## changePack -/

@[simp] theorem pending_changePack (tag : Nat) (f : Pack → Pack) (s : State) : (changePack tag f s).pending = s.pending := rfl
@[simp] theorem yardMap_changePack (tag : Nat) (f : Pack → Pack) (s : State) : (changePack tag f s).yardMap = s.yardMap := rfl
@[simp] theorem products_changePack (tag : Nat) (f : Pack → Pack) (s : State) : (changePack tag f s).products = s.products := rfl
@[simp] theorem packs_changePack (tag : Nat) (f : Pack → Pack) (s : State) : (changePack tag f s).packs = Table.update s.packs tag f := rfl
@[simp] theorem settings_changePack (tag : Nat) (f : Pack → Pack) (s : State) : (changePack tag f s).settings = s.settings := rfl
@[simp] theorem lineSettings_changePack (tag : Nat) (f : Pack → Pack) (s : State) : (changePack tag f s).lineSettings = s.lineSettings := rfl
@[simp] theorem restartRecord_changePack (tag : Nat) (f : Pack → Pack) (s : State) : (changePack tag f s).restartRecord = s.restartRecord := rfl
@[simp] theorem badTables_changePack (tag : Nat) (f : Pack → Pack) (s : State) : (changePack tag f s).badTables = s.badTables := rfl
@[simp] theorem owedRaises_changePack (tag : Nat) (f : Pack → Pack) (s : State) : (changePack tag f s).owedRaises = s.owedRaises := rfl
@[simp] theorem orders_changePack (tag : Nat) (f : Pack → Pack) (s : State) : (changePack tag f s).orders = s.orders := rfl
@[simp] theorem queue_changePack (tag : Nat) (f : Pack → Pack) (s : State) : (changePack tag f s).queue = s.queue := rfl
@[simp] theorem engine_changePack (tag : Nat) (f : Pack → Pack) (s : State) : (changePack tag f s).engine = s.engine := rfl
@[simp] theorem tasks_changePack (tag : Nat) (f : Pack → Pack) (s : State) : (changePack tag f s).tasks = s.tasks := rfl
@[simp] theorem stations_changePack (tag : Nat) (f : Pack → Pack) (s : State) : (changePack tag f s).stations = s.stations := rfl
@[simp] theorem lines_changePack (tag : Nat) (f : Pack → Pack) (s : State) : (changePack tag f s).lines = s.lines := rfl
@[simp] theorem raining_changePack (tag : Nat) (f : Pack → Pack) (s : State) : (changePack tag f s).raining = s.raining := rfl
@[simp] theorem sweep_changePack (tag : Nat) (f : Pack → Pack) (s : State) : (changePack tag f s).sweep = s.sweep := rfl
@[simp] theorem sweepPending_changePack (tag : Nat) (f : Pack → Pack) (s : State) : (changePack tag f s).sweepPending = s.sweepPending := rfl
@[simp] theorem mode_changePack (tag : Nat) (f : Pack → Pack) (s : State) : (changePack tag f s).mode = s.mode := rfl
@[simp] theorem watches_changePack (tag : Nat) (f : Pack → Pack) (s : State) : (changePack tag f s).watches = s.watches := rfl
@[simp] theorem summary_changePack (tag : Nat) (f : Pack → Pack) (s : State) : (changePack tag f s).summary = s.summary := rfl
@[simp] theorem enables_changePack (tag : Nat) (f : Pack → Pack) (s : State) : (changePack tag f s).enables = s.enables := rfl
@[simp] theorem attn_changePack (tag : Nat) (f : Pack → Pack) (s : State) : (changePack tag f s).attn = s.attn := rfl
@[simp] theorem port_changePack (tag : Nat) (f : Pack → Pack) (s : State) : (changePack tag f s).port = s.port := rfl
@[simp] theorem lastStatus_changePack (tag : Nat) (f : Pack → Pack) (s : State) : (changePack tag f s).lastStatus = s.lastStatus := rfl
@[simp] theorem overrunNoted_changePack (tag : Nat) (f : Pack → Pack) (s : State) : (changePack tag f s).overrunNoted = s.overrunNoted := rfl
@[simp] theorem clearing_changePack (tag : Nat) (f : Pack → Pack) (s : State) : (changePack tag f s).clearing = s.clearing := rfl
@[simp] theorem cause_changePack (tag : Nat) (f : Pack → Pack) (s : State) : (changePack tag f s).cause = s.cause := rfl
@[simp] theorem failedTables_changePack (tag : Nat) (f : Pack → Pack) (s : State) : (changePack tag f s).failedTables = s.failedTables := rfl
@[simp] theorem supply_changePack (tag : Nat) (f : Pack → Pack) (s : State) : (changePack tag f s).supply = s.supply := rfl
@[simp] theorem dipNoted_changePack (tag : Nat) (f : Pack → Pack) (s : State) : (changePack tag f s).dipNoted = s.dipNoted := rfl
@[simp] theorem supplyOff_changePack (tag : Nat) (f : Pack → Pack) (s : State) : (changePack tag f s).supplyOff = s.supplyOff := rfl
@[simp] theorem resetHeld_changePack (tag : Nat) (f : Pack → Pack) (s : State) : (changePack tag f s).resetHeld = s.resetHeld := rfl
@[simp] theorem pins_changePack (tag : Nat) (f : Pack → Pack) (s : State) : (changePack tag f s).pins = s.pins := rfl
@[simp] theorem miso_changePack (tag : Nat) (f : Pack → Pack) (s : State) : (changePack tag f s).miso = s.miso := rfl

/-! ## changeOrder -/

@[simp] theorem pending_changeOrder (h : Nat) (f : Order → Order) (s : State) : (changeOrder h f s).pending = s.pending := rfl
@[simp] theorem yardMap_changeOrder (h : Nat) (f : Order → Order) (s : State) : (changeOrder h f s).yardMap = s.yardMap := rfl
@[simp] theorem products_changeOrder (h : Nat) (f : Order → Order) (s : State) : (changeOrder h f s).products = s.products := rfl
@[simp] theorem packs_changeOrder (h : Nat) (f : Order → Order) (s : State) : (changeOrder h f s).packs = s.packs := rfl
@[simp] theorem settings_changeOrder (h : Nat) (f : Order → Order) (s : State) : (changeOrder h f s).settings = s.settings := rfl
@[simp] theorem lineSettings_changeOrder (h : Nat) (f : Order → Order) (s : State) : (changeOrder h f s).lineSettings = s.lineSettings := rfl
@[simp] theorem restartRecord_changeOrder (h : Nat) (f : Order → Order) (s : State) : (changeOrder h f s).restartRecord = s.restartRecord := rfl
@[simp] theorem badTables_changeOrder (h : Nat) (f : Order → Order) (s : State) : (changeOrder h f s).badTables = s.badTables := rfl
@[simp] theorem owedRaises_changeOrder (h : Nat) (f : Order → Order) (s : State) : (changeOrder h f s).owedRaises = s.owedRaises := rfl
@[simp] theorem orders_changeOrder (h : Nat) (f : Order → Order) (s : State) : (changeOrder h f s).orders = Table.update s.orders h f := rfl
@[simp] theorem queue_changeOrder (h : Nat) (f : Order → Order) (s : State) : (changeOrder h f s).queue = s.queue := rfl
@[simp] theorem engine_changeOrder (h : Nat) (f : Order → Order) (s : State) : (changeOrder h f s).engine = s.engine := rfl
@[simp] theorem tasks_changeOrder (h : Nat) (f : Order → Order) (s : State) : (changeOrder h f s).tasks = s.tasks := rfl
@[simp] theorem stations_changeOrder (h : Nat) (f : Order → Order) (s : State) : (changeOrder h f s).stations = s.stations := rfl
@[simp] theorem lines_changeOrder (h : Nat) (f : Order → Order) (s : State) : (changeOrder h f s).lines = s.lines := rfl
@[simp] theorem raining_changeOrder (h : Nat) (f : Order → Order) (s : State) : (changeOrder h f s).raining = s.raining := rfl
@[simp] theorem sweep_changeOrder (h : Nat) (f : Order → Order) (s : State) : (changeOrder h f s).sweep = s.sweep := rfl
@[simp] theorem sweepPending_changeOrder (h : Nat) (f : Order → Order) (s : State) : (changeOrder h f s).sweepPending = s.sweepPending := rfl
@[simp] theorem mode_changeOrder (h : Nat) (f : Order → Order) (s : State) : (changeOrder h f s).mode = s.mode := rfl
@[simp] theorem watches_changeOrder (h : Nat) (f : Order → Order) (s : State) : (changeOrder h f s).watches = s.watches := rfl
@[simp] theorem summary_changeOrder (h : Nat) (f : Order → Order) (s : State) : (changeOrder h f s).summary = s.summary := rfl
@[simp] theorem enables_changeOrder (h : Nat) (f : Order → Order) (s : State) : (changeOrder h f s).enables = s.enables := rfl
@[simp] theorem attn_changeOrder (h : Nat) (f : Order → Order) (s : State) : (changeOrder h f s).attn = s.attn := rfl
@[simp] theorem port_changeOrder (h : Nat) (f : Order → Order) (s : State) : (changeOrder h f s).port = s.port := rfl
@[simp] theorem lastStatus_changeOrder (h : Nat) (f : Order → Order) (s : State) : (changeOrder h f s).lastStatus = s.lastStatus := rfl
@[simp] theorem overrunNoted_changeOrder (h : Nat) (f : Order → Order) (s : State) : (changeOrder h f s).overrunNoted = s.overrunNoted := rfl
@[simp] theorem clearing_changeOrder (h : Nat) (f : Order → Order) (s : State) : (changeOrder h f s).clearing = s.clearing := rfl
@[simp] theorem cause_changeOrder (h : Nat) (f : Order → Order) (s : State) : (changeOrder h f s).cause = s.cause := rfl
@[simp] theorem failedTables_changeOrder (h : Nat) (f : Order → Order) (s : State) : (changeOrder h f s).failedTables = s.failedTables := rfl
@[simp] theorem supply_changeOrder (h : Nat) (f : Order → Order) (s : State) : (changeOrder h f s).supply = s.supply := rfl
@[simp] theorem dipNoted_changeOrder (h : Nat) (f : Order → Order) (s : State) : (changeOrder h f s).dipNoted = s.dipNoted := rfl
@[simp] theorem supplyOff_changeOrder (h : Nat) (f : Order → Order) (s : State) : (changeOrder h f s).supplyOff = s.supplyOff := rfl
@[simp] theorem resetHeld_changeOrder (h : Nat) (f : Order → Order) (s : State) : (changeOrder h f s).resetHeld = s.resetHeld := rfl
@[simp] theorem pins_changeOrder (h : Nat) (f : Order → Order) (s : State) : (changeOrder h f s).pins = s.pins := rfl
@[simp] theorem miso_changeOrder (h : Nat) (f : Order → Order) (s : State) : (changeOrder h f s).miso = s.miso := rfl

/-! ## changeTask -/

@[simp] theorem pending_changeTask (n : Nat) (f : Task → Task) (s : State) : (changeTask n f s).pending = s.pending := rfl
@[simp] theorem yardMap_changeTask (n : Nat) (f : Task → Task) (s : State) : (changeTask n f s).yardMap = s.yardMap := rfl
@[simp] theorem products_changeTask (n : Nat) (f : Task → Task) (s : State) : (changeTask n f s).products = s.products := rfl
@[simp] theorem packs_changeTask (n : Nat) (f : Task → Task) (s : State) : (changeTask n f s).packs = s.packs := rfl
@[simp] theorem settings_changeTask (n : Nat) (f : Task → Task) (s : State) : (changeTask n f s).settings = s.settings := rfl
@[simp] theorem lineSettings_changeTask (n : Nat) (f : Task → Task) (s : State) : (changeTask n f s).lineSettings = s.lineSettings := rfl
@[simp] theorem restartRecord_changeTask (n : Nat) (f : Task → Task) (s : State) : (changeTask n f s).restartRecord = s.restartRecord := rfl
@[simp] theorem badTables_changeTask (n : Nat) (f : Task → Task) (s : State) : (changeTask n f s).badTables = s.badTables := rfl
@[simp] theorem owedRaises_changeTask (n : Nat) (f : Task → Task) (s : State) : (changeTask n f s).owedRaises = s.owedRaises := rfl
@[simp] theorem orders_changeTask (n : Nat) (f : Task → Task) (s : State) : (changeTask n f s).orders = s.orders := rfl
@[simp] theorem queue_changeTask (n : Nat) (f : Task → Task) (s : State) : (changeTask n f s).queue = s.queue := rfl
@[simp] theorem engine_changeTask (n : Nat) (f : Task → Task) (s : State) : (changeTask n f s).engine = s.engine := rfl
@[simp] theorem tasks_changeTask (n : Nat) (f : Task → Task) (s : State) : (changeTask n f s).tasks = s.tasks.map fun t => if t.number = n then f t else t := rfl
@[simp] theorem stations_changeTask (n : Nat) (f : Task → Task) (s : State) : (changeTask n f s).stations = s.stations := rfl
@[simp] theorem lines_changeTask (n : Nat) (f : Task → Task) (s : State) : (changeTask n f s).lines = s.lines := rfl
@[simp] theorem raining_changeTask (n : Nat) (f : Task → Task) (s : State) : (changeTask n f s).raining = s.raining := rfl
@[simp] theorem sweep_changeTask (n : Nat) (f : Task → Task) (s : State) : (changeTask n f s).sweep = s.sweep := rfl
@[simp] theorem sweepPending_changeTask (n : Nat) (f : Task → Task) (s : State) : (changeTask n f s).sweepPending = s.sweepPending := rfl
@[simp] theorem mode_changeTask (n : Nat) (f : Task → Task) (s : State) : (changeTask n f s).mode = s.mode := rfl
@[simp] theorem watches_changeTask (n : Nat) (f : Task → Task) (s : State) : (changeTask n f s).watches = s.watches := rfl
@[simp] theorem summary_changeTask (n : Nat) (f : Task → Task) (s : State) : (changeTask n f s).summary = s.summary := rfl
@[simp] theorem enables_changeTask (n : Nat) (f : Task → Task) (s : State) : (changeTask n f s).enables = s.enables := rfl
@[simp] theorem attn_changeTask (n : Nat) (f : Task → Task) (s : State) : (changeTask n f s).attn = s.attn := rfl
@[simp] theorem port_changeTask (n : Nat) (f : Task → Task) (s : State) : (changeTask n f s).port = s.port := rfl
@[simp] theorem lastStatus_changeTask (n : Nat) (f : Task → Task) (s : State) : (changeTask n f s).lastStatus = s.lastStatus := rfl
@[simp] theorem overrunNoted_changeTask (n : Nat) (f : Task → Task) (s : State) : (changeTask n f s).overrunNoted = s.overrunNoted := rfl
@[simp] theorem clearing_changeTask (n : Nat) (f : Task → Task) (s : State) : (changeTask n f s).clearing = s.clearing := rfl
@[simp] theorem cause_changeTask (n : Nat) (f : Task → Task) (s : State) : (changeTask n f s).cause = s.cause := rfl
@[simp] theorem failedTables_changeTask (n : Nat) (f : Task → Task) (s : State) : (changeTask n f s).failedTables = s.failedTables := rfl
@[simp] theorem supply_changeTask (n : Nat) (f : Task → Task) (s : State) : (changeTask n f s).supply = s.supply := rfl
@[simp] theorem dipNoted_changeTask (n : Nat) (f : Task → Task) (s : State) : (changeTask n f s).dipNoted = s.dipNoted := rfl
@[simp] theorem supplyOff_changeTask (n : Nat) (f : Task → Task) (s : State) : (changeTask n f s).supplyOff = s.supplyOff := rfl
@[simp] theorem resetHeld_changeTask (n : Nat) (f : Task → Task) (s : State) : (changeTask n f s).resetHeld = s.resetHeld := rfl
@[simp] theorem pins_changeTask (n : Nat) (f : Task → Task) (s : State) : (changeTask n f s).pins = s.pins := rfl
@[simp] theorem miso_changeTask (n : Nat) (f : Task → Task) (s : State) : (changeTask n f s).miso = s.miso := rfl

/-! ## changeStation -/

@[simp] theorem pending_changeStation (n : Nat) (f : Station → Station) (s : State) :
    (changeStation n f s).pending = s.pending := rfl
@[simp] theorem yardMap_changeStation (n : Nat) (f : Station → Station) (s : State) :
    (changeStation n f s).yardMap = s.yardMap := rfl
@[simp] theorem products_changeStation (n : Nat) (f : Station → Station) (s : State) :
    (changeStation n f s).products = s.products := rfl
@[simp] theorem packs_changeStation (n : Nat) (f : Station → Station) (s : State) :
    (changeStation n f s).packs = s.packs := rfl
@[simp] theorem settings_changeStation (n : Nat) (f : Station → Station) (s : State) :
    (changeStation n f s).settings = s.settings := rfl
@[simp] theorem lineSettings_changeStation (n : Nat) (f : Station → Station) (s : State) :
    (changeStation n f s).lineSettings = s.lineSettings := rfl
@[simp] theorem restartRecord_changeStation (n : Nat) (f : Station → Station) (s : State) :
    (changeStation n f s).restartRecord = s.restartRecord := rfl
@[simp] theorem badTables_changeStation (n : Nat) (f : Station → Station) (s : State) :
    (changeStation n f s).badTables = s.badTables := rfl
@[simp] theorem owedRaises_changeStation (n : Nat) (f : Station → Station) (s : State) :
    (changeStation n f s).owedRaises = s.owedRaises := rfl
@[simp] theorem orders_changeStation (n : Nat) (f : Station → Station) (s : State) :
    (changeStation n f s).orders = s.orders := rfl
@[simp] theorem queue_changeStation (n : Nat) (f : Station → Station) (s : State) :
    (changeStation n f s).queue = s.queue := rfl
@[simp] theorem engine_changeStation (n : Nat) (f : Station → Station) (s : State) :
    (changeStation n f s).engine = s.engine := rfl
@[simp] theorem tasks_changeStation (n : Nat) (f : Station → Station) (s : State) :
    (changeStation n f s).tasks = s.tasks := rfl
@[simp] theorem stations_changeStation (n : Nat) (f : Station → Station) (s : State) :
    (changeStation n f s).stations = changeNth s.stations n f := rfl
@[simp] theorem lines_changeStation (n : Nat) (f : Station → Station) (s : State) :
    (changeStation n f s).lines = s.lines := rfl
@[simp] theorem raining_changeStation (n : Nat) (f : Station → Station) (s : State) :
    (changeStation n f s).raining = s.raining := rfl
@[simp] theorem sweep_changeStation (n : Nat) (f : Station → Station) (s : State) :
    (changeStation n f s).sweep = s.sweep := rfl
@[simp] theorem sweepPending_changeStation (n : Nat) (f : Station → Station) (s : State) :
    (changeStation n f s).sweepPending = s.sweepPending := rfl
@[simp] theorem mode_changeStation (n : Nat) (f : Station → Station) (s : State) :
    (changeStation n f s).mode = s.mode := rfl
@[simp] theorem watches_changeStation (n : Nat) (f : Station → Station) (s : State) :
    (changeStation n f s).watches = s.watches := rfl
@[simp] theorem summary_changeStation (n : Nat) (f : Station → Station) (s : State) :
    (changeStation n f s).summary = s.summary := rfl
@[simp] theorem enables_changeStation (n : Nat) (f : Station → Station) (s : State) :
    (changeStation n f s).enables = s.enables := rfl
@[simp] theorem attn_changeStation (n : Nat) (f : Station → Station) (s : State) :
    (changeStation n f s).attn = s.attn := rfl
@[simp] theorem port_changeStation (n : Nat) (f : Station → Station) (s : State) :
    (changeStation n f s).port = s.port := rfl
@[simp] theorem lastStatus_changeStation (n : Nat) (f : Station → Station) (s : State) :
    (changeStation n f s).lastStatus = s.lastStatus := rfl
@[simp] theorem overrunNoted_changeStation (n : Nat) (f : Station → Station) (s : State) :
    (changeStation n f s).overrunNoted = s.overrunNoted := rfl
@[simp] theorem clearing_changeStation (n : Nat) (f : Station → Station) (s : State) :
    (changeStation n f s).clearing = s.clearing := rfl
@[simp] theorem cause_changeStation (n : Nat) (f : Station → Station) (s : State) :
    (changeStation n f s).cause = s.cause := rfl
@[simp] theorem failedTables_changeStation (n : Nat) (f : Station → Station) (s : State) :
    (changeStation n f s).failedTables = s.failedTables := rfl
@[simp] theorem supply_changeStation (n : Nat) (f : Station → Station) (s : State) :
    (changeStation n f s).supply = s.supply := rfl
@[simp] theorem dipNoted_changeStation (n : Nat) (f : Station → Station) (s : State) :
    (changeStation n f s).dipNoted = s.dipNoted := rfl
@[simp] theorem supplyOff_changeStation (n : Nat) (f : Station → Station) (s : State) :
    (changeStation n f s).supplyOff = s.supplyOff := rfl
@[simp] theorem resetHeld_changeStation (n : Nat) (f : Station → Station) (s : State) :
    (changeStation n f s).resetHeld = s.resetHeld := rfl
@[simp] theorem pins_changeStation (n : Nat) (f : Station → Station) (s : State) :
    (changeStation n f s).pins = s.pins := rfl
@[simp] theorem miso_changeStation (n : Nat) (f : Station → Station) (s : State) :
    (changeStation n f s).miso = s.miso := rfl

/-! ## addTask -/

@[simp] theorem pending_addTask (t : Task) (s : State) : (addTask t s).pending = s.pending := rfl
@[simp] theorem yardMap_addTask (t : Task) (s : State) : (addTask t s).yardMap = s.yardMap := rfl
@[simp] theorem products_addTask (t : Task) (s : State) : (addTask t s).products = s.products := rfl
@[simp] theorem packs_addTask (t : Task) (s : State) : (addTask t s).packs = s.packs := rfl
@[simp] theorem settings_addTask (t : Task) (s : State) : (addTask t s).settings = s.settings := rfl
@[simp] theorem lineSettings_addTask (t : Task) (s : State) : (addTask t s).lineSettings = s.lineSettings := rfl
@[simp] theorem restartRecord_addTask (t : Task) (s : State) : (addTask t s).restartRecord = s.restartRecord := rfl
@[simp] theorem badTables_addTask (t : Task) (s : State) : (addTask t s).badTables = s.badTables := rfl
@[simp] theorem owedRaises_addTask (t : Task) (s : State) : (addTask t s).owedRaises = s.owedRaises := rfl
@[simp] theorem orders_addTask (t : Task) (s : State) : (addTask t s).orders = s.orders := rfl
@[simp] theorem queue_addTask (t : Task) (s : State) : (addTask t s).queue = s.queue := rfl
@[simp] theorem engine_addTask (t : Task) (s : State) : (addTask t s).engine = s.engine := rfl
@[simp] theorem tasks_addTask (t : Task) (s : State) : (addTask t s).tasks = s.tasks ++ [t] := rfl
@[simp] theorem stations_addTask (t : Task) (s : State) : (addTask t s).stations = s.stations := rfl
@[simp] theorem lines_addTask (t : Task) (s : State) : (addTask t s).lines = s.lines := rfl
@[simp] theorem raining_addTask (t : Task) (s : State) : (addTask t s).raining = s.raining := rfl
@[simp] theorem sweep_addTask (t : Task) (s : State) : (addTask t s).sweep = s.sweep := rfl
@[simp] theorem sweepPending_addTask (t : Task) (s : State) : (addTask t s).sweepPending = s.sweepPending := rfl
@[simp] theorem mode_addTask (t : Task) (s : State) : (addTask t s).mode = s.mode := rfl
@[simp] theorem watches_addTask (t : Task) (s : State) : (addTask t s).watches = s.watches := rfl
@[simp] theorem summary_addTask (t : Task) (s : State) : (addTask t s).summary = s.summary := rfl
@[simp] theorem enables_addTask (t : Task) (s : State) : (addTask t s).enables = s.enables := rfl
@[simp] theorem attn_addTask (t : Task) (s : State) : (addTask t s).attn = s.attn := rfl
@[simp] theorem port_addTask (t : Task) (s : State) : (addTask t s).port = s.port := rfl
@[simp] theorem lastStatus_addTask (t : Task) (s : State) : (addTask t s).lastStatus = s.lastStatus := rfl
@[simp] theorem overrunNoted_addTask (t : Task) (s : State) : (addTask t s).overrunNoted = s.overrunNoted := rfl
@[simp] theorem clearing_addTask (t : Task) (s : State) : (addTask t s).clearing = s.clearing := rfl
@[simp] theorem cause_addTask (t : Task) (s : State) : (addTask t s).cause = s.cause := rfl
@[simp] theorem failedTables_addTask (t : Task) (s : State) : (addTask t s).failedTables = s.failedTables := rfl
@[simp] theorem supply_addTask (t : Task) (s : State) : (addTask t s).supply = s.supply := rfl
@[simp] theorem dipNoted_addTask (t : Task) (s : State) : (addTask t s).dipNoted = s.dipNoted := rfl
@[simp] theorem supplyOff_addTask (t : Task) (s : State) : (addTask t s).supplyOff = s.supplyOff := rfl
@[simp] theorem resetHeld_addTask (t : Task) (s : State) : (addTask t s).resetHeld = s.resetHeld := rfl
@[simp] theorem pins_addTask (t : Task) (s : State) : (addTask t s).pins = s.pins := rfl
@[simp] theorem miso_addTask (t : Task) (s : State) : (addTask t s).miso = s.miso := rfl

/-! ## putDown -/

@[simp] theorem pending_putDown (b k tag : Nat) (f : Pack → Pack) (s : State) :
    (putDown b k tag f s).pending = s.pending := rfl
@[simp] theorem yardMap_putDown (b k tag : Nat) (f : Pack → Pack) (s : State) :
    (putDown b k tag f s).yardMap = s.yardMap := rfl
@[simp] theorem products_putDown (b k tag : Nat) (f : Pack → Pack) (s : State) :
    (putDown b k tag f s).products = s.products := rfl
@[simp] theorem packs_putDown (b k tag : Nat) (f : Pack → Pack) (s : State) :
    (putDown b k tag f s).packs = Table.update (removeFromStack tag s).packs tag fun p =>
      { f p with
        location := some ⟨b, k, height (removeFromStack tag s) b k⟩
        wetted := p.wetted || rainsOn s b } := rfl
@[simp] theorem settings_putDown (b k tag : Nat) (f : Pack → Pack) (s : State) :
    (putDown b k tag f s).settings = s.settings := rfl
@[simp] theorem lineSettings_putDown (b k tag : Nat) (f : Pack → Pack) (s : State) :
    (putDown b k tag f s).lineSettings = s.lineSettings := rfl
@[simp] theorem restartRecord_putDown (b k tag : Nat) (f : Pack → Pack) (s : State) :
    (putDown b k tag f s).restartRecord = s.restartRecord := rfl
@[simp] theorem badTables_putDown (b k tag : Nat) (f : Pack → Pack) (s : State) :
    (putDown b k tag f s).badTables = s.badTables := rfl
@[simp] theorem owedRaises_putDown (b k tag : Nat) (f : Pack → Pack) (s : State) :
    (putDown b k tag f s).owedRaises = s.owedRaises := rfl
@[simp] theorem orders_putDown (b k tag : Nat) (f : Pack → Pack) (s : State) :
    (putDown b k tag f s).orders = s.orders := rfl
@[simp] theorem queue_putDown (b k tag : Nat) (f : Pack → Pack) (s : State) :
    (putDown b k tag f s).queue = s.queue := rfl
@[simp] theorem engine_putDown (b k tag : Nat) (f : Pack → Pack) (s : State) :
    (putDown b k tag f s).engine = s.engine := rfl
@[simp] theorem tasks_putDown (b k tag : Nat) (f : Pack → Pack) (s : State) :
    (putDown b k tag f s).tasks = s.tasks := rfl
@[simp] theorem stations_putDown (b k tag : Nat) (f : Pack → Pack) (s : State) :
    (putDown b k tag f s).stations = s.stations := rfl
@[simp] theorem lines_putDown (b k tag : Nat) (f : Pack → Pack) (s : State) :
    (putDown b k tag f s).lines = s.lines := rfl
@[simp] theorem raining_putDown (b k tag : Nat) (f : Pack → Pack) (s : State) :
    (putDown b k tag f s).raining = s.raining := rfl
@[simp] theorem sweep_putDown (b k tag : Nat) (f : Pack → Pack) (s : State) :
    (putDown b k tag f s).sweep = s.sweep := rfl
@[simp] theorem sweepPending_putDown (b k tag : Nat) (f : Pack → Pack) (s : State) :
    (putDown b k tag f s).sweepPending = s.sweepPending := rfl
@[simp] theorem mode_putDown (b k tag : Nat) (f : Pack → Pack) (s : State) :
    (putDown b k tag f s).mode = s.mode := rfl
@[simp] theorem watches_putDown (b k tag : Nat) (f : Pack → Pack) (s : State) :
    (putDown b k tag f s).watches = s.watches := rfl
@[simp] theorem summary_putDown (b k tag : Nat) (f : Pack → Pack) (s : State) :
    (putDown b k tag f s).summary = s.summary := rfl
@[simp] theorem enables_putDown (b k tag : Nat) (f : Pack → Pack) (s : State) :
    (putDown b k tag f s).enables = s.enables := rfl
@[simp] theorem attn_putDown (b k tag : Nat) (f : Pack → Pack) (s : State) :
    (putDown b k tag f s).attn = s.attn := rfl
@[simp] theorem port_putDown (b k tag : Nat) (f : Pack → Pack) (s : State) :
    (putDown b k tag f s).port = s.port := rfl
@[simp] theorem lastStatus_putDown (b k tag : Nat) (f : Pack → Pack) (s : State) :
    (putDown b k tag f s).lastStatus = s.lastStatus := rfl
@[simp] theorem overrunNoted_putDown (b k tag : Nat) (f : Pack → Pack) (s : State) :
    (putDown b k tag f s).overrunNoted = s.overrunNoted := rfl
@[simp] theorem clearing_putDown (b k tag : Nat) (f : Pack → Pack) (s : State) :
    (putDown b k tag f s).clearing = s.clearing := rfl
@[simp] theorem cause_putDown (b k tag : Nat) (f : Pack → Pack) (s : State) :
    (putDown b k tag f s).cause = s.cause := rfl
@[simp] theorem failedTables_putDown (b k tag : Nat) (f : Pack → Pack) (s : State) :
    (putDown b k tag f s).failedTables = s.failedTables := rfl
@[simp] theorem supply_putDown (b k tag : Nat) (f : Pack → Pack) (s : State) :
    (putDown b k tag f s).supply = s.supply := rfl
@[simp] theorem dipNoted_putDown (b k tag : Nat) (f : Pack → Pack) (s : State) :
    (putDown b k tag f s).dipNoted = s.dipNoted := rfl
@[simp] theorem supplyOff_putDown (b k tag : Nat) (f : Pack → Pack) (s : State) :
    (putDown b k tag f s).supplyOff = s.supplyOff := rfl
@[simp] theorem resetHeld_putDown (b k tag : Nat) (f : Pack → Pack) (s : State) :
    (putDown b k tag f s).resetHeld = s.resetHeld := rfl
@[simp] theorem pins_putDown (b k tag : Nat) (f : Pack → Pack) (s : State) :
    (putDown b k tag f s).pins = s.pins := rfl
@[simp] theorem miso_putDown (b k tag : Nat) (f : Pack → Pack) (s : State) :
    (putDown b k tag f s).miso = s.miso := rfl

/-! ## setEngine -/

@[simp] theorem pending_setEngine (e : Engine) (s : State) : (setEngine e s).pending = s.pending := rfl
@[simp] theorem yardMap_setEngine (e : Engine) (s : State) : (setEngine e s).yardMap = s.yardMap := rfl
@[simp] theorem products_setEngine (e : Engine) (s : State) : (setEngine e s).products = s.products := rfl
@[simp] theorem packs_setEngine (e : Engine) (s : State) : (setEngine e s).packs = s.packs := rfl
@[simp] theorem settings_setEngine (e : Engine) (s : State) : (setEngine e s).settings = s.settings := rfl
@[simp] theorem lineSettings_setEngine (e : Engine) (s : State) : (setEngine e s).lineSettings = s.lineSettings := rfl
@[simp] theorem restartRecord_setEngine (e : Engine) (s : State) : (setEngine e s).restartRecord = s.restartRecord := rfl
@[simp] theorem badTables_setEngine (e : Engine) (s : State) : (setEngine e s).badTables = s.badTables := rfl
@[simp] theorem owedRaises_setEngine (e : Engine) (s : State) : (setEngine e s).owedRaises = s.owedRaises := rfl
@[simp] theorem orders_setEngine (e : Engine) (s : State) : (setEngine e s).orders = s.orders := rfl
@[simp] theorem queue_setEngine (e : Engine) (s : State) : (setEngine e s).queue = s.queue := rfl
@[simp] theorem engine_setEngine (e : Engine) (s : State) : (setEngine e s).engine = e := rfl
@[simp] theorem tasks_setEngine (e : Engine) (s : State) : (setEngine e s).tasks = s.tasks := rfl
@[simp] theorem stations_setEngine (e : Engine) (s : State) : (setEngine e s).stations = s.stations := rfl
@[simp] theorem lines_setEngine (e : Engine) (s : State) : (setEngine e s).lines = s.lines := rfl
@[simp] theorem raining_setEngine (e : Engine) (s : State) : (setEngine e s).raining = s.raining := rfl
@[simp] theorem sweep_setEngine (e : Engine) (s : State) : (setEngine e s).sweep = s.sweep := rfl
@[simp] theorem sweepPending_setEngine (e : Engine) (s : State) : (setEngine e s).sweepPending = s.sweepPending := rfl
@[simp] theorem mode_setEngine (e : Engine) (s : State) : (setEngine e s).mode = s.mode := rfl
@[simp] theorem watches_setEngine (e : Engine) (s : State) : (setEngine e s).watches = s.watches := rfl
@[simp] theorem summary_setEngine (e : Engine) (s : State) : (setEngine e s).summary = s.summary := rfl
@[simp] theorem enables_setEngine (e : Engine) (s : State) : (setEngine e s).enables = s.enables := rfl
@[simp] theorem attn_setEngine (e : Engine) (s : State) : (setEngine e s).attn = s.attn := rfl
@[simp] theorem port_setEngine (e : Engine) (s : State) : (setEngine e s).port = s.port := rfl
@[simp] theorem lastStatus_setEngine (e : Engine) (s : State) : (setEngine e s).lastStatus = s.lastStatus := rfl
@[simp] theorem overrunNoted_setEngine (e : Engine) (s : State) : (setEngine e s).overrunNoted = s.overrunNoted := rfl
@[simp] theorem clearing_setEngine (e : Engine) (s : State) : (setEngine e s).clearing = s.clearing := rfl
@[simp] theorem cause_setEngine (e : Engine) (s : State) : (setEngine e s).cause = s.cause := rfl
@[simp] theorem failedTables_setEngine (e : Engine) (s : State) : (setEngine e s).failedTables = s.failedTables := rfl
@[simp] theorem supply_setEngine (e : Engine) (s : State) : (setEngine e s).supply = s.supply := rfl
@[simp] theorem dipNoted_setEngine (e : Engine) (s : State) : (setEngine e s).dipNoted = s.dipNoted := rfl
@[simp] theorem supplyOff_setEngine (e : Engine) (s : State) : (setEngine e s).supplyOff = s.supplyOff := rfl
@[simp] theorem resetHeld_setEngine (e : Engine) (s : State) : (setEngine e s).resetHeld = s.resetHeld := rfl
@[simp] theorem pins_setEngine (e : Engine) (s : State) : (setEngine e s).pins = s.pins := rfl
@[simp] theorem miso_setEngine (e : Engine) (s : State) : (setEngine e s).miso = s.miso := rfl

/-! ## setLive -/

@[simp] theorem pending_setLive (k : Nat) (a : Bool) (p : Option Nat) (s : State) :
    (setLive k a p s).pending = s.pending := rfl
@[simp] theorem yardMap_setLive (k : Nat) (a : Bool) (p : Option Nat) (s : State) :
    (setLive k a p s).yardMap = s.yardMap := rfl
@[simp] theorem products_setLive (k : Nat) (a : Bool) (p : Option Nat) (s : State) :
    (setLive k a p s).products = s.products := rfl
@[simp] theorem packs_setLive (k : Nat) (a : Bool) (p : Option Nat) (s : State) :
    (setLive k a p s).packs = s.packs := rfl
@[simp] theorem settings_setLive (k : Nat) (a : Bool) (p : Option Nat) (s : State) :
    (setLive k a p s).settings = s.settings := rfl
@[simp] theorem lineSettings_setLive (k : Nat) (a : Bool) (p : Option Nat) (s : State) :
    (setLive k a p s).lineSettings = s.lineSettings := rfl
@[simp] theorem restartRecord_setLive (k : Nat) (a : Bool) (p : Option Nat) (s : State) :
    (setLive k a p s).restartRecord = s.restartRecord := rfl
@[simp] theorem badTables_setLive (k : Nat) (a : Bool) (p : Option Nat) (s : State) :
    (setLive k a p s).badTables = s.badTables := rfl
@[simp] theorem owedRaises_setLive (k : Nat) (a : Bool) (p : Option Nat) (s : State) :
    (setLive k a p s).owedRaises = s.owedRaises := rfl
@[simp] theorem orders_setLive (k : Nat) (a : Bool) (p : Option Nat) (s : State) :
    (setLive k a p s).orders = s.orders := rfl
@[simp] theorem queue_setLive (k : Nat) (a : Bool) (p : Option Nat) (s : State) :
    (setLive k a p s).queue = s.queue := rfl
@[simp] theorem engine_setLive (k : Nat) (a : Bool) (p : Option Nat) (s : State) :
    (setLive k a p s).engine = s.engine := rfl
@[simp] theorem tasks_setLive (k : Nat) (a : Bool) (p : Option Nat) (s : State) :
    (setLive k a p s).tasks = s.tasks := rfl
@[simp] theorem stations_setLive (k : Nat) (a : Bool) (p : Option Nat) (s : State) :
    (setLive k a p s).stations = s.stations := rfl
@[simp] theorem lines_setLive (k : Nat) (a : Bool) (p : Option Nat) (s : State) :
    (setLive k a p s).lines = s.lines.set k ⟨a, p⟩ := rfl
@[simp] theorem raining_setLive (k : Nat) (a : Bool) (p : Option Nat) (s : State) :
    (setLive k a p s).raining = s.raining := rfl
@[simp] theorem sweep_setLive (k : Nat) (a : Bool) (p : Option Nat) (s : State) :
    (setLive k a p s).sweep = s.sweep := rfl
@[simp] theorem sweepPending_setLive (k : Nat) (a : Bool) (p : Option Nat) (s : State) :
    (setLive k a p s).sweepPending = s.sweepPending := rfl
@[simp] theorem mode_setLive (k : Nat) (a : Bool) (p : Option Nat) (s : State) :
    (setLive k a p s).mode = s.mode := rfl
@[simp] theorem watches_setLive (k : Nat) (a : Bool) (p : Option Nat) (s : State) :
    (setLive k a p s).watches = s.watches := rfl
@[simp] theorem summary_setLive (k : Nat) (a : Bool) (p : Option Nat) (s : State) :
    (setLive k a p s).summary = s.summary := rfl
@[simp] theorem enables_setLive (k : Nat) (a : Bool) (p : Option Nat) (s : State) :
    (setLive k a p s).enables = s.enables := rfl
@[simp] theorem attn_setLive (k : Nat) (a : Bool) (p : Option Nat) (s : State) :
    (setLive k a p s).attn = s.attn := rfl
@[simp] theorem port_setLive (k : Nat) (a : Bool) (p : Option Nat) (s : State) :
    (setLive k a p s).port = s.port := rfl
@[simp] theorem lastStatus_setLive (k : Nat) (a : Bool) (p : Option Nat) (s : State) :
    (setLive k a p s).lastStatus = s.lastStatus := rfl
@[simp] theorem overrunNoted_setLive (k : Nat) (a : Bool) (p : Option Nat) (s : State) :
    (setLive k a p s).overrunNoted = s.overrunNoted := rfl
@[simp] theorem clearing_setLive (k : Nat) (a : Bool) (p : Option Nat) (s : State) :
    (setLive k a p s).clearing = s.clearing := rfl
@[simp] theorem cause_setLive (k : Nat) (a : Bool) (p : Option Nat) (s : State) :
    (setLive k a p s).cause = s.cause := rfl
@[simp] theorem failedTables_setLive (k : Nat) (a : Bool) (p : Option Nat) (s : State) :
    (setLive k a p s).failedTables = s.failedTables := rfl
@[simp] theorem supply_setLive (k : Nat) (a : Bool) (p : Option Nat) (s : State) :
    (setLive k a p s).supply = s.supply := rfl
@[simp] theorem dipNoted_setLive (k : Nat) (a : Bool) (p : Option Nat) (s : State) :
    (setLive k a p s).dipNoted = s.dipNoted := rfl
@[simp] theorem supplyOff_setLive (k : Nat) (a : Bool) (p : Option Nat) (s : State) :
    (setLive k a p s).supplyOff = s.supplyOff := rfl
@[simp] theorem resetHeld_setLive (k : Nat) (a : Bool) (p : Option Nat) (s : State) :
    (setLive k a p s).resetHeld = s.resetHeld := rfl
@[simp] theorem pins_setLive (k : Nat) (a : Bool) (p : Option Nat) (s : State) :
    (setLive k a p s).pins = s.pins := rfl
@[simp] theorem miso_setLive (k : Nat) (a : Bool) (p : Option Nat) (s : State) :
    (setLive k a p s).miso = s.miso := rfl

/-! ## beginRequest -/

@[simp] theorem pending_beginRequest (c : Instr) (s : State) : (beginRequest c s).pending = s.pending := rfl
@[simp] theorem yardMap_beginRequest (c : Instr) (s : State) : (beginRequest c s).yardMap = s.yardMap := rfl
@[simp] theorem products_beginRequest (c : Instr) (s : State) : (beginRequest c s).products = s.products := rfl
@[simp] theorem packs_beginRequest (c : Instr) (s : State) : (beginRequest c s).packs = s.packs := rfl
@[simp] theorem settings_beginRequest (c : Instr) (s : State) : (beginRequest c s).settings = s.settings := rfl
@[simp] theorem lineSettings_beginRequest (c : Instr) (s : State) : (beginRequest c s).lineSettings = s.lineSettings := rfl
@[simp] theorem restartRecord_beginRequest (c : Instr) (s : State) : (beginRequest c s).restartRecord = s.restartRecord := rfl
@[simp] theorem badTables_beginRequest (c : Instr) (s : State) : (beginRequest c s).badTables = s.badTables := rfl
@[simp] theorem owedRaises_beginRequest (c : Instr) (s : State) : (beginRequest c s).owedRaises = s.owedRaises := rfl
@[simp] theorem orders_beginRequest (c : Instr) (s : State) : (beginRequest c s).orders = s.orders := rfl
@[simp] theorem queue_beginRequest (c : Instr) (s : State) : (beginRequest c s).queue = s.queue := rfl
@[simp] theorem engine_beginRequest (c : Instr) (s : State) : (beginRequest c s).engine = s.engine := rfl
@[simp] theorem tasks_beginRequest (c : Instr) (s : State) : (beginRequest c s).tasks = s.tasks := rfl
@[simp] theorem stations_beginRequest (c : Instr) (s : State) : (beginRequest c s).stations = s.stations := rfl
@[simp] theorem lines_beginRequest (c : Instr) (s : State) : (beginRequest c s).lines = s.lines := rfl
@[simp] theorem raining_beginRequest (c : Instr) (s : State) : (beginRequest c s).raining = s.raining := rfl
@[simp] theorem sweep_beginRequest (c : Instr) (s : State) : (beginRequest c s).sweep = s.sweep := rfl
@[simp] theorem sweepPending_beginRequest (c : Instr) (s : State) : (beginRequest c s).sweepPending = s.sweepPending := rfl
@[simp] theorem mode_beginRequest (c : Instr) (s : State) : (beginRequest c s).mode = s.mode := rfl
@[simp] theorem watches_beginRequest (c : Instr) (s : State) : (beginRequest c s).watches = s.watches := rfl
@[simp] theorem summary_beginRequest (c : Instr) (s : State) : (beginRequest c s).summary = s.summary := rfl
@[simp] theorem enables_beginRequest (c : Instr) (s : State) : (beginRequest c s).enables = s.enables := rfl
@[simp] theorem attn_beginRequest (c : Instr) (s : State) : (beginRequest c s).attn = s.attn := rfl
@[simp] theorem port_beginRequest (c : Instr) (s : State) : (beginRequest c s).port = .executing c := rfl
@[simp] theorem lastStatus_beginRequest (c : Instr) (s : State) : (beginRequest c s).lastStatus = if familyOf c.requestCode = 0 then s.lastStatus else none := rfl
@[simp] theorem overrunNoted_beginRequest (c : Instr) (s : State) : (beginRequest c s).overrunNoted = s.overrunNoted := rfl
@[simp] theorem clearing_beginRequest (c : Instr) (s : State) : (beginRequest c s).clearing = s.clearing := rfl
@[simp] theorem cause_beginRequest (c : Instr) (s : State) : (beginRequest c s).cause = s.cause := rfl
@[simp] theorem failedTables_beginRequest (c : Instr) (s : State) : (beginRequest c s).failedTables = s.failedTables := rfl
@[simp] theorem supply_beginRequest (c : Instr) (s : State) : (beginRequest c s).supply = s.supply := rfl
@[simp] theorem dipNoted_beginRequest (c : Instr) (s : State) : (beginRequest c s).dipNoted = s.dipNoted := rfl
@[simp] theorem supplyOff_beginRequest (c : Instr) (s : State) : (beginRequest c s).supplyOff = s.supplyOff := rfl
@[simp] theorem resetHeld_beginRequest (c : Instr) (s : State) : (beginRequest c s).resetHeld = s.resetHeld := rfl
@[simp] theorem pins_beginRequest (c : Instr) (s : State) : (beginRequest c s).pins = s.pins := rfl
@[simp] theorem miso_beginRequest (c : Instr) (s : State) : (beginRequest c s).miso = s.miso := rfl

/-! ## The state after reset -/

@[simp] theorem pending_reset : State.reset.pending = [] := rfl
@[simp] theorem yardMap_reset : State.reset.yardMap = YardMap.default := rfl
@[simp] theorem products_reset : State.reset.products = List.replicate 256 Product.default := rfl
@[simp] theorem packs_reset : State.reset.packs = [] := rfl
@[simp] theorem settings_reset : State.reset.settings = YardSettings.default := rfl
@[simp] theorem lineSettings_reset : State.reset.lineSettings = List.replicate 7 lineDefault := rfl
@[simp] theorem restartRecord_reset : State.reset.restartRecord = ⟨0#16, 0#6⟩ := rfl
@[simp] theorem badTables_reset : State.reset.badTables = 0#6 := rfl
@[simp] theorem owedRaises_reset : State.reset.owedRaises = 0 := rfl
@[simp] theorem orders_reset : State.reset.orders = [] := rfl
@[simp] theorem queue_reset : State.reset.queue = [] := rfl
@[simp] theorem engine_reset : State.reset.engine = Engine.default := rfl
@[simp] theorem tasks_reset : State.reset.tasks = [] := rfl
@[simp] theorem stations_reset : State.reset.stations = List.replicate 8 Station.default := rfl
@[simp] theorem lines_reset : State.reset.lines = List.replicate 7 ⟨false, none⟩ := rfl
@[simp] theorem raining_reset : State.reset.raining = false := rfl
@[simp] theorem sweep_reset : State.reset.sweep = none := rfl
@[simp] theorem sweepPending_reset : State.reset.sweepPending = false := rfl
@[simp] theorem mode_reset : State.reset.mode = .closed := rfl
@[simp] theorem watches_reset : State.reset.watches = List.replicate 4 Watch.default := rfl
@[simp] theorem summary_reset : State.reset.summary = 0x60000#19 := rfl
@[simp] theorem enables_reset : State.reset.enables = 0x7FFFF#19 := rfl
@[simp] theorem attn_reset : State.reset.attn = true := rfl
@[simp] theorem port_reset : State.reset.port = .idle := rfl
@[simp] theorem lastStatus_reset : State.reset.lastStatus = none := rfl
@[simp] theorem overrunNoted_reset : State.reset.overrunNoted = false := rfl
@[simp] theorem clearing_reset : State.reset.clearing = false := rfl
@[simp] theorem cause_reset : State.reset.cause = .powerOn := rfl
@[simp] theorem failedTables_reset : State.reset.failedTables = 0x3F#6 := rfl
@[simp] theorem supply_reset : State.reset.supply = .sound := rfl
@[simp] theorem dipNoted_reset : State.reset.dipNoted = false := rfl
@[simp] theorem supplyOff_reset : State.reset.supplyOff = false := rfl
@[simp] theorem resetHeld_reset : State.reset.resetHeld = false := rfl
@[simp] theorem pins_reset : State.reset.pins = 0#16 := rfl
@[simp] theorem miso_reset : State.reset.miso = [] := rfl

end Sys2Proof.Machine
end

