-- ==== Sys2Proof/Laws/Table.lean ====
section
/-!
SUPPORT. The laws of tables keyed by rising numbers, and of the list operations the machine uses.
-/

namespace Sys2Proof.Machine

variable {α : Type}

/-! ## Reading after a change -/

@[simp] theorem Table.get_nil (k : Nat) : Table.get ([] : Table α) k = none := rfl

theorem Table.get_cons (k' : Nat) (v : α) (t : Table α) (k : Nat) :
    Table.get ((k', v) :: t) k = if k' = k then some v else Table.get t k := rfl

theorem Table.get_put_self (t : Table α) (k : Nat) (v : α) : Table.get (Table.put t k v) k = some v := by
  induction t with
  | nil => simp [Table.put, Table.get]
  | cons e t ih =>
    obtain ⟨k', v'⟩ := e
    simp only [Table.put]
    split_ifs with h1 h2
    · simp [Table.get]
    · simp [Table.get]
    · rw [Table.get_cons, if_neg (fun h => h2 h.symm)]
      exact ih

theorem Table.get_put_other (t : Table α) {k n : Nat} (v : α) (h : n ≠ k) :
    Table.get (Table.put t k v) n = Table.get t n := by
  have hk : k ≠ n := fun e => h e.symm
  induction t with
  | nil => simp [Table.put, Table.get, hk]
  | cons e t ih =>
    obtain ⟨k', v'⟩ := e
    simp only [Table.put]
    split_ifs with h1 h2
    · rw [Table.get_cons, if_neg hk]
    · subst h2
      rw [Table.get_cons, if_neg hk, Table.get_cons, if_neg hk]
    · rw [Table.get_cons, Table.get_cons, ih]

theorem Table.get_change (t : Table α) (f : Nat → α → α) (k : Nat) :
    Table.get (Table.change t f) k = (Table.get t k).map (f k) := by
  induction t with
  | nil => rfl
  | cons e t ih =>
    obtain ⟨k', v⟩ := e
    rw [show Table.change ((k', v) :: t) f = (k', f k' v) :: Table.change t f from rfl, Table.get_cons,
      Table.get_cons, ih]
    split_ifs with h
    · subst h; rfl
    · rfl

theorem Table.get_update_self (t : Table α) (k : Nat) (f : α → α) :
    Table.get (Table.update t k f) k = (Table.get t k).map f := by
  rw [Table.update, Table.get_change]
  simp

theorem Table.get_update_other (t : Table α) {k n : Nat} (f : α → α) (h : n ≠ k) :
    Table.get (Table.update t k f) n = Table.get t n := by
  rw [Table.update, Table.get_change]
  simp [h]

theorem Table.get_erase_self (t : Table α) (k : Nat) : Table.get (Table.erase t k) k = none := by
  induction t with
  | nil => rfl
  | cons e t ih =>
    obtain ⟨k', v⟩ := e
    simp only [Table.erase, List.filter_cons]
    split_ifs with h
    · rw [Table.get_cons, if_neg (by simpa using h)]
      exact ih
    · exact ih

theorem Table.mem_of_get {t : Table α} {k : Nat} {v : α} (h : Table.get t k = some v) : (k, v) ∈ t := by
  induction t with
  | nil => simp at h
  | cons e t ih =>
    obtain ⟨k', v'⟩ := e
    rw [Table.get_cons] at h
    split_ifs at h with hk
    · cases h; subst hk; simp
    · exact List.mem_cons_of_mem _ (ih h)

/-! ## Keys and length -/

@[simp] theorem Table.keys_change (t : Table α) (f : Nat → α → α) : (Table.change t f).keys = t.keys := by
  simp [Table.keys, Table.change, List.map_map, Function.comp_def]

@[simp] theorem Table.keys_update (t : Table α) (k : Nat) (f : α → α) : (Table.update t k f).keys = t.keys :=
  Table.keys_change t _

@[simp] theorem Table.length_change (t : Table α) (f : Nat → α → α) : (Table.change t f).length = t.length := by
  simp [Table.change]

@[simp] theorem Table.length_update (t : Table α) (k : Nat) (f : α → α) : (Table.update t k f).length = t.length :=
  Table.length_change t _

theorem Table.length_put_le (t : Table α) (k : Nat) (v : α) : (Table.put t k v).length ≤ t.length + 1 := by
  induction t with
  | nil => simp [Table.put]
  | cons e t ih =>
    obtain ⟨k', v'⟩ := e
    simp only [Table.put]
    split_ifs <;> simp_all

theorem Table.length_erase_le (t : Table α) (k : Nat) : (Table.erase t k).length ≤ t.length :=
  List.length_filter_le _ _

/-! ## The keys keep rising -/

theorem Table.mem_keys_put {t : Table α} {k : Nat} {v : α} {e : Nat × α} (h : e ∈ Table.put t k v) :
    e = (k, v) ∨ e ∈ t := by
  induction t with
  | nil => simpa [Table.put] using h
  | cons d t ih =>
    obtain ⟨k', v'⟩ := d
    simp only [Table.put] at h
    split_ifs at h with h1 h2
    · simpa using h
    · rcases List.mem_cons.mp h with h | h
      · exact Or.inl h
      · exact Or.inr (List.mem_cons_of_mem _ h)
    · rcases List.mem_cons.mp h with h | h
      · exact Or.inr (by simp [h])
      · rcases ih h with h | h
        · exact Or.inl h
        · exact Or.inr (List.mem_cons_of_mem _ h)

theorem Table.rising_put {t : Table α} (k : Nat) (v : α) (h : Table.rising t) : Table.rising (Table.put t k v) := by
  induction t with
  | nil => simp [Table.put, Table.rising]
  | cons d t ih =>
    obtain ⟨k', v'⟩ := d
    have hd := List.pairwise_cons.mp h
    simp only [Table.put]
    split_ifs with h1 h2
    · refine List.pairwise_cons.mpr ⟨fun e he => ?_, h⟩
      rcases List.mem_cons.mp he with he | he
      · subst he; exact h1
      · exact Nat.lt_trans h1 (hd.1 e he)
    · subst h2
      exact List.pairwise_cons.mpr ⟨hd.1, hd.2⟩
    · refine List.pairwise_cons.mpr ⟨fun e he => ?_, ih hd.2⟩
      rcases Table.mem_keys_put he with he | he
      · subst he
        show k' < k
        omega
      · exact hd.1 e he

theorem Table.rising_change {t : Table α} (f : Nat → α → α) (h : Table.rising t) :
    Table.rising (Table.change t f) := by
  rw [Table.rising, Table.change, List.pairwise_map]
  exact h

theorem Table.rising_update {t : Table α} (k : Nat) (f : α → α) (h : Table.rising t) :
    Table.rising (Table.update t k f) := Table.rising_change _ h

theorem Table.rising_erase {t : Table α} (k : Nat) (h : Table.rising t) : Table.rising (Table.erase t k) :=
  List.Pairwise.filter _ h

/-- In a rising table a member is what its key reads. -/
theorem Table.get_of_mem {t : Table α} (h : Table.rising t) {e : Nat × α} (he : e ∈ t) :
    Table.get t e.1 = some e.2 := by
  induction t with
  | nil => simp at he
  | cons d t ih =>
    obtain ⟨k', v'⟩ := d
    have hd := List.pairwise_cons.mp h
    rw [Table.get_cons]
    rcases List.mem_cons.mp he with he | he
    · subst he; simp
    · rw [if_neg (Nat.ne_of_lt (hd.1 e he))]
      exact ih hd.2 he

/-- In a rising table a key names one member. -/
theorem Table.eq_of_mem {t : Table α} (h : Table.rising t) {e f : Nat × α} (he : e ∈ t) (hf : f ∈ t)
    (hk : e.1 = f.1) : e = f := by
  have a := Table.get_of_mem h he
  rw [hk, Table.get_of_mem h hf] at a
  exact Prod.ext hk (Option.some.inj a).symm

theorem Table.get_eq_none (t : Table α) {k : Nat} (h : k ∉ t.keys) : Table.get t k = none := by
  cases hg : Table.get t k with
  | none => rfl
  | some v => exact absurd (List.mem_map.mpr ⟨_, Table.mem_of_get hg, rfl⟩) h

/-! ## Sorting and choosing -/

theorem insertBy_perm (before : α → α → Bool) (x : α) (l : List α) : (insertBy before x l).Perm (x :: l) := by
  induction l with
  | nil => simp [insertBy]
  | cons y ys ih =>
    simp only [insertBy]
    split_ifs
    · exact List.Perm.refl _
    · exact (ih.cons y).trans (List.Perm.swap x y ys)

theorem sortBy_perm (before : α → α → Bool) (l : List α) : (sortBy before l).Perm l := by
  induction l with
  | nil => simp [sortBy]
  | cons x xs ih => exact (insertBy_perm before x _).trans (ih.cons x)

theorem mem_sortBy (before : α → α → Bool) (l : List α) (x : α) : x ∈ sortBy before l ↔ x ∈ l :=
  (sortBy_perm before l).mem_iff

/-- An insertion keeps a list sorted by an order that the comparison decides among its members. -/
theorem insertBy_pairwise {before : α → α → Bool} {R : α → α → Prop} (htrans : ∀ a b c, R a b → R b c → R a c)
    {x : α} {l : List α} (hl : l.Pairwise R) (h1 : ∀ y ∈ l, before x y = true → R x y)
    (h2 : ∀ y ∈ l, before x y = false → R y x) : (insertBy before x l).Pairwise R := by
  induction l with
  | nil => simp [insertBy]
  | cons y ys ih =>
    rw [List.pairwise_cons] at hl
    simp only [insertBy]
    split_ifs with hc
    · rw [List.pairwise_cons, List.pairwise_cons]
      refine ⟨fun z hz => ?_, hl⟩
      rcases List.mem_cons.mp hz with rfl | hz
      · exact h1 _ (by simp) hc
      · exact htrans _ _ _ (h1 y (by simp) hc) (hl.1 z hz)
    · rw [List.pairwise_cons]
      refine ⟨fun z hz => ?_, ih hl.2 (fun z hz => h1 z (by simp [hz])) (fun z hz => h2 z (by simp [hz]))⟩
      rcases List.mem_cons.mp ((insertBy_perm before x ys).mem_iff.mp hz) with rfl | hz
      · exact h2 y (by simp) (by simpa using hc)
      · exact hl.1 z hz

/-- What a search of a sorted list finds: the least member that passes. -/
theorem find?_pairwise (p : α → Bool) {R : α → α → Prop} (hasymm : ∀ a b, R a b → ¬ R b a) (e : α) :
    ∀ l : List α, l.Pairwise R →
      (l.find? p = some e ↔ e ∈ l ∧ p e = true ∧ ∀ f ∈ l, p f = true → f = e ∨ R e f) := by
  intro l
  induction l with
  | nil => simp
  | cons x xs ih =>
    intro hl
    rw [List.pairwise_cons] at hl
    rw [List.find?_cons]
    by_cases hx : p x = true
    · simp only [hx]
      constructor
      · intro h
        cases h
        refine ⟨by simp, hx, fun f hf _ => ?_⟩
        rcases List.mem_cons.mp hf with rfl | hf
        · exact Or.inl rfl
        · exact Or.inr (hl.1 f hf)
      · rintro ⟨h1, -, h3⟩
        rcases List.mem_cons.mp h1 with rfl | h1
        · rfl
        · rcases h3 x (by simp) hx with h | h
          · rw [h]
          · exact absurd h (hasymm _ _ (hl.1 e h1))
    · simp only [hx]
      rw [ih hl.2]
      constructor
      · rintro ⟨h1, h2, h3⟩
        refine ⟨by simp [h1], h2, fun f hf hpf => ?_⟩
        rcases List.mem_cons.mp hf with rfl | hf
        · exact absurd hpf hx
        · exact h3 f hf hpf
      · rintro ⟨h1, h2, h3⟩
        rcases List.mem_cons.mp h1 with rfl | h1
        · exact absurd h2 hx
        · exact ⟨h1, h2, fun f hf hpf => h3 f (by simp [hf]) hpf⟩

theorem firstBy_mem {before : α → α → Bool} {l : List α} {x : α} (h : firstBy before l = some x) : x ∈ l := by
  induction l generalizing x with
  | nil => simp [firstBy] at h
  | cons y ys ih =>
    simp only [firstBy] at h
    split at h
    · simp_all
    · rename_i z hz
      split_ifs at h
      · cases h; exact List.mem_cons_of_mem _ (ih hz)
      · cases h; simp

theorem firstBy_none {before : α → α → Bool} {l : List α} (h : firstBy before l = none) : l = [] := by
  cases l with
  | nil => rfl
  | cons y ys =>
    simp only [firstBy] at h
    split at h
    · simp at h
    · split_ifs at h

/-- What the first element by a numbered order is: the leftmost of those with the least number. -/
theorem firstBy_eq_some_iff {before : α → α → Bool} (key : α → Nat)
    (hk : ∀ a b, before a b = decide (key a < key b)) (l : List α) (x : α) :
    firstBy before l = some x ↔
      ∃ front back, l = front ++ x :: back ∧ (∀ y ∈ front, key x < key y) ∧ ∀ y ∈ back, key x ≤ key y := by
  induction l generalizing x with
  | nil => simp [firstBy]
  | cons y ys ih =>
    simp only [firstBy]
    cases h : firstBy before ys with
    | none =>
      have hy : ys = [] := firstBy_none h
      subst hy
      constructor
      · intro e; cases e; exact ⟨[], [], rfl, by simp, by simp⟩
      · rintro ⟨f, b, e, -, -⟩
        cases f with
        | nil => simp at e; rw [e.1]
        | cons z zs => simp at e
    | some z =>
      obtain ⟨f, b, e, h1, h2⟩ := (ih z).mp h
      simp only [hk]
      constructor
      · split_ifs with hc
        · intro e2; cases e2
          refine ⟨y :: f, b, by simp [e], fun w hw => ?_, h2⟩
          rcases List.mem_cons.mp hw with rfl | hw
          · simpa using hc
          · exact h1 w hw
        · intro e2
          have e3 : y = x := by simpa using e2
          subst e3
          have hc : ¬ key z < key y := by simpa using hc
          refine ⟨[], ys, rfl, by simp, fun w hw => ?_⟩
          rw [e] at hw
          rcases List.mem_append.mp hw with hw | hw
          · have := h1 w hw; omega
          · rcases List.mem_cons.mp hw with rfl | hw
            · omega
            · have := h2 w hw; omega
      · rintro ⟨f', b', e', g1, g2⟩
        cases f' with
        | nil =>
          simp at e'
          obtain ⟨rfl, rfl⟩ := e'
          have : key y ≤ key z := g2 z (by rw [e]; simp)
          rw [if_neg (by simpa using this)]
        | cons w ws =>
          simp at e'
          obtain ⟨rfl, e'⟩ := e'
          have hx : firstBy before ys = some x := (ih x).mpr ⟨ws, b', e', fun a ha => g1 a (by simp [ha]), g2⟩
          rw [h] at hx; cases hx
          rw [if_pos (by simpa using g1 y (by simp))]

theorem lowestFree_ge (used : List Nat) (fuel n : Nat) : n ≤ lowestFree used fuel n := by
  induction fuel generalizing n with
  | zero => simp [lowestFree]
  | succ fuel ih =>
    simp only [lowestFree]
    split_ifs
    · exact Nat.le_trans (Nat.le_succ n) (ih (n + 1))
    · exact Nat.le_refl n

/-- Where a number within reach is free, the lowest free one is, and every number before it is used. -/
theorem lowestFree_spec (used : List Nat) (fuel n : Nat) (h : ∃ m, n ≤ m ∧ m < n + fuel ∧ m ∉ used) :
    lowestFree used fuel n ∉ used ∧ lowestFree used fuel n < n + fuel ∧
      ∀ m, n ≤ m → m < lowestFree used fuel n → m ∈ used := by
  induction fuel generalizing n with
  | zero =>
    obtain ⟨m, a, b, -⟩ := h
    omega
  | succ fuel ih =>
    obtain ⟨m, a, b, c⟩ := h
    simp only [lowestFree]
    split_ifs with hn
    · have hm : m ≠ n := fun e => c (by simpa [e] using hn)
      obtain ⟨x1, x2, x3⟩ := ih (n + 1) ⟨m, by omega, by omega, c⟩
      refine ⟨x1, by omega, fun y h1 h2 => ?_⟩
      by_cases e : y = n
      · simpa [e] using hn
      · exact x3 y (by omega) h2
    · exact ⟨hn, by omega, fun y h1 h2 => by omega⟩

/-- A list shorter than a range lacks a number of it. -/
theorem exists_free (l : List Nat) {k : Nat} (h : l.length < k) : ∃ m, 1 ≤ m ∧ m < 1 + k ∧ m ∉ l := by
  by_contra hc
  have hs : (List.range' 1 k).Subperm l := by
    refine List.Nodup.subperm List.nodup_range' fun x hx => ?_
    simp at hx
    by_contra hx2
    exact hc ⟨x, hx.1, hx.2, hx2⟩
  have hl := hs.length_le
  simp at hl
  omega

/-! ## Merging -/

theorem mem_insertNat (n m : Nat) (l : List Nat) : m ∈ insertNat n l ↔ m = n ∨ m ∈ l := by
  induction l with
  | nil => simp [insertNat]
  | cons x xs ih =>
    simp only [insertNat]
    split_ifs with a b
    · simp
    · simp [b]
    · simp only [List.mem_cons, ih]
      constructor
      · rintro (h | h | h) <;> simp [h]
      · rintro (h | h | h) <;> simp [h]

theorem insertNat_pairwise (n : Nat) {l : List Nat} (h : l.Pairwise (· < ·)) :
    (insertNat n l).Pairwise (· < ·) := by
  induction l with
  | nil => simp [insertNat]
  | cons x xs ih =>
    rw [List.pairwise_cons] at h
    simp only [insertNat]
    split_ifs with a b
    · rw [List.pairwise_cons, List.pairwise_cons]
      refine ⟨fun z hz => ?_, h⟩
      rcases List.mem_cons.mp hz with rfl | hz
      · exact a
      · exact Nat.lt_trans a (h.1 z hz)
    · rw [List.pairwise_cons]
      exact h
    · rw [List.pairwise_cons]
      refine ⟨fun z hz => ?_, ih h.2⟩
      rcases (mem_insertNat n z xs).mp hz with rfl | hz
      · omega
      · exact h.1 z hz

theorem mem_mergeNats (a b : List Nat) (m : Nat) : m ∈ mergeNats a b ↔ m ∈ a ∨ m ∈ b := by
  have key : ∀ (u v : List Nat), m ∈ u.foldr insertNat v ↔ m ∈ u ∨ m ∈ v := by
    intro u v
    induction u with
    | nil => simp
    | cons x xs ih => simp [mem_insertNat, ih, or_assoc]
  rw [mergeNats, key, key]
  simp

theorem mergeNats_pairwise (a b : List Nat) : (mergeNats a b).Pairwise (· < ·) := by
  have key : ∀ (u : List Nat) {v : List Nat}, v.Pairwise (· < ·) → (u.foldr insertNat v).Pairwise (· < ·) := by
    intro u v h
    induction u with
    | nil => exact h
    | cons x xs ih => exact insertNat_pairwise _ ih
  exact key a (key b List.Pairwise.nil)

end Sys2Proof.Machine
end

