-- ==== Sys2Proof/Laws/Ops.lean ====
section
/-!
SUPPORT. What the shared operations can do, each said once: how a request meets the port, what a claim's end may
touch, that every posting keeps the attention pin's law, what R6 answers a put-down, and when a wetting releases.
-/

namespace Sys2Proof.Machine

/-! ## The port -/

/-- A request the port executes is its owning block's. -/
theorem intake_of_atBlock {c : Instr} {s : State} (k : State → State) (h : Safety.atBlock c s) :
    intake c k s = k s := by
  obtain ⟨h1, h2, h3⟩ := h
  simp [intake, h1, h2, h3]

/-- A request at an idle port is taken whole. -/
theorem intake_of_idle {c : Instr} {s : State} (k : State → State) (h1 : s.stopped = false) (h2 : s.port = .idle) :
    intake c k s = k (beginRequest c s) := by simp [intake, h1, h2]

/-- A stopped part takes no request. -/
theorem intake_of_stopped {c : Instr} {s : State} (k : State → State) (h : s.stopped = true) :
    intake c k s = s := by simp [intake, h]

/-- What a served request does where the port executes it and its station is allowed. -/
theorem serve_of_atBlock {c : Instr} {s : State} (block : State → Answer) (h : Safety.atBlock c s)
    (hs : stationAllowed (familyOf c.requestCode) c.stationField = true) :
    serve c block s = .next (respond c (block s)) := by
  simp [serve, intake_of_atBlock _ h, takeRequest, hs]

/-- Serving always answers a next state. -/
theorem serve_next (c : Instr) (block : State → Answer) (s : State) : ∃ t, serve c block s = .next t := ⟨_, rfl⟩

/-- The response to a taken request that is not RESTART. -/
theorem respond_taken {c : Instr} (hc : c ≠ .restart) (reply : List Byte) (t : State) :
    respond c (taken reply t) = { t with port := .answered ⟨c.requestCode, .ok, reply, false⟩ } := by
  simp [respond, respondAs, taken, hc]

/-- The response to a refused request. -/
theorem respond_refuse (c : Instr) {status : Status} (h : status ≠ .ok) (t : State) :
    respond c (refuse status t) =
      { t with
        port := .answered ⟨c.requestCode, status, [], false⟩
        lastStatus := some ⟨status, c.requestCode, c.stationField⟩ } := by
  simp [respond, respondAs, refuse, h]

/-- The station field of a request outside family 5 (R172 step 2). -/
theorem allowed_plain {c : Instr} (code : Nat) (hc : c.requestCode = code) (hn : c.stationField = 0)
    (h5 : code / 16 ≠ 5) : stationAllowed (familyOf c.requestCode) c.stationField = true := by
  rw [hc, hn]
  simp [stationAllowed, familyOf, h5]

/-- The station field of a request of family 5 (R172 step 2). -/
theorem allowed_station {c : Instr} (code : Nat) {n : Nat} (hc : c.requestCode = code) (hn : c.stationField = n)
    (h5 : code / 16 = 5) (h1 : 1 ≤ n) (h8 : n ≤ 8) :
    stationAllowed (familyOf c.requestCode) c.stationField = true := by
  rw [hc, hn]
  simp [stationAllowed, familyOf, h5, h1, h8]

/-- A request that its block takes is answered OK. -/
theorem serve_taken {c : Instr} {block : State → Answer} {s t : State} {reply : List Byte} (hr : c ≠ .restart)
    (h : Safety.atBlock c s) (hs : stationAllowed (familyOf c.requestCode) c.stationField = true)
    (hb : block s = taken reply t) : serve c block s = Safety.okWith c reply t := by
  rw [serve_of_atBlock block h hs, hb, respond_taken hr]
  rfl

/-- A request that its block refuses is answered with the refusal. -/
theorem serve_refused {c : Instr} {block : State → Answer} {s t : State} {status : Status} (hn : status ≠ .ok)
    (h : Safety.atBlock c s) (hs : stationAllowed (familyOf c.requestCode) c.stationField = true)
    (hb : block s = refuse status t) : serve c block s = Safety.refusedWith c status t := by
  rw [serve_of_atBlock block h hs, hb, respond_refuse c hn]
  rfl

/-! ## The attention pin (R166) -/

theorem attnLaw_driveAttn (s : State) : Safety.attnLaw (driveAttn s) := rfl

theorem attnLaw_post (k : EventKind) (s : State) : Safety.attnLaw (post k s) := rfl

theorem attnLaw_postIf (c : Bool) (k : EventKind) {s : State} (h : Safety.attnLaw s) :
    Safety.attnLaw (postIf c k s) := by
  cases c
  · exact h
  · exact attnLaw_post k s

theorem holds_post (k : EventKind) (s : State) : (post k s).holds k = true := by
  cases k <;> simp [State.holds, EventKind.bit, EventKind.number]

/-! ## The end of a claim -/

/-- One change, as the watches take it, touches the entries and the attention unit alone. -/
theorem observeChange_frame (tag : Nat) (before after : Option Pack) (s : State) :
    ∃ w m a, observeChange tag before after s = { s with watches := w, summary := m, attn := a } := by
  unfold observeChange postIf
  split_ifs
  · exact ⟨_, _, _, rfl⟩
  · exact ⟨_, s.summary, s.attn, rfl⟩

theorem attnLaw_observeChange (tag : Nat) (before after : Option Pack) {s : State} (h : Safety.attnLaw s) :
    Safety.attnLaw (observeChange tag before after s) := attnLaw_postIf _ _ h

/-- The comparisons of a claim touch the watch entries and the attention unit alone. -/
theorem observe_frame (named : Option Nat) (before : Table Pack) (s : State) :
    ∃ w m a, observe named before s = { s with watches := w, summary := m, attn := a } := by
  have key : ∀ (l : List Nat) (u : State), (∃ w m a, u = { s with watches := w, summary := m, attn := a }) →
      ∃ w m a,
        l.foldl (fun v t => observeChange t (Table.get before t) (Table.get s.packs t) v) u =
          { s with watches := w, summary := m, attn := a } := by
    intro l
    induction l with
    | nil => intro u h; exact h
    | cons t l ih =>
      intro u h
      refine ih _ ?_
      obtain ⟨w, m, a, rfl⟩ := h
      obtain ⟨w', m', a', e⟩ := observeChange_frame t (Table.get before t) (Table.get s.packs t)
        { s with watches := w, summary := m, attn := a }
      exact ⟨w', m', a', e⟩
  exact key _ s ⟨s.watches, s.summary, s.attn, rfl⟩

theorem attnLaw_observe (named : Option Nat) (before : Table Pack) {s : State} (h : Safety.attnLaw s) :
    Safety.attnLaw (observe named before s) := by
  unfold observe
  generalize changeOrderOf named (changedTags before s.packs) = l
  generalize s.packs = after
  induction l generalizing s with
  | nil => exact h
  | cons t l ih => exact ih (attnLaw_observeChange _ _ _ h)

/-- The comparisons of a claim leave the pack records. -/
theorem observe_packs (named : Option Nat) (before : Table Pack) (s : State) :
    (observe named before s).packs = s.packs := by
  obtain ⟨w, m, a, e⟩ := observe_frame named before s
  rw [e]

/-- A claim that leaves every record as it was is compared with nothing. -/
theorem observe_same (named : Option Nat) (s : State) : observe named s.packs s = s := by
  have h : changedTags s.packs s.packs = [] := by simp [changedTags]
  simp only [observe, h, changeOrderOf]
  cases named <;> rfl

/-- The judgement of CLOSING either leaves the state, reopens the yard or closes it (R157). -/
theorem judgeClosing_cases (s : State) :
    judgeClosing s = s ∨ judgeClosing s = post .gateArrival { s with mode := .opened } ∨
      judgeClosing s =
        post .yardClosed { s with mode := .closed, stations := s.stations.map Station.offShift } := by
  unfold judgeClosing
  split_ifs
  · exact Or.inr (Or.inl rfl)
  · exact Or.inr (Or.inr rfl)
  · exact Or.inl rfl

theorem attnLaw_judgeClosing {s : State} (h : Safety.attnLaw s) : Safety.attnLaw (judgeClosing s) := by
  rcases judgeClosing_cases s with e | e | e <;> rw [e]
  · exact h
  · exact attnLaw_post _ _
  · exact attnLaw_post _ _

theorem attnLaw_endClaim (named : Option Nat) (before : Table Pack) {s : State} (h : Safety.attnLaw s) :
    Safety.attnLaw (endClaim named before s) := attnLaw_judgeClosing (attnLaw_observe _ _ h)

/-- After its judgement the mode is never CLOSING with both tables empty. -/
theorem closingLaw_judgeClosing (s : State) : Safety.closingLaw (judgeClosing s) := by
  unfold judgeClosing Safety.closingLaw
  split_ifs with h1 h2
  · intro h; cases h
  · intro h; cases h
  · intro h
    by_contra hc
    simp only [not_or, not_not] at hc
    exact h1 ⟨h, hc.1, hc.2⟩

/-! ## STARVED, retirement and release -/

/-- Clearing the flags touches the orders and the clear-seen mark alone (R87, R88). -/
theorem clearStarved_eq (s : State) :
    clearStarved s =
      { s with
        orders := Table.change s.orders fun _ o => o.unstarved
        engine := if s.engine.state = .idle then s.engine else { s.engine with clearSeen := true } } := by
  unfold clearStarved markClearSeen Engine.scanning
  by_cases h : s.engine.state = .idle <;> simp [h]

/-- A task retiring leaves the pool and clears the flags (R117). -/
theorem retireTask_tasks (n : Nat) (s : State) :
    (retireTask n s).tasks = s.tasks.filter fun t => decide (t.number ≠ n) := by
  simp [retireTask, clearStarved_eq]

/-- Removing a pack touches the pack records alone (R8). -/
theorem removeFromStack_frame (tag : Nat) (s : State) : ∃ p, removeFromStack tag s = { s with packs := p } := by
  unfold removeFromStack
  split
  · exact ⟨s.packs, rfl⟩
  · exact ⟨_, rfl⟩

/-- Withdrawing a SHIFT touches packs, tasks, stations, orders and the clear-seen mark alone. -/
theorem withdrawShift_frame (s : State) (t : Task) :
    ∃ p k n o e, withdrawShift s t = { s with packs := p, tasks := k, stations := n, orders := o, engine := e } := by
  unfold withdrawShift withdraw retireTask
  rw [clearStarved_eq]
  cases h : t.station
  · exact ⟨_, _, s.stations, _, _, rfl⟩
  · exact ⟨_, _, _, _, _, rfl⟩

/-- Releasing the SHIFT tasks of a pack touches the same. -/
theorem releaseShifts_frame (tag : Nat) (s : State) :
    ∃ p k n o e,
      releaseShifts tag s = { s with packs := p, tasks := k, stations := n, orders := o, engine := e } := by
  unfold releaseShifts
  generalize shiftsToWithdraw s tag = l
  induction l generalizing s with
  | nil => exact ⟨s.packs, s.tasks, s.stations, s.orders, s.engine, rfl⟩
  | cons t l ih =>
    obtain ⟨p, k, n, o, e, h⟩ := withdrawShift_frame s t
    obtain ⟨p', k', n', o', e', h'⟩ := ih (withdrawShift s t)
    refine ⟨p', k', n', o', e', ?_⟩
    rw [List.foldl_cons, h', h]

/-- A removal keeps the record of the pack it takes off its stack (R8). -/
theorem removeFromStack_get {s : State} {tag : Nat} {p : Pack} (h : Table.get s.packs tag = some p) :
    ∃ q, Table.get (removeFromStack tag s).packs tag = some q := by
  cases hl : p.location with
  | none => exact ⟨p, by simp [removeFromStack, h, hl]⟩
  | some l =>
    exact ⟨{ p.settle l with location := none },
      by simp [removeFromStack, h, hl, Table.get_update_self, Table.get_change]⟩

/-! ## Put-downs and wettings -/

/-- The checks of R6 take a put-down exactly as `Safety.putDownTaken` says. -/
theorem putDownCheck_taken {s : State} {b k : Nat} (h : Safety.putDownTaken s b k) (disabled : Status) :
    putDownCheck s b k disabled = none := by
  obtain ⟨h1, h2, h3, h4, h5⟩ := h
  simp only [putDownCheck]
  rw [if_neg (by omega), if_neg (by simp [h3]), if_neg h4, if_neg (by simp [h5])]

/-- The checks of R6 refuse a put-down as `Safety.putDownRefused` says. -/
theorem putDownCheck_refused {s : State} {b k : Nat} {disabled status : Status}
    (h : Safety.putDownRefused s b k disabled status) : putDownCheck s b k disabled = some status := by
  simp only [putDownCheck]
  rcases h with ⟨h1, rfl⟩ | ⟨h1, h2, ⟨h3, rfl⟩ | ⟨h3, h4, rfl⟩ | ⟨h3, h4, h5, rfl⟩⟩
  · rw [if_pos (by omega)]
  · rw [if_neg (by omega), if_pos h3]
  · rw [if_neg (by omega), if_neg (by simp [h3]), if_pos h4]
  · rw [if_neg (by omega), if_neg (by simp [h3]), if_neg h4, if_pos h5]

/-- The judgement of R154 releases exactly where `Safety.wettingReleases` says. -/
theorem wettingReleases_iff (s : State) (tag : Nat) (r : LineRef) :
    Safety.wettingReleases s tag r ↔ lineNeedsKiln s r = true ∧ fetchUntaken s tag = true := by
  refine and_congr ?_ ?_
  · simp only [lineNeedsKiln, State.orderLine, State.order]
    cases ho : Table.get s.orders r.handle with
    | none => simp
    | some o => cases hl : nth o.lines r.line <;> simp [hl]
  · simp only [fetchUntaken, fetchOf]
    cases hf : s.tasks.find? (fun t => decide (t.subject = tag) && t.isFetch) <;> simp

/-! ## Lists numbered from 1 -/

theorem length_changeNth {α : Type} (l : List α) (n : Nat) (f : α → α) : (changeNth l n f).length = l.length := by
  unfold changeNth
  split_ifs <;> simp

theorem nth_changeNth_self {α : Type} (l : List α) (n : Nat) (f : α → α) :
    nth (changeNth l n f) n = (nth l n).map f := by
  unfold nth changeNth
  split_ifs <;> simp

/-! ## Visits -/

/-- A visited pack is in the state the pass looks for (R92, R97). -/
theorem firstVisit_sought (s : State) (item : LineItem) :
    ∀ fuel pos v, firstVisit s item fuel pos = some v → v.pack.state = soughtState s := by
  intro fuel
  induction fuel with
  | zero => intro pos v h; simp [firstVisit] at h
  | succ n ih =>
    intro pos v h
    unfold firstVisit at h
    split at h
    · simp at h
    · split at h
      · exact ih _ _ h
      · rename_i code hc x e l he
        have hm : e ∈ visitable s code := by rw [he]; simp
        simp [visitable] at hm
        cases h
        exact hm.2

theorem nextVisit_sought (s : State) (item : LineItem) (v : Visit) (h : nextVisit s item = some v) :
    v.pack.state = soughtState s := by
  unfold nextVisit at h
  split at h
  · exact firstVisit_sought _ _ _ _ _ h
  · split at h
    · rename_i e he
      have hm := List.mem_of_find?_eq_some he
      simp [visitable] at hm
      cases h
      exact hm.2
    · exact firstVisit_sought _ _ _ _ _ h

end Sys2Proof.Machine
end

