-- ==== Sys2Proof/Laws/PerInstr.lean ====
section
/-!
SUPPORT. One fact for each command: a well-formed request's payload fits a frame, its family is one of the eight, and
its station field is one its family allows (R171, R172, R176). An event is no request, so it has nothing to show.
-/

namespace Sys2Proof.Laws.Fits

/-- What a well-formed request keeps to on the wire. -/
def Statement (c : Instr) : Prop :=
  c.isRequest = true → c.wellFormed = true →
    c.payload.length ≤ 60 ∧ familyOf c.requestCode ≤ 7 ∧
      stationAllowed (familyOf c.requestCode) c.stationField = true

/-- The eleven bytes of each line. -/
theorem length_lines (lines : List LineItem) : (lines.flatMap lineBytes).length = 11 * lines.length := by
  induction lines with
  | nil => rfl
  | cons l ls ih =>
    rw [List.flatMap_cons, List.length_append, ih]
    have h : (lineBytes l).length = 11 := by
      unfold lineBytes windowBytes
      cases l.window <;> rfl
    rw [h, List.length_cons]
    omega

/-- The station field of family 5. -/
theorem family5 {c : Instr} (code : Nat) {n : Nat} (hc : c.requestCode = code) (hn : c.stationField = n)
    (hf : code / 16 = 5) (h : stationFits n = true) :
    familyOf c.requestCode ≤ 7 ∧ stationAllowed (familyOf c.requestCode) c.stationField = true := by
  rw [hc, hn]
  refine ⟨by rw [familyOf, hf]; decide, ?_⟩
  simpa [stationAllowed, familyOf, hf, stationFits] using h

/-- The station field of every other family. -/
theorem plain {c : Instr} (code : Nat) (hc : c.requestCode = code) (hn : c.stationField = 0) (hf : code / 16 ≤ 7)
    (h5 : code / 16 ≠ 5) :
    familyOf c.requestCode ≤ 7 ∧ stationAllowed (familyOf c.requestCode) c.stationField = true := by
  rw [hc, hn]
  exact ⟨hf, by simp [stationAllowed, familyOf, h5]⟩

theorem statusSummary : Statement (.statusSummary) := by
  intro _ _
  exact ⟨Nat.le_of_ble_eq_true rfl, plain 0x00 rfl rfl (by decide) (by decide)⟩

theorem getCapacities : Statement (.getCapacities) := by
  intro _ _
  exact ⟨Nat.le_of_ble_eq_true rfl, plain 0x01 rfl rfl (by decide) (by decide)⟩

theorem getFamilies : Statement (.getFamilies) := by
  intro _ _
  exact ⟨Nat.le_of_ble_eq_true rfl, plain 0x02 rfl rfl (by decide) (by decide)⟩

theorem fetchEvents : Statement (.fetchEvents) := by
  intro _ _
  exact ⟨Nat.le_of_ble_eq_true rfl, plain 0x03 rfl rfl (by decide) (by decide)⟩

theorem setEventEnables (set : Option (BitVec 24)) : Statement (.setEventEnables set) := by
  intro _ _
  exact ⟨by cases set <;> exact Nat.le_of_ble_eq_true rfl, plain 0x04 rfl rfl (by decide) (by decide)⟩

theorem setBay (bay : Nat) (enabled covered : Bool) (row col stackCount tierLimit : Nat) :
    Statement (.setBay bay enabled covered row col stackCount tierLimit) := by
  intro _ _
  exact ⟨Nat.le_of_ble_eq_true rfl, plain 0x10 rfl rfl (by decide) (by decide)⟩

theorem readBay (bay : Nat) : Statement (.readBay bay) := by
  intro _ _
  exact ⟨Nat.le_of_ble_eq_true rfl, plain 0x11 rfl rfl (by decide) (by decide)⟩

theorem setLoadingPoint (write : Option PointWrite) : Statement (.setLoadingPoint write) := by
  intro _ _
  exact ⟨by cases write <;> exact Nat.le_of_ble_eq_true rfl, plain 0x12 rfl rfl (by decide) (by decide)⟩

theorem setLine (write : Option LineWrite) : Statement (.setLine write) := by
  intro _ _
  refine ⟨?_, plain 0x13 rfl rfl (by decide) (by decide)⟩
  rcases write with _ | ⟨line, setting, auto⟩
  · exact Nat.le_of_ble_eq_true rfl
  · cases auto <;> exact Nat.le_of_ble_eq_true rfl

theorem setTimers (write : Option TimerSettings) : Statement (.setTimers write) := by
  intro _ _
  exact ⟨by cases write <;> exact Nat.le_of_ble_eq_true rfl, plain 0x14 rfl rfl (by decide) (by decide)⟩

theorem setWeights (write : Option Weights) : Statement (.setWeights write) := by
  intro _ _
  exact ⟨by cases write <;> exact Nat.le_of_ble_eq_true rfl, plain 0x15 rfl rfl (by decide) (by decide)⟩

theorem setDay (day : Option Nat) : Statement (.setDay day) := by
  intro _ _
  exact ⟨by cases day <;> exact Nat.le_of_ble_eq_true rfl, plain 0x16 rfl rfl (by decide) (by decide)⟩

theorem closeYard : Statement (.closeYard) := by
  intro _ _
  exact ⟨Nat.le_of_ble_eq_true rfl, plain 0x17 rfl rfl (by decide) (by decide)⟩

theorem openYard : Statement (.openYard) := by
  intro _ _
  exact ⟨Nat.le_of_ble_eq_true rfl, plain 0x18 rfl rfl (by decide) (by decide)⟩

theorem clearYard : Statement (.clearYard) := by
  intro _ _
  exact ⟨Nat.le_of_ble_eq_true rfl, plain 0x19 rfl rfl (by decide) (by decide)⟩

theorem clearYardEnd : Statement (.clearYardEnd) := by
  intro h; cases h

theorem setProduct (code : Nat) (defined : Bool) (fields : ProductFields) :
    Statement (.setProduct code defined fields) := by
  intro _ _
  exact ⟨Nat.le_of_ble_eq_true rfl, plain 0x20 rfl rfl (by decide) (by decide)⟩

theorem readProduct (code : Nat) : Statement (.readProduct code) := by
  intro _ _
  exact ⟨Nat.le_of_ble_eq_true rfl, plain 0x21 rfl rfl (by decide) (by decide)⟩

theorem setSubstitutes (code : Nat) (codes : List Nat) : Statement (.setSubstitutes code codes) := by
  intro _ h
  simp only [Instr.wellFormed, Bool.and_eq_true, decide_eq_true_eq] at h
  refine ⟨?_, plain 0x22 rfl rfl (by decide) (by decide)⟩
  simp only [Instr.payload, List.length_cons, List.length_map]
  omega

theorem receivePack (tag product length count mass : Nat) (drying : Drying) (bay stack : Nat) (ready : Option Nat) :
    Statement (.receivePack tag product length count mass drying bay stack ready) := by
  intro _ _
  exact ⟨by cases ready <;> exact Nat.le_of_ble_eq_true rfl, plain 0x30 rfl rfl (by decide) (by decide)⟩

theorem readPack (tag : Nat) : Statement (.readPack tag) := by
  intro _ _
  exact ⟨Nat.le_of_ble_eq_true rfl, plain 0x31 rfl rfl (by decide) (by decide)⟩

theorem readStack (bay stack : Nat) : Statement (.readStack bay stack) := by
  intro _ _
  exact ⟨Nat.le_of_ble_eq_true rfl, plain 0x32 rfl rfl (by decide) (by decide)⟩

theorem recordMove (tag bay stack : Nat) : Statement (.recordMove tag bay stack) := by
  intro _ _
  exact ⟨Nat.le_of_ble_eq_true rfl, plain 0x33 rfl rfl (by decide) (by decide)⟩

theorem holdPack (tag : Nat) : Statement (.holdPack tag) := by
  intro _ _
  exact ⟨Nat.le_of_ble_eq_true rfl, plain 0x34 rfl rfl (by decide) (by decide)⟩

theorem releasePack (tag : Nat) (place : Option (Nat × Nat)) : Statement (.releasePack tag place) := by
  intro _ _
  exact ⟨by cases place <;> exact Nat.le_of_ble_eq_true rfl, plain 0x35 rfl rfl (by decide) (by decide)⟩

theorem scrapPack (tag : Nat) : Statement (.scrapPack tag) := by
  intro _ _
  exact ⟨Nat.le_of_ble_eq_true rfl, plain 0x36 rfl rfl (by decide) (by decide)⟩

theorem clearWetted (tag bay : Option Nat) : Statement (.clearWetted tag bay) := by
  intro _ _
  exact ⟨by cases tag <;> cases bay <;> exact Nat.le_of_ble_eq_true rfl, plain 0x37 rfl rfl (by decide) (by decide)⟩

theorem findOldest (code : Nat) (after : Option Nat) : Statement (.findOldest code after) := by
  intro _ _
  exact ⟨by cases after <;> exact Nat.le_of_ble_eq_true rfl, plain 0x38 rfl rfl (by decide) (by decide)⟩

theorem checkIn (truck level payload : Nat) (supervised : Bool) (lines : List LineItem) :
    Statement (.checkIn truck level payload supervised lines) := by
  intro _ h
  simp only [Instr.wellFormed, Bool.and_eq_true, decide_eq_true_eq] at h
  refine ⟨?_, plain 0x40 rfl rfl (by decide) (by decide)⟩
  simp only [Instr.payload, List.length_append, length_lines, be2, List.length_cons, List.length_nil]
  omega

theorem readOrder (handle truck : Option Nat) : Statement (.readOrder handle truck) := by
  intro _ _
  exact ⟨by cases handle <;> cases truck <;> exact Nat.le_of_ble_eq_true rfl,
    plain 0x41 rfl rfl (by decide) (by decide)⟩

theorem setPoint (handle point : Nat) : Statement (.setPoint handle point) := by
  intro _ _
  exact ⟨Nat.le_of_ble_eq_true rfl, plain 0x42 rfl rfl (by decide) (by decide)⟩

theorem setLevel (handle level : Nat) : Statement (.setLevel handle level) := by
  intro _ _
  exact ⟨Nat.le_of_ble_eq_true rfl, plain 0x43 rfl rfl (by decide) (by decide)⟩

theorem cancel (handle : Nat) : Statement (.cancel handle) := by
  intro _ _
  exact ⟨Nat.le_of_ble_eq_true rfl, plain 0x44 rfl rfl (by decide) (by decide)⟩

theorem depart (handle : Nat) : Statement (.depart handle) := by
  intro _ _
  exact ⟨Nat.le_of_ble_eq_true rfl, plain 0x45 rfl rfl (by decide) (by decide)⟩

theorem confirmProposal (handle tag : Nat) : Statement (.confirmProposal handle tag) := by
  intro _ _
  exact ⟨Nat.le_of_ble_eq_true rfl, plain 0x46 rfl rfl (by decide) (by decide)⟩

theorem rejectProposal (handle tag : Nat) : Statement (.rejectProposal handle tag) := by
  intro _ _
  exact ⟨Nat.le_of_ble_eq_true rfl, plain 0x47 rfl rfl (by decide) (by decide)⟩

theorem goOnShift (station capacity : Nat) : Statement (.goOnShift station capacity) := by
  intro _ h
  simp only [Instr.wellFormed, Bool.and_eq_true] at h
  exact ⟨Nat.le_of_ble_eq_true rfl, family5 0x50 rfl rfl (by decide) h.1⟩

theorem goOffShift (station : Nat) : Statement (.goOffShift station) := by
  intro _ h
  exact ⟨Nat.le_of_ble_eq_true rfl, family5 0x51 rfl rfl (by decide) h⟩

theorem pollTask (station : Nat) : Statement (.pollTask station) := by
  intro _ h
  exact ⟨Nat.le_of_ble_eq_true rfl, family5 0x52 rfl rfl (by decide) h⟩

theorem accept (station task : Nat) : Statement (.accept station task) := by
  intro _ h
  simp only [Instr.wellFormed, Bool.and_eq_true] at h
  exact ⟨Nat.le_of_ble_eq_true rfl, family5 0x53 rfl rfl (by decide) h.1⟩

theorem decline (station task : Nat) : Statement (.decline station task) := by
  intro _ h
  simp only [Instr.wellFormed, Bool.and_eq_true] at h
  exact ⟨Nat.le_of_ble_eq_true rfl, family5 0x54 rfl rfl (by decide) h.1⟩

theorem lifted (station tag : Nat) : Statement (.lifted station tag) := by
  intro _ h
  simp only [Instr.wellFormed, Bool.and_eq_true] at h
  exact ⟨Nat.le_of_ble_eq_true rfl, family5 0x55 rfl rfl (by decide) h.1⟩

theorem dropped (station : Nat) (dest : Destination) : Statement (.dropped station dest) := by
  intro _ h
  cases dest with
  | truck => exact ⟨Nat.le_of_ble_eq_true rfl, family5 0x56 rfl rfl (by decide) h⟩
  | stack b k =>
    refine ⟨Nat.le_of_ble_eq_true rfl, family5 0x56 rfl rfl (by decide) ?_⟩
    simp only [Instr.wellFormed, Bool.and_eq_true] at h
    exact h.1.1

theorem reportMissing (station : Nat) : Statement (.reportMissing station) := by
  intro _ h
  exact ⟨Nat.le_of_ble_eq_true rfl, family5 0x57 rfl rfl (by decide) h⟩

theorem reportPosition (station bay : Nat) : Statement (.reportPosition station bay) := by
  intro _ h
  simp only [Instr.wellFormed, Bool.and_eq_true] at h
  exact ⟨Nat.le_of_ble_eq_true rfl, family5 0x58 rfl rfl (by decide) h.1⟩

theorem setWatch (entry : Nat) (field : WatchField) (value mask : Nat) (oneShot : Bool) :
    Statement (.setWatch entry field value mask oneShot) := by
  intro _ _
  exact ⟨Nat.le_of_ble_eq_true rfl, plain 0x60 rfl rfl (by decide) (by decide)⟩

theorem readWatch (entry : Option Nat) : Statement (.readWatch entry) := by
  intro _ _
  exact ⟨by cases entry <;> exact Nat.le_of_ble_eq_true rfl, plain 0x61 rfl rfl (by decide) (by decide)⟩

theorem clearWatch (entry : Nat) : Statement (.clearWatch entry) := by
  intro _ _
  exact ⟨Nat.le_of_ble_eq_true rfl, plain 0x62 rfl rfl (by decide) (by decide)⟩

theorem restart : Statement (.restart) := by
  intro _ _
  exact ⟨Nat.le_of_ble_eq_true rfl, plain 0x70 rfl rfl (by decide) (by decide)⟩

theorem requestPeriod (bytes : List Byte) (start : PeriodStart) : Statement (.requestPeriod bytes start) := by
  intro h; cases h

theorem readPeriod (clocked : Nat) (start : PeriodStart) (supply : SupplyStatus) :
    Statement (.readPeriod clocked start supply) := by
  intro h; cases h

theorem powerOn (batteryHeld : Bool) (supply : SupplyStatus) : Statement (.powerOn batteryHeld supply) := by
  intro h; cases h

theorem resetPin (supply : SupplyStatus) : Statement (.resetPin supply) := by
  intro h; cases h

theorem partStop (cause : StopCause) (progress : CheckProgress) (damaged : BitVec 6) :
    Statement (.partStop cause progress damaged) := by
  intro h; cases h

theorem startupCheckEnd (damaged : BitVec 6) : Statement (.startupCheckEnd damaged) := by
  intro h; cases h

theorem supplyDip : Statement (.supplyDip) := by
  intro h; cases h

theorem supplyRecovery : Statement (.supplyRecovery) := by
  intro h; cases h

theorem pinChange (pin : Nat) (high : Bool) : Statement (.pinChange pin high) := by
  intro h; cases h

theorem debounceExpiry (line : Nat) : Statement (.debounceExpiry line) := by
  intro h; cases h

theorem wettingSweepStack : Statement (.wettingSweepStack) := by
  intro h; cases h

theorem scanStart : Statement (.scanStart) := by
  intro h; cases h

theorem firstPassVisit : Statement (.firstPassVisit) := by
  intro h; cases h

theorem secondPassVisit : Statement (.secondPassVisit) := by
  intro h; cases h

theorem passEnd : Statement (.passEnd) := by
  intro h; cases h

theorem taskOffer : Statement (.taskOffer) := by
  intro h; cases h

theorem offerLapse (task : Nat) : Statement (.offerLapse task) := by
  intro h; cases h

theorem taskLapse (task : Nat) : Statement (.taskLapse task) := by
  intro h; cases h

theorem carryOverdue (task : Nat) : Statement (.carryOverdue task) := by
  intro h; cases h

theorem proposalExpiry (handle : Nat) : Statement (.proposalExpiry handle) := by
  intro h; cases h

end Sys2Proof.Laws.Fits
end

