-- ==== Sys2Proof/Laws/Walks.lean ====
section
/-!
SUPPORT. What the views of the pack records hold: the stack lists and the stacks in order (R5, R152), the product
chains (R34), the packs a pass looks for and the series of chains it walks (R89, R92, R97), the records a claim
changed (R162), what the creation of a reservation's SHIFT tasks does (R102, R117), and what the laws between the
records read.
-/

namespace Sys2Proof.Machine

/-! ## Stacks -/

/-- A stack list holds the packs whose location names the stack (R5). -/
theorem mem_stackList {s : State} {b k : Nat} {e : Nat × Pack} :
    e ∈ stackList s b k ↔ e ∈ s.packs ∧ ∃ i, e.2.location = some ⟨b, k, i⟩ := by
  unfold stackList
  rw [mem_sortBy, List.mem_filter]
  refine and_congr_right fun _ => ?_
  unfold Pack.inStack
  cases e.2.location with
  | none => simp
  | some l => cases l; simp

/-- The list of all stacks names each stack there is. -/
theorem mem_allStacks (s : State) (b k : Nat) : (b, k) ∈ allStacks s ↔ b ≤ 63 ∧ k < (s.bay b).stackCount := by
  unfold allStacks
  simp [Config.bayCount]
  omega

/-- The list of all stacks goes by bay and stack number (R152). -/
theorem allStacks_pairwise (s : State) :
    (allStacks s).Pairwise fun x y => x.1 < y.1 ∨ (x.1 = y.1 ∧ x.2 < y.2) := by
  unfold allStacks
  rw [List.pairwise_flatMap]
  refine ⟨fun b _ => ?_, ?_⟩
  · rw [List.pairwise_map]
    exact List.pairwise_lt_range.imp fun h => Or.inr ⟨rfl, h⟩
  · refine List.pairwise_lt_range.imp fun {a b} h => ?_
    intro x hx y hy
    simp at hx hy
    obtain ⟨i, _, rfl⟩ := hx
    obtain ⟨j, _, rfl⟩ := hy
    exact Or.inl h

/-! ## Chains and walks -/

theorem follows_asymm (a b : Nat × Pack) :
    Safety.follows a.2.received a.1 b → ¬ Safety.follows b.2.received b.1 a := by
  unfold Safety.follows
  omega

/-- The chain the machine computes is the chain of R34. -/
theorem chainIs_chain {s : State} (hr : Table.rising s.packs) (code : Nat) :
    Safety.chainIs s code (chain s code) := by
  refine ⟨fun e => ?_, ?_⟩
  · unfold chain
    rw [mem_sortBy, List.mem_filter]
    simp
  · have hl : (s.packs.filter fun e => decide (e.2.product = code) && e.2.location.isSome).Pairwise
        fun a b : Nat × Pack => a.1 < b.1 := List.Pairwise.filter _ hr
    unfold chain sortBy
    generalize (s.packs.filter fun e => decide (e.2.product = code) && e.2.location.isSome) = l at hl
    induction l with
    | nil => simp
    | cons x xs ih =>
      rw [List.pairwise_cons] at hl
      rw [List.foldr_cons]
      refine insertBy_pairwise ?_ (ih hl.2) ?_ ?_
      · intro a b c
        unfold Safety.follows
        omega
      · intro y _ h
        simpa [chainBefore, Safety.follows] using h
      · intro y hy h
        have hxy := hl.1 y ((mem_sortBy chainBefore xs y).mp hy)
        simp [chainBefore] at h
        unfold Safety.follows
        omega

/-- The codes of a pass's series are those the substitute list gives (R89). -/
theorem codeAt_iff (s : State) (item : LineItem) (position code : Nat) :
    codeAt s item position = some code ↔ Safety.inSeries s item position code := by
  unfold Safety.inSeries
  cases position with
  | zero =>
    constructor
    · intro h
      exact Or.inl ⟨rfl, (Option.some.inj h).symm⟩
    · rintro (⟨-, h⟩ | ⟨-, h, -⟩)
      · rw [h]
        rfl
      · omega
  | succ n =>
    show (if item.substitution = true then (s.product item.product).substitutes[n]? else none) = some code ↔ _
    split_ifs with h <;> simp [h]

/-- The packs a pass visits in a chain are those it looks for (R92, R97). -/
theorem mem_visitable {s : State} {code : Nat} {e : Nat × Pack} :
    e ∈ visitable s code ↔ Safety.sought s code e := by
  unfold visitable chain Safety.sought soughtState
  rw [List.mem_filter, mem_sortBy, List.mem_filter]
  simp [and_assoc]

/-- What a search of a chain finds: the first pack it looks for that passes (R91). -/
theorem find_visitable {s : State} (hr : Table.rising s.packs) {code : Nat} {which : Nat × Pack → Prop}
    {p : Nat × Pack → Bool} (hp : ∀ e, p e = true ↔ which e) (e : Nat × Pack) :
    (visitable s code).find? p = some e ↔ Safety.firstSought s code which e := by
  have hl : (visitable s code).Pairwise fun e f => Safety.follows e.2.received e.1 f :=
    List.Pairwise.filter _ (chainIs_chain hr code).2
  rw [find?_pairwise p follows_asymm e _ hl]
  unfold Safety.firstSought
  simp only [mem_visitable, hp]

/-! ## The records a claim changed -/

/-- The tags compared at a claim's end are those whose records it altered (R162). -/
theorem mem_changedTags (before after : Table Pack) (tag : Nat) :
    tag ∈ changedTags before after ↔ Table.get before tag ≠ Table.get after tag := by
  unfold changedTags
  rw [List.mem_filter, mem_mergeNats]
  simp only [decide_eq_true_eq, and_iff_right_iff_imp]
  intro h
  by_contra hc
  rw [not_or] at hc
  exact h ((Table.get_eq_none before hc.1).trans (Table.get_eq_none after hc.2).symm)

/-- They go by tag, each once (R162). -/
theorem changedTags_pairwise (before after : Table Pack) : (changedTags before after).Pairwise (· < ·) :=
  List.Pairwise.filter _ (mergeNats_pairwise _ _)

/-! ## The tasks of a reservation -/

/-- The number of a new task is the lowest free one (R117). -/
theorem freeTaskNumber_spec {s : State} (h : s.tasks.length < 48) :
    1 ≤ freeTaskNumber s ∧ freeTaskNumber s ≤ 48 ∧ freeTaskNumber s ∉ s.tasks.map Task.number ∧
      ∀ n, 1 ≤ n → n < freeTaskNumber s → n ∈ s.tasks.map Task.number := by
  obtain ⟨h1, h2, h3⟩ := lowestFree_spec (s.tasks.map Task.number) Config.taskCapacity 1
    (exists_free _ (by simpa [Config.taskCapacity] using h))
  have h4 := lowestFree_ge (s.tasks.map Task.number) Config.taskCapacity 1
  have h5 : freeTaskNumber s < 1 + 48 := h2
  exact ⟨h4, by omega, h1, h3⟩

/-- The SHIFT tasks of a reservation (R102, R117): one for each pack, in the order given, each with the lowest free
number as it is created; each pack becomes MOVING and names its task, and nothing else changes. -/
theorem createShifts_spec (winner : Nat) : ∀ (tags : List Nat) (s : State), tags.Nodup →
    s.tasks.length + tags.length ≤ 48 → (∀ n ∈ tags, ∃ q, Table.get s.packs n = some q) →
    ∃ (made : List Task) (packs : Table Pack),
      tags.foldl (createShift winner) s = { s with packs := packs, tasks := s.tasks ++ made } ∧
        made.map (fun u => { u with number := 0 }) =
          tags.map (fun n => (⟨0, .shift winner, n, .opened, none, none, none, none, none⟩ : Task)) ∧
        (∀ front u back, made = front ++ u :: back →
          1 ≤ u.number ∧ u.number ≤ 48 ∧ u.number ∉ (s.tasks ++ front).map Task.number ∧
            ∀ n, 1 ≤ n → n < u.number → n ∈ (s.tasks ++ front).map Task.number) ∧
        (∀ u ∈ made, ∃ q, Table.get packs u.subject = some q ∧ q.task = some u.number) ∧
        (∀ n ∈ tags, ∃ k,
          Table.get packs n = (Table.get s.packs n).map fun q => { q with state := .moving, task := k }) ∧
        ∀ n, n ∉ tags → Table.get packs n = Table.get s.packs n := by
  intro tags
  induction tags with
  | nil =>
    intro s _ _ _
    exact ⟨[], s.packs, by simp, by simp, by simp, by simp, by simp, by simp⟩
  | cons x xs ih =>
    intro s hn hl hg
    rw [List.nodup_cons] at hn
    simp at hl
    obtain ⟨q0, hq0⟩ := hg x (by simp)
    have hsp := freeTaskNumber_spec (s := s) (by omega)
    have hother : ∀ n, n ≠ x → Table.get (createShift winner s x).packs n = Table.get s.packs n := fun n h => by
      simp only [createShift, changePack, addTask]
      rw [Table.get_update_other _ _ h]
    have hself : Table.get (createShift winner s x).packs x =
        (Table.get s.packs x).map fun q => { q with state := .moving, task := some (freeTaskNumber s) } := by
      simp only [createShift, changePack, addTask]
      rw [Table.get_update_self]
    obtain ⟨made, packs, e1, e2, e3, e4, e5, e6⟩ := ih (createShift winner s x) hn.2
      (by simp [createShift, changePack, addTask]; omega)
      (fun n hm => by
        obtain ⟨q, hq⟩ := hg n (by simp [hm])
        exact ⟨q, by rw [hother n (fun h => hn.1 (h ▸ hm)), hq]⟩)
    refine ⟨⟨freeTaskNumber s, .shift winner, x, .opened, none, none, none, none, none⟩ :: made, packs, ?_, ?_, ?_,
      ?_, ?_, ?_⟩
    · rw [List.foldl_cons, e1]
      simp [createShift, changePack, addTask]
    · simp [e2]
    · intro front u back h
      cases front with
      | nil =>
        simp at h
        obtain ⟨rfl, -⟩ := h
        simpa using hsp
      | cons y ys =>
        simp at h
        obtain ⟨rfl, h⟩ := h
        have hu := e3 ys u back h
        simp only [createShift, changePack, addTask, List.append_assoc, List.singleton_append] at hu
        exact hu
    · intro u hu
      rcases List.mem_cons.mp hu with rfl | hu
      · exact ⟨_, (e6 x hn.1).trans (by rw [hself, hq0]; rfl), rfl⟩
      · exact e4 u hu
    · intro n hm
      rcases List.mem_cons.mp hm with rfl | hm
      · exact ⟨_, (e6 _ hn.1).trans hself⟩
      · obtain ⟨k, hk⟩ := e5 n hm
        exact ⟨k, by rw [hk, hother n (fun h => hn.1 (h ▸ hm))]⟩
    · intro n hm
      simp at hm
      rw [e6 n hm.2, hother n hm.1]

/-! ## The laws between the records -/

/-- What the laws between the records read: packs, tasks, stations and orders, whether a start-up check runs, and the
port while a CLEAR_YARD runs. -/
theorem workLaw_of_records {s t : State} (hp : t.packs = s.packs) (hk : t.tasks = s.tasks)
    (hn : t.stations = s.stations) (ho : t.orders = s.orders) (hs : t.port = .starting ↔ s.port = .starting)
    (hc : t.clearing = true → s.clearing = true ∧ t.port = s.port) (h : Safety.workLaw s) : Safety.workLaw t := by
  obtain ⟨h1, h2, h3, h4, h5⟩ := h
  refine ⟨?_, ?_, fun h => ?_, fun h => ?_, fun h => ?_⟩
  · simpa only [Safety.placeLaw, hp] using h1
  · simpa only [Safety.stationLaw, Safety.stationAgrees, State.station, hk, hn] using h2
  · rw [ho, hk]
    exact h3 (hs.mp h)
  · obtain ⟨a, b⟩ := hc h
    rw [ho, hk, b]
    exact h4 a
  · obtain ⟨a, b, c⟩ := h5 (fun e => h (hs.mpr e))
    refine ⟨?_, ?_, ?_⟩
    · simpa only [Safety.linkLaw, hp, hk] using a
    · simpa only [Safety.digLaw, hp, hk] using b
    · simpa only [Safety.countLaw, Safety.packsOfOrder, Safety.packsOfLine, hp, ho] using c

end Sys2Proof.Machine
end

