-- ==== Sys2Proof/Tests/Slice0.lean ====
section
/-!
SUPPORT. The model's own tests: ill-formed commands the check refuses, frames written out from the spec's layouts, one
or two small facts for each command on a small yard, and, for each statement with hypotheses, a state and operands
that meet them clause by clause.
-/

namespace Sys2Proof.Tests

open Sys2Proof.Machine Sys2Proof.Safety

/-! ## WellFormed: one ill-formed term for each check -/

theorem test_illformed_inquiry_yard :
    [Instr.setBay 256 true true 0 0 1 6, .setBay 0 true true 256 0 1 6, .setBay 0 true true 0 256 1 6,
      .setBay 0 true true 0 0 256 6, .setBay 0 true true 0 0 1 256, .readBay 256,
      .setLoadingPoint (some ⟨256, 0, 0, true⟩), .setLoadingPoint (some ⟨1, 256, 0, true⟩),
      .setLoadingPoint (some ⟨1, 0, 256, true⟩), .setLine (some ⟨256, ⟨true, true, 0, 100⟩, none⟩),
      .setLine (some ⟨0, ⟨true, true, 256, 100⟩, none⟩), .setLine (some ⟨0, ⟨true, true, 0, 65536⟩, none⟩),
      .setTimers (some ⟨65536, 0, 0, 0⟩), .setTimers (some ⟨0, 65536, 0, 0⟩), .setTimers (some ⟨0, 0, 65536, 0⟩),
      .setTimers (some ⟨0, 0, 0, 65536⟩), .setWeights (some ⟨256, 0, 0, 0⟩), .setWeights (some ⟨0, 256, 0, 0⟩),
      .setWeights (some ⟨0, 0, 256, 0⟩), .setWeights (some ⟨0, 0, 0, 256⟩), .setDay (some 65536)].all
      (fun c => !c.wellFormed) = true := by decide

theorem test_illformed_product_pack :
    [Instr.setProduct 256 true ⟨0, 0, 0, 0, false, 0⟩, .setProduct 1 true ⟨256, 0, 0, 0, false, 0⟩,
      .setProduct 1 true ⟨0, 256, 0, 0, false, 0⟩, .setProduct 1 true ⟨0, 0, 65536, 0, false, 0⟩,
      .setProduct 1 true ⟨0, 0, 0, 65536, false, 0⟩, .setProduct 1 true ⟨0, 0, 0, 0, false, 65536⟩,
      .readProduct 256, .setSubstitutes 256 [], .setSubstitutes 1 [2, 3, 4, 5], .setSubstitutes 1 [256],
      .receivePack 16777216 0 0 0 0 .kiln 0 0 none, .receivePack 1 256 0 0 0 .kiln 0 0 none,
      .receivePack 1 0 256 0 0 .kiln 0 0 none, .receivePack 1 0 0 65536 0 .kiln 0 0 none,
      .receivePack 1 0 0 0 65536 .kiln 0 0 none, .receivePack 1 0 0 0 0 .kiln 256 0 none,
      .receivePack 1 0 0 0 0 .kiln 0 256 none, .receivePack 1 0 0 0 0 .air 0 0 (some 65536), .readPack 16777216,
      .readStack 256 0, .readStack 0 256, .recordMove 16777216 0 0, .recordMove 1 256 0, .recordMove 1 0 256,
      .holdPack 16777216, .releasePack 16777216 none, .releasePack 16777216 (some (0, 0)),
      .releasePack 1 (some (256, 0)), .releasePack 1 (some (0, 256)), .scrapPack 16777216,
      .clearWetted (some 16777216) none, .clearWetted none (some 256), .clearWetted none none,
      .clearWetted (some 1) (some 1), .findOldest 256 none, .findOldest 256 (some 1),
      .findOldest 1 (some 16777216)].all (fun c => !c.wellFormed) = true := by decide

theorem test_illformed_order :
    [Instr.checkIn 65536 0 0 true [⟨0, 0, 0, 0, none, true, 0⟩], .checkIn 1 256 0 true [⟨0, 0, 0, 0, none, true, 0⟩],
      .checkIn 1 0 65536 true [⟨0, 0, 0, 0, none, true, 0⟩], .checkIn 1 0 0 true [],
      .checkIn 1 0 0 true (List.replicate 5 ⟨0, 0, 0, 0, none, true, 0⟩),
      .checkIn 1 0 0 true [⟨256, 0, 0, 0, none, true, 0⟩], .checkIn 1 0 0 true [⟨0, 256, 0, 0, none, true, 0⟩],
      .checkIn 1 0 0 true [⟨0, 0, 256, 0, none, true, 0⟩], .checkIn 1 0 0 true [⟨0, 0, 0, 256, none, true, 0⟩],
      .checkIn 1 0 0 true [⟨0, 0, 0, 0, none, true, 256⟩],
      .checkIn 1 0 0 true [⟨0, 0, 0, 0, some ⟨256, 0, 0, 0⟩, true, 0⟩],
      .checkIn 1 0 0 true [⟨0, 0, 0, 0, some ⟨0, 256, 0, 0⟩, true, 0⟩],
      .checkIn 1 0 0 true [⟨0, 0, 0, 0, some ⟨0, 0, 256, 0⟩, true, 0⟩],
      .checkIn 1 0 0 true [⟨0, 0, 0, 0, some ⟨0, 0, 0, 256⟩, true, 0⟩], .readOrder (some 256) none,
      .readOrder none (some 65536), .readOrder (some 1) (some 1), .setPoint 256 1, .setPoint 1 256, .setLevel 256 0,
      .setLevel 1 256, .cancel 256, .depart 256, .confirmProposal 256 1, .confirmProposal 1 16777216,
      .rejectProposal 256 1, .rejectProposal 1 16777216].all (fun c => !c.wellFormed) = true := by decide

theorem test_illformed_station_watch_event :
    [Instr.goOnShift 0 500, .goOnShift 9 500, .goOnShift 1 65536, .goOffShift 0, .pollTask 9, .accept 0 1,
      .accept 1 256, .decline 9 1, .decline 1 256, .lifted 0 1, .lifted 1 16777216, .dropped 0 .truck,
      .dropped 0 (.stack 0 0), .dropped 1 (.stack 256 0), .dropped 1 (.stack 0 256), .reportMissing 9,
      .reportPosition 0 0, .reportPosition 1 256, .setWatch 256 .bay 0 0 true, .setWatch 1 .bay 256 0 true,
      .setWatch 1 .bay 0 256 true, .readWatch (some 256), .clearWatch 256, .requestPeriod [] .fresh,
      .requestPeriod [0#8] .fresh, .requestPeriod [1#8] (.within 2), .readPeriod 0 .fresh .sound,
      .readPeriod 1 (.within 2) .sound,
      .pinChange 16 true, .debounceExpiry 7, .offerLapse 0, .offerLapse 49, .taskLapse 0, .taskLapse 49,
      .carryOverdue 0, .carryOverdue 49, .proposalExpiry 0, .proposalExpiry 33].all (fun c => !c.wellFormed) =
      true := by decide

/-! ## The port's bytes -/

theorem test_no_word_spells_a_command : decodeTableWord 32 0xC3000000 = none := rfl

/-- The spec's example: the check over 1, 0 and 0 is 0x6B. -/
theorem test_check_of_the_example : crc8 [1#8, 0#8, 0#8] = 0x6B#8 := by decide +kernel

/-- The spec's example: STATUS_SUMMARY is 0xC3 and four bytes of 0. -/
theorem test_frame_of_the_example :
    (checkFrame [0xC3#8, 0#8, 0#8, 0#8, 0#8]).map readRequest = some (.ok .statusSummary) := by decide +kernel

/-- GET_CAPACITIES with the example's check. -/
theorem test_frame_capacities :
    (checkFrame [0xC3#8, 1#8, 0#8, 0#8, 0x6B#8]).map readRequest = some (.ok .getCapacities) := by decide +kernel

/-- What a frame with these code, station and payload bytes decodes to. -/
def decoded (code station : Nat) (payload : List Nat) : Except Status Instr := readRequest ⟨code, station, payload⟩

theorem test_decode_yard :
    decoded 0x10 0 [7, 1, 0, 2, 3, 4, 5] = .ok (.setBay 7 true false 2 3 4 5) ∧
      decoded 0x12 0 [2, 14, 3, 1] = .ok (.setLoadingPoint (some ⟨2, 14, 3, true⟩)) ∧
      decoded 0x13 0 [0, 1, 0, 2, 1, 44, 1] = .ok (.setLine (some ⟨0, ⟨true, false, 2, 300⟩, some true⟩)) ∧
      decoded 0x14 0 [0, 30, 2, 88, 3, 132, 0, 120] = .ok (.setTimers (some ⟨30, 600, 900, 120⟩)) ∧
      decoded 0x16 0 [1, 2] = .ok (.setDay (some 258)) := by decide

theorem test_decode_product_pack :
    decoded 0x20 0 [9, 1, 2, 3, 0, 50, 1, 44, 1, 0, 30] = .ok (.setProduct 9 true ⟨2, 3, 50, 300, true, 30⟩) ∧
      decoded 0x22 0 [9, 4, 5] = .ok (.setSubstitutes 9 [4, 5]) ∧
      decoded 0x30 0 [1, 0, 2, 9, 40, 0, 100, 3, 232, 1, 6, 0, 0, 99] =
        .ok (.receivePack 65538 9 40 100 1000 .air 6 0 (some 99)) ∧
      decoded 0x33 0 [0, 1, 0, 6, 1] = .ok (.recordMove 256 6 1) ∧
      decoded 0x37 0 [5] = .ok (.clearWetted none (some 5)) ∧
      decoded 0x38 0 [9, 0, 0, 7] = .ok (.findOldest 9 (some 7)) := by decide

theorem test_decode_order_station_watch :
    decoded 0x40 0 [0, 100, 2, 78, 32, 1, 1, 9, 4, 10, 90, 1, 2, 3, 4, 0, 5] =
        .ok (.checkIn 100 2 20000 true [⟨9, 4, 10, 90, some ⟨1, 2, 3, 4⟩, false, 5⟩]) ∧
      decoded 0x41 0 [1, 0] = .ok (.readOrder none (some 256)) ∧
      decoded 0x46 0 [3, 0, 0, 7] = .ok (.confirmProposal 3 7) ∧
      decoded 0x50 8 [11, 184] = .ok (.goOnShift 8 3000) ∧
      decoded 0x56 2 [6, 1] = .ok (.dropped 2 (.stack 6 1)) ∧
      decoded 0x60 0 [4, 3, 1, 255, 1] = .ok (.setWatch 4 .holdReason 1 255 true) ∧
      decoded 0x70 0 [] = .ok .restart := by decide

/-- Refusals of R172: an unknown command, an unknown family, a station field, a payload form, a mark. -/
theorem test_decode_refusals :
    decoded 0x05 0 [] = .error .unknownRequest ∧ decoded 0x80 0 [] = .error .unknownRequest ∧
      decoded 0x51 0 [] = .error .badField ∧ decoded 0x51 9 [] = .error .badField ∧
      decoded 0x11 1 [0] = .error .badField ∧ decoded 0x11 0 [] = .error .badField ∧
      decoded 0x10 0 [7, 2, 0, 2, 3, 4, 5] = .error .badField := by decide

/-! ## A small yard -/

/-- A pack of product 5. -/
def pack (state : PackState) (location : Option Location) (reservation : Option LineRef) (task : Option Nat)
    (hold : Option HoldReason) : Pack :=
  ⟨5, 40, 100, 1000, 7, .kiln, false, state, location, reservation, task, hold⟩

/-- A line that asks for two packs of product 5 or 6. -/
def item : LineItem := ⟨5, 2, 10, 90, none, true, 5⟩

/-- The packs: 1 under 2, stored; 3 reserved under 8, moving; 4 lifted; 5 loaded; 6 damaged and wet; 7 missing. -/
def packs : Table Pack :=
  [(1, pack .stored (some ⟨0, 0, 0⟩) none none none), (2, pack .stored (some ⟨0, 0, 1⟩) none none none),
    (3, pack .reserved (some ⟨0, 1, 0⟩) (some ⟨1, 1⟩) (some 1) none),
    (4, pack .lifted none (some ⟨1, 1⟩) (some 2) none), (5, pack .loaded none (some ⟨1, 1⟩) none none),
    (6, { pack .held (some ⟨1, 0, 0⟩) none none (some .damaged) with wetted := true }),
    (7, pack .held none none none (some .missing)), (8, pack .moving (some ⟨0, 1, 1⟩) none (some 3) none)]

/-- The orders: 1 at its point, 2 supervised with a proposal that has run out, 3 of the highest level. -/
def orders : Table Order :=
  [(1, ⟨100, 1, .atPoint, some 1, 20000, false, [⟨{ item with quantity := 4 }, 3, 1, false⟩], 3000, none, []⟩),
    (2, ⟨200, 0, .queued, none, 20000, true, [⟨item, 0, 0, false⟩], 0, some ⟨1, 1, 4096, 0⟩, []⟩),
    (3, ⟨300, 2, .queued, none, 20000, false, [⟨item, 0, 0, false⟩], 0, none, []⟩)]

/-- The tasks: the open FETCH of pack 3, the lifted FETCH of pack 4, the accepted SHIFT of pack 8. -/
def tasks : List Task :=
  [⟨1, .fetch ⟨1, 1⟩, 3, .opened, none, none, none, none, none⟩,
    ⟨2, .fetch ⟨1, 1⟩, 4, .lifted, some 2, none, none, none, some 0⟩,
    ⟨3, .shift 3, 8, .accepted, some 3, some (1, 1), none, some 0, none⟩]

/-- An open yard with two bays of two places each in use. -/
def yard : State :=
  { State.reset with
    yardMap :=
      { YardMap.default with
        bays := ⟨true, false, 0, 0, 2, 3⟩ :: ⟨true, true, 0, 1, 2, 3⟩ :: (YardMap.default.bays.drop 2) }
    products :=
      ((List.replicate 256 Product.default).set 5 ⟨true, ⟨1, 2, 50, 150, true, 30⟩, [6]⟩).set 6
        ⟨true, ⟨1, 3, 50, 150, false, 30⟩, []⟩
    packs := packs
    orders := orders
    queue := [3, 1, 2]
    tasks := tasks
    settings := { YardSettings.default with yardDay := 10 }
    stations :=
      [⟨.idle, some 3000, some 0, 0, false⟩, ⟨.busy, some 3000, some 0, 0, false⟩,
        ⟨.busy, some 3000, none, 0, true⟩] ++ List.replicate 5 Station.default
    mode := .opened }

/-- The port executes a request. -/
def busy (c : Instr) (s : State) : State := { s with port := .executing c }

/-- The whole outcome of a request in the small yard is the given state, reply aside. -/
def after (c : Instr) (s : State) : State :=
  match exec c s with
  | .next t => t
  | .fault _ => s
  | .refused _ => s

/-- The status and the reply that wait at the port. -/
def answer (c : Instr) (s : State) : Option (Status × List Byte) :=
  match (after c s).port with
  | .answered r => some (r.status, r.payload)
  | _ => none

/-- The state of a pack. -/
def stateOf (s : State) (tag : Nat) : Option PackState := (Table.get s.packs tag).map Pack.state

theorem yard_laws : keyLaw yard ∧ capacityLaw yard ∧ attnLaw yard ∧ yard.running = true ∧ yard.supply = .sound := by
  unfold keyLaw capacityLaw attnLaw
  decide +kernel

/-! ## Each command once -/

theorem test_inquiry :
    answer .getCapacities yard = some (.ok, [8, 0, 32, 4, 24, 48, 8, 64, 8, 6, 255, 3, 8, 4, 19, 60]) ∧
      answer .getFamilies yard = some (.ok, [255, 5, 10, 3, 9, 8, 9, 3, 1]) ∧
      (answer .statusSummary yard).map (fun a => a.2.length) = some 35 ∧
      (after .fetchEvents yard).summary = 0#19 ∧ (after .fetchEvents yard).attn = false ∧
      (after (.setEventEnables (some 0x8000#24)) yard).attn = false := by decide +kernel

theorem test_set_bay :
    answer (.setBay 0 true true 0 0 2 3) yard = some (.ok, []) ∧
      answer (.setBay 0 true true 5 0 2 3) yard = some (.mode, []) ∧
      answer (.setBay 2 true true 0 0 1 6) { yard with mode := .closed } = some (.duplicate, []) ∧
      answer (.readBay 0) yard = some (.ok, [0, 1, 0, 0, 0, 2, 3, 2, 0, 2, 1]) := by decide +kernel

theorem test_yard_settings :
    (after (.setLoadingPoint (some ⟨2, 15, 5, true⟩)) yard).yardMap.defaultPoint = 2 ∧
      (after (.setTimers (some ⟨5, 60, 60, 10⟩)) yard).settings.timers = ⟨5, 60, 60, 10⟩ ∧
      (after (.setWeights (some ⟨1, 2, 3, 15⟩)) yard).settings.weights = ⟨1, 2, 3, 15⟩ ∧
      answer (.setDay (some 10)) yard = some (.badField, []) ∧
      (after (.setDay (some 11)) yard).settings.yardDay = 11 ∧
      ((after (.setLine (some ⟨1, ⟨true, false, 0, 0⟩, none⟩)) yard).raining = true) := by decide +kernel

theorem test_yard_mode :
    (after .closeYard yard).mode = .closing ∧ (after .openYard State.reset).mode = .opened ∧
      (after .closeYard { yard with orders := [], queue := [], tasks := [] }).mode = .closed ∧
      (after .clearYardEnd (after .clearYard { yard with mode := .closed, orders := [], tasks := [] })).packs = [] := by
  decide +kernel

theorem test_products :
    answer (.setProduct 6 true ⟨2, 3, 50, 150, false, 30⟩) yard = some (.ok, [0, 1]) ∧
      (after (.setProduct 6 true ⟨2, 3, 50, 150, false, 30⟩) yard).products[5]?.map Product.substitutes = some [] ∧
      answer (.setSubstitutes 5 [6]) yard = some (.ok, [1, 6]) ∧
      answer (.setSubstitutes 6 [5]) yard = some (.badField, []) ∧
      answer (.readProduct 6) yard = some (.ok, [6, 1, 1, 3, 0, 50, 0, 150, 0, 0, 30, 0, 0, 0, 0]) := by
  decide +kernel

theorem test_packs :
    answer (.receivePack 9 5 40 100 1000 .air 1 1 none) yard = some (.ok, [1, 0, 0, 9, 0, 10, 0, 40, 0, 0]) ∧
      answer (.receivePack 9 5 40 100 1000 .air 0 1 none) yard = some (.buriesReserved, []) ∧
      (answer (.readPack 3) yard).map (fun a => a.2.length) = some 27 ∧
      answer (.readStack 1 0) yard = some (.ok, [3, 1, 1, 0, 0, 6, 6, 1, 1]) ∧
      answer (.recordMove 2 1 1) yard = some (.ok, [1, 1, 0]) ∧
      answer (.recordMove 1 1 1) yard = some (.notOnTop, []) := by decide +kernel

theorem test_hold_release_scrap :
    stateOf (after (.holdPack 1) yard) 1 = some .held ∧ stateOf (after (.holdPack 3) yard) 8 = some .stored ∧
      (after (.holdPack 3) yard).tasks.map Task.number = [2] ∧
      stateOf (after (.releasePack 6 none) yard) 6 = some .stored ∧
      stateOf (after (.releasePack 7 (some (1, 1))) yard) 7 = some .stored ∧
      stateOf (after (.scrapPack 1) yard) 1 = none ∧
      answer (.clearWetted (some 6) none) yard = some (.ok, [1]) ∧
      (answer (.findOldest 5 (some 1)) yard).map (fun a => a.2.take 6) = some [0, 0, 5, 0, 0, 2] := by
  decide +kernel

theorem test_orders :
    answer (.checkIn 400 2 20000 false [item]) yard = some (.ok, [4, 2]) ∧
      (after (.checkIn 400 2 20000 false [item]) yard).queue = [3, 4, 1, 2] ∧
      answer (.checkIn 300 2 20000 false [item]) yard = some (.duplicate, []) ∧
      (answer (.readOrder (some 2) none) yard).map (fun a => a.2.length) = some 41 ∧
      answer (.setPoint 3 1) yard = some (.pointTaken, []) ∧
      answer (.setLevel 2 3) yard = some (.ok, [1]) := by decide +kernel

theorem test_order_ends :
    answer (.cancel 1) yard = some (.ok, [1, 1, 1]) ∧ stateOf (after (.cancel 1) yard) 5 = some .held ∧
      answer (.depart 1) yard = some (.ok, [1, 1, 1]) ∧ stateOf (after (.depart 1) yard) 5 = none ∧
      (after (.depart 1) yard).tasks.map (fun t => (t.number, t.kind)) = [(2, .giveBack)] := by decide +kernel

theorem test_proposals :
    stateOf (after (.confirmProposal 2 1) yard) 1 = some .reserved ∧
      (after (.confirmProposal 2 1) yard).tasks.map Task.kind =
        (tasks.map Task.kind) ++ [.shift 1, .fetch ⟨2, 1⟩] ∧
      answer (.confirmProposal 2 2) yard = some (.wrongState, []) ∧
      ((after (.rejectProposal 2 1) yard).order 2).map Order.rejected = some [1] ∧
      (after (.proposalExpiry 2) yard).holds .proposalExpired = true := by decide +kernel

theorem test_stations :
    ((after (.goOnShift 8 500) yard).station 8).map Station.state = some .idle ∧
      answer (.goOffShift 2) yard = some (.wrongState, []) ∧
      ((after (.goOffShift 3) yard).task 3).map Task.state = some .opened ∧
      (answer (.pollTask 3) yard).map (fun a => (a.2.take 3, a.2.length)) = some ([31, 3, 3], 21) ∧
      answer (.accept 3 3) yard = some (.ok, []) ∧ answer (.accept 1 1) yard = some (.taskWithdrawn, []) ∧
      ((after (.decline 3 3) yard).task 3).map Task.lapsed = some (some 3) ∧
      ((after (.reportPosition 1 63) yard).station 1).map Station.lastBay = some (some 63) := by decide +kernel

theorem test_lifts_and_drops :
    stateOf (after (.lifted 3 8) yard) 8 = some .lifted ∧ answer (.lifted 3 1) yard = some (.wrongPack, []) ∧
      answer (.lifted 1 3) yard = some (.notOnTop, []) ∧ stateOf (after (.lifted 1 2) yard) 2 = some .lifted ∧
      answer (.dropped 2 .truck) yard = some (.noTruck, []) ∧
      stateOf (after (.dropped 2 (.stack 1 1)) yard) 4 = some .reserved ∧
      stateOf (after (.reportMissing 3) yard) 8 = some .held := by decide +kernel

theorem test_watches :
    (after (.setWatch 4 .state 7 255 true) yard).watches[3]? = some ⟨true, .state, 7, 255, true, 0, none⟩ ∧
      ((after (.scrapPack 1) (after (.setWatch 4 .state 7 255 true) yard)).watches[3]?).map Watch.hits = some 1 ∧
      (answer (.readWatch none) yard).map (fun a => a.2.length) = some 44 ∧
      (after (.clearWatch 1) yard).watches = State.reset.watches := by decide +kernel

theorem test_port :
    (after (.requestPeriod [0xC3#8, 1#8, 0#8, 0#8, 0x6B#8] .fresh) yard).port = .executing .getCapacities ∧
      (after (.readPeriod 21 .fresh .sound) (after .getCapacities yard)).port = .idle ∧
      (after (.readPeriod 21 .fresh .sound) (after .getCapacities yard)).miso.take 4 = [0x3C#8, 1#8, 0#8, 16#8] ∧
      (after (.readPeriod 5 .fresh .sound) (after .restart yard)).port = .starting ∧
      (after (.readPeriod 5 .fresh .sound) (after .restart yard)).cause = .restartRequest := by decide +kernel

theorem test_resets :
    (after (.partStop .resetLow (.checking 0) 0) yard).resetHeld = true ∧ (after (.resetPin .sound) yard).orders = [] ∧
      (after (.powerOn false .sound) yard).badTables = 0x3F#6 ∧
      stateOf (after (.startupCheckEnd 0) (after (.resetPin .sound) yard)) 5 = some .held ∧
      (after (.startupCheckEnd 1) (after (.resetPin .sound) yard)).packs = [] ∧
      (after .supplyDip yard).supply = .low ∧ (after .supplyRecovery (after .supplyDip yard)).supply = .sound := by
  decide +kernel

/-- A RESET_PIN reset whose check is stopped when it has come as far as `progress`. -/
def abandoned (progress : CheckProgress) (damaged : BitVec 6) : State :=
  after (.partStop .resetLow progress damaged) (after (.resetPin .sound) yard)

/-- The same, stopped by the loss of the supply. -/
def cutOff (progress : CheckProgress) : State := after (.partStop .supplyLost progress 0) (after (.resetPin .sound) yard)

theorem test_abandoned_checks :
    (after (.startupCheckEnd 0) (after (.resetPin .sound) (abandoned (.checking 0) 0))).restartRecord.count = 2 ∧
      (after (.startupCheckEnd 0x20) (after (.resetPin .sound) (abandoned (.checking 0) 0))).restartRecord.count = 1 ∧
      (after (.startupCheckEnd 0x20) (after (.powerOn true .sound) (cutOff .raised))).restartRecord.count = 0 ∧
      (after (.startupCheckEnd 0) (after (.powerOn true .sound) (cutOff .raised))).restartRecord.count = 1 ∧
      (abandoned .emptied 1).packs = [] ∧ (abandoned (.checking 1) 1).packs = packs ∧
      (after (.startupCheckEnd 0) (after (.resetPin .sound) (abandoned (.checking 1) 1))).packs = [] ∧
      stateOf (abandoned .raised 0) 5 = some .loaded ∧ stateOf (abandoned .reconciled 0) 5 = some .held := by
  decide +kernel

/-- A period that a reset found in progress, released within the start-up check and after it. -/
theorem test_lost_periods :
    (after (.requestPeriod [0xC3#8, 1#8, 0#8, 0#8, 0x6B#8] .beforeReset) (after (.resetPin .sound) yard)).overrunNoted =
        true ∧
      (after (.requestPeriod [0xC3#8, 1#8, 0#8, 0#8, 0x6B#8] .beforeReset) yard).port = .idle ∧
      (after (.requestPeriod [0xC3#8, 1#8] .beforeReset) yard).miso = [0xA5#8, 0xA5#8] ∧
      (after (.readPeriod 2 .beforeReset .sound) (after .getCapacities yard)).miso = [0xA5#8, 0xA5#8] := by
  decide +kernel

/-- Line 1 enabled, active high, with a debounce of 20 ms. -/
def rainy : State := after (.pinChange 1 true) (after (.setLine (some ⟨1, ⟨true, true, 0, 20⟩, none⟩)) yard)

theorem test_lines :
    rainy.lines[1]? = some ⟨false, some 2⟩ ∧
      (after (.debounceExpiry 1) (tick (tick rainy))).raining = true ∧
      (after (.debounceExpiry 1) (tick rainy)).raining = false ∧
      ((Table.get (after .wettingSweepStack { yard with sweep := some (0, 0) }).packs 1).map Pack.wetted) =
        some true := by decide +kernel

/-- The small yard with the reserved pack alone. -/
def oneReserved : State := { yard with packs := packs.filter fun e => e.1 = 3 }

theorem test_engine :
    (after .scanStart yard).engine.line = some ⟨3, 1⟩ ∧
      (after .firstPassVisit (after .scanStart yard)).engine.lead = some ⟨1, 7, 4278, .first⟩ ∧
      (after .passEnd (after .scanStart { yard with packs := [] })).engine.state = .secondPass ∧
      (after .secondPassVisit (after .passEnd (after .firstPassVisit (after .scanStart oneReserved)))).engine.lead.map
        Candidate.pass = some .second := by decide +kernel

theorem test_timers :
    ((after .taskOffer { yard with tasks := tasks.map (Task.toOpen none) }).station 1).map Station.state =
        some .offered ∧
      (after (.taskLapse 3) yard).holds .taskLapsed = true ∧
      ((after (.offerLapse 3) { yard with tasks := tasks.map fun t => { t with state := .offered } }).station 3).map
        Station.lapses = some 1 ∧
      (after (.carryOverdue 2) yard).holds .carryOverdue = true := by decide +kernel

/-! ## Hypotheses that are met: one theorem for each statement that has any, clause by clause -/

/-- Wherever a statement asks that the port executes a request. -/
theorem busy_at (c : Instr) (s : State) (h : s.stopped = false ∧ s.clearing = false) : atBlock c (busy c s) :=
  ⟨h.1, rfl, h.2⟩

/-- So in the small yard, for every request. -/
theorem test_witness_at_block (c : Instr) : atBlock c (busy c yard) := busy_at c yard (by decide +kernel)

/-- The small yard with a low supply. -/
def lowYard : State := { yard with supply := .low }

/-- The small yard closed, with no order and no task. -/
def closedYard : State :=
  { yard with mode := .closed, orders := [], queue := [], tasks := [], stations := List.replicate 8 Station.default }

theorem test_witness_AnEmptyQueueIsATick :
    yard.pending = [] ∧ yard.running = true ∧ { yard with supplyOff := true }.running = false := by decide +kernel

theorem test_orders_ok : orderLaw yard := by
  intro e he
  simp only [yard, orders, List.mem_cons, List.not_mem_nil, or_false] at he
  rcases he with rfl | rfl | rfl <;> refine ⟨by decide, by decide, by decide, by decide, ?_⟩ <;> intro pr h
  · cases h
  · cases h; exact ⟨rfl, ⟨item, 0, 0, false⟩, rfl, by decide⟩
  · cases h

theorem test_queue_ok : queueLaw yard := by
  refine ⟨by decide, ?_, by decide +kernel⟩
  intro h
  show h ∈ [3, 1, 2] ↔ h ∈ [1, 2, 3]
  simp only [List.mem_cons, List.not_mem_nil, or_false]
  omega

/-- What holds of an optional value when its test does. -/
theorem option_all {α : Type} {o : Option α} {p : α → Prop} [DecidablePred p]
    (h : o.all (fun a => decide (p a)) = true) : ∀ a ∈ o, p a := by
  rintro a rfl
  simpa using h

theorem test_stations_ok : stationLaw yard := by
  refine ⟨fun t ht => ⟨?_, option_all ?_⟩, by decide +kernel, fun n hn => ?_⟩
  · exact (by decide +kernel : ∀ t ∈ yard.tasks, (t.state = .opened ↔ t.station = none)) t ht
  · revert t
    decide +kernel
  · unfold stationAgrees
    refine option_all ?_
    revert n
    decide +kernel

theorem test_links_ok : linkLaw yard := by
  refine ⟨by decide +kernel, ?_, by decide +kernel⟩
  unfold subjectFits
  intro t ht
  simp only [yard, tasks, List.mem_cons, List.not_mem_nil, or_false] at ht
  rcases ht with rfl | rfl | rfl <;> refine ⟨by decide, by decide, ?_⟩ <;> decide +kernel

theorem test_counts_ok : countLaw yard := by
  refine ⟨fun e he => option_all ?_, fun o ho => ⟨?_, fun i hi => option_all ?_⟩⟩
  · revert e
    decide +kernel
  · revert o
    decide +kernel
  · revert i
    revert o
    decide +kernel

theorem test_work_ok : workLaw yard :=
  ⟨by unfold placeLaw; decide +kernel, test_stations_ok, by rintro ⟨⟩, by rintro ⟨⟩,
    fun _ => ⟨test_links_ok, by unfold digLaw; decide +kernel, test_counts_ok⟩⟩

theorem yard_elsewhere (b k : Nat) (h : (b, k) ∉ [(0, 0), (0, 1), (1, 0)]) : stackList yard b k = [] := by
  simp only [List.mem_cons, Prod.mk.injEq, List.not_mem_nil, or_false, not_or] at h
  refine List.eq_nil_iff_forall_not_mem.mpr fun e he => ?_
  obtain ⟨he, i, hl⟩ := mem_stackList.mp he
  simp only [yard, packs, pack, List.mem_cons, List.not_mem_nil, or_false] at he
  rcases he with rfl | rfl | rfl | rfl | rfl | rfl | rfl | rfl <;> cases hl <;> simp at h

theorem test_stacks_ok : stackLaw yard := by
  have hl : ∀ b, (yard.bay b).tierLimit ≤ 6 := by
    intro b
    by_cases h : b < 64
    · exact (by decide +kernel : ∀ b < 64, (yard.bay b).tierLimit ≤ 6) b h
    · simp only [State.bay, List.getD]
      rw [List.getElem?_eq_none (by
        have : yard.yardMap.bays.length = 64 := by decide +kernel
        omega)]
      exact Nat.le_refl 6
  refine ⟨fun b k => ?_, hl, fun b k => ?_, by decide +kernel⟩
  · by_cases h : (b, k) ∈ [(0, 0), (0, 1), (1, 0)]
    · exact (by decide +kernel : ∀ x ∈ [(0, 0), (0, 1), (1, 0)],
        (stackList yard x.1 x.2).map (fun e => e.2.tier) = List.range (height yard x.1 x.2)) _ h
    · simp [height, yard_elsewhere b k h]
  · by_cases h : (b, k) ∈ [(0, 0), (0, 1), (1, 0)]
    · exact (by decide +kernel : ∀ x ∈ [(0, 0), (0, 1), (1, 0)], height yard x.1 x.2 ≤ (yard.bay x.1).tierLimit) _ h
    · simp [height, yard_elsewhere b k h]

/-- The premises of the laws every step keeps, with a command that takes effect at the front of the queue. -/
theorem test_witness_laws :
    ∃ s t, step s = .next t ∧ s.pending = [.taskLapse 3] ∧ attnLaw s ∧ closedLaw s ∧ closingLaw s ∧ keyLaw s ∧
      capacityLaw s ∧ sizeLaw s ∧ orderLaw s ∧ queueLaw s ∧ stackLaw s ∧ tierLaw s ∧ workLaw s :=
  ⟨{ yard with pending := [.taskLapse 3] }, _, rfl, rfl, rfl, by rintro ⟨⟩, by rintro ⟨⟩, yard_laws.1,
    yard_laws.2.1, by unfold sizeLaw; decide +kernel, test_orders_ok, test_queue_ok, test_stacks_ok,
    test_stacks_ok.1, test_work_ok⟩

/-- A place in the queue, and a pack with another above it in its stack. -/
theorem test_witness_places :
    yard.queue = [3] ++ 1 :: [2] ∧ 1 ∉ [3] ∧ (Table.get yard.orders 1).isSome = true ∧
      ∃ e f, stackList yard 0 1 = [] ++ e :: [f] ∧ e.1 = 3 ∧ f.2.state = .moving :=
  ⟨rfl, by decide, rfl, (3, _), (8, _), rfl, rfl, rfl⟩

theorem test_witness_requests :
    (Instr.setDay (some 5)).isRequest = true ∧ (Instr.setDay (some 5)).wellFormed = true ∧
      (Instr.statusSummary).isRequest = true ∧ (Instr.statusSummary).wellFormed = true ∧ yard.stopped = false ∧
      yard.port = .idle ∧ yard.clearing = false := by decide +kernel

theorem test_witness_PeriodsMeetThePort :
    (0xC3#8 ≠ 0#8) ∧ yard.stopped = false ∧ yard.port = .idle ∧ checkFrame [0xC3#8, 5#8] = none ∧
      { yard with port := .starting }.stopped = false ∧ (busy .statusSummary yard).stopped = false ∧
      { yard with port := .answered ⟨0, .ok, [], false⟩ }.stopped = false ∧ yard.port ≠ .starting := by decide +kernel

/-- An unknown command and an unknown family, a station field that is not allowed in and outside family 5, and a
payload of no form, each in a good frame. -/
theorem test_witness_refused_frames :
    checkFrame ([0xC3#8] ++ [5#8, 0#8, 0#8] ++ [crc8 [5#8, 0#8, 0#8]]) = some ⟨5, 0, []⟩ ∧
      ¬ 5 % 16 < [5, 10, 3, 9, 8, 9, 3, 1].getD (5 / 16) 0 ∧
      checkFrame ([0xC3#8] ++ [0x80#8, 0#8, 0#8] ++ [crc8 [0x80#8, 0#8, 0#8]]) = some ⟨0x80, 0, []⟩ ∧
      ¬ 0x80 % 16 < [5, 10, 3, 9, 8, 9, 3, 1].getD (0x80 / 16) 0 ∧
      checkFrame ([0xC3#8] ++ [0x51#8, 9#8, 0#8] ++ [crc8 [0x51#8, 9#8, 0#8]]) = some ⟨0x51, 9, []⟩ ∧
      checkFrame ([0xC3#8] ++ [0x11#8, 1#8, 0#8] ++ [crc8 [0x11#8, 1#8, 0#8]]) = some ⟨0x11, 1, []⟩ ∧
      checkFrame ([0xC3#8] ++ [0x11#8, 0#8, 0#8] ++ [crc8 [0x11#8, 0#8, 0#8]]) = some ⟨0x11, 0, []⟩ ∧
      readPayload (0x11 / 16) (0x11 % 16) 0 [] = none := by decide +kernel

theorem test_witness_AReadPeriodDeliversTheResponse :
    { yard with port := .answered ⟨0x70, .ok, [], true⟩ }.stopped = false ∧
      [0x3C#8] ++ ([byte 0x70, byte 0, byte 0] ++ []) ++ [crc8 [byte 0x70, byte 0, byte 0]] =
        (Response.mk 0x70 .ok [] true).frame ∧
      0 < 4 ∧ 4 < ([] : List Byte).length + 5 ∧ ([] : List Byte).length + 5 ≤ 5 ∧ (0 < 5 ∧ 5 ≤ 5) := by
  decide +kernel

/-- A read period with the port idle, and one in each condition that gives busy filler. -/
theorem test_witness_fillers :
    yard.stopped = false ∧ yard.port = .idle ∧ 0 < 3 ∧ { yard with port := .starting }.port = .starting ∧
      (busy .clearYard yard).port = .executing .clearYard ∧ (busy .clearYard yard).stopped = false ∧
      (after (.readPeriod 3 (.within 3) .sound) yard).miso = [0xA5#8, 0xA5#8, 0xA5#8] ∧
      (after (.readPeriod 3 .fresh .sound) yard).miso = [0#8, 0#8, 0#8] := by decide +kernel

/-- Fields that pass their checks and fields that do not, at their bounds, while the supply is low. -/
theorem test_witness_ALowSupplyRefusesRetainedChanges :
    guarded .clearYard = true ∧ atBlock .clearYard (busy .clearYard lowYard) ∧
      (busy .clearYard lowYard).supply = .low ∧ lowYard.stations.length = 8 ∧
      fieldsPass lowYard (.setBay 63 true true 15 15 8 6) ∧ ¬ fieldsPass lowYard (.setBay 64 true true 0 0 1 1) ∧
      fieldsPass lowYard (.setDay (some 11)) ∧ ¬ fieldsPass lowYard (.setDay (some 10)) ∧
      fieldsPass lowYard (.reportMissing 8) ∧ ¬ fieldsPass lowYard (.reportMissing 9) ∧
      answer (.setDay (some 11)) lowYard = some (.powerLow, []) ∧
      answer (.setDay (some 10)) lowYard = some (.badField, []) := by
  refine ⟨rfl, busy_at _ _ (by decide +kernel), rfl, by decide +kernel, ?_⟩
  unfold fieldsPass
  decide +kernel

/-- A payload length that R196 does not list, in the first and in the last family. -/
theorem test_witness_lengths :
    2 ∉ [0, 3] ∧ readPayload 0 4 0 [1, 2] = none ∧ 1 ∉ [0] ∧ readPayload 7 0 0 [1] = none := by decide

/-- Each field that a request refuses outside its range, next to its bound. -/
theorem test_witness_fields_out_of_range :
    [Instr.setBay 64 true true 0 0 1 6, .setBay 0 true true 16 0 1 6, .setBay 0 true true 0 16 1 6,
      .setBay 0 true true 0 0 9 6, .setBay 0 true true 0 0 0 6, .setBay 0 true true 0 0 1 7,
      .setBay 0 true true 0 0 1 0, .setLoadingPoint (some ⟨0, 0, 0, true⟩), .setLoadingPoint (some ⟨5, 0, 0, true⟩),
      .setLoadingPoint (some ⟨1, 16, 0, true⟩), .setLoadingPoint (some ⟨1, 0, 16, true⟩),
      .setTimers (some ⟨4, 60, 60, 10⟩), .setTimers (some ⟨121, 60, 60, 10⟩), .setTimers (some ⟨5, 59, 60, 10⟩),
      .setTimers (some ⟨5, 1801, 60, 10⟩), .setTimers (some ⟨5, 60, 59, 10⟩), .setTimers (some ⟨5, 60, 3601, 10⟩),
      .setTimers (some ⟨5, 60, 60, 9⟩), .setTimers (some ⟨5, 60, 60, 601⟩), .setWeights (some ⟨16, 0, 0, 0⟩),
      .setWeights (some ⟨0, 16, 0, 0⟩), .setWeights (some ⟨0, 0, 16, 0⟩), .setWeights (some ⟨0, 0, 0, 16⟩),
      .setLine (some ⟨7, ⟨true, true, 0, 0⟩, none⟩), .setLine (some ⟨1, ⟨true, true, 4, 0⟩, none⟩),
      .setLine (some ⟨1, ⟨true, true, 0, 2560⟩, none⟩), .setLine (some ⟨1, ⟨true, true, 0, 5⟩, none⟩),
      .setLine (some ⟨1, ⟨true, true, 0, 0⟩, some true⟩), .setLine (some ⟨0, ⟨true, true, 0, 0⟩, none⟩),
      .setProduct 0 false ⟨0, 0, 50, 50, true, 0⟩, .setProduct 9 true ⟨16, 0, 50, 50, true, 0⟩,
      .setProduct 9 true ⟨0, 8, 50, 50, true, 0⟩, .setProduct 9 true ⟨0, 0, 11, 50, true, 0⟩,
      .setProduct 9 true ⟨0, 0, 50, 301, true, 0⟩, .setProduct 9 true ⟨0, 0, 50, 50, true, 366⟩,
      .setWatch 5 .bay 0 0 true, .setWatch 0 .bay 0 0 true, .setWatch 1 .bay 256 0 true, .setWatch 1 .bay 0 256 true,
      .readWatch (some 5), .clearWatch 0].all (fun c => decide (answer c yard = some (.badField, []))) = true := by
  decide +kernel

theorem test_witness_fields_out_of_range_of_packs_and_orders :
    [Instr.receivePack 0 5 40 100 1000 .kiln 1 1 none, .receivePack 9 5 9 100 1000 .kiln 1 1 none,
      .receivePack 9 5 40 2001 1000 .kiln 1 1 none, .receivePack 9 5 40 100 49 .kiln 1 1 none,
      .receivePack 9 7 40 100 1000 .kiln 1 1 none, .receivePack 9 5 40 100 1000 .kiln 1 1 (some 1), .readPack 0,
      .findOldest 0 none, .holdPack 0, .releasePack 0 none, .scrapPack 16777216, .recordMove 0 1 1,
      .clearWetted (some 0) none, .clearWetted none (some 64), .clearWetted none none,
      .checkIn 0 0 1000 true [item], .checkIn 1 4 1000 true [item], .checkIn 1 0 999 true [item],
      .checkIn 1 0 1000 true [], .checkIn 1 0 1000 true (List.replicate 5 { item with quantity := 1 }),
      .checkIn 1 0 1000 true [{ item with quantity := 12 }, { item with quantity := 13 }],
      .checkIn 1 0 1000 true [{ item with quantity := 0 }], .checkIn 1 0 1000 true [{ item with low := 50, high := 49 }],
      .checkIn 1 0 1000 true [{ item with digLimit := 6 }], .checkIn 1 0 1000 true [{ item with product := 7 }],
      .checkIn 1 0 1000 true [{ item with window := some ⟨1, 0, 0, 0⟩ }], .readOrder (some 33) none,
      .readOrder none (some 0), .readOrder (some 1) (some 100), .setPoint 33 1, .setPoint 1 5, .cancel 0, .depart 33,
      .confirmProposal 33 1, .rejectProposal 2 0, .goOnShift 1 499, .goOnShift 1 6001, .accept 3 49, .decline 3 0,
      .lifted 1 0, .dropped 1 (.stack 64 0), .dropped 2 (.stack 0 2)].all
      (fun c => decide (answer c yard = some (.badField, []))) = true := by decide +kernel

/-- Each other refusal that a request's rule names beside its ranges, on a record that meets its condition. -/
theorem test_witness_refusals :
    [(Instr.setLoadingPoint (some ⟨1, 0, 0, false⟩), Status.mode), (.recordMove 3 1 1, .busyPack),
      (.recordMove 8 1 1, .busyPack), (.recordMove 4 1 1, .busyPack), (.recordMove 5 1 1, .wrongState),
      (.recordMove 7 1 1, .wrongState), (.recordMove 1 1 1, .notOnTop), (.releasePack 1 none, .wrongState),
      (.releasePack 6 (some (1, 1)), .badField), (.releasePack 7 none, .badField), (.scrapPack 3, .busyPack),
      (.holdPack 99, .notFound), (.releasePack 99 none, .notFound), (.scrapPack 99, .notFound),
      (.recordMove 99 1 1, .notFound), (.clearWetted (some 99) none, .notFound), (.readOrder (some 9) none, .notFound),
      (.readOrder none (some 999), .notFound), (.setPoint 9 1, .notFound), (.cancel 9, .notFound),
      (.depart 9, .notFound), (.confirmProposal 9 1, .notFound), (.rejectProposal 9 1, .notFound),
      (.confirmProposal 2 2, .wrongState), (.rejectProposal 1 1, .wrongState), (.goOnShift 1 3000, .wrongState),
      (.accept 2 2, .wrongState), (.decline 2 2, .wrongState), (.lifted 8 1, .wrongState), (.lifted 1 99, .notFound),
      (.lifted 1 1, .notOnTop), (.lifted 1 6, .busyPack), (.dropped 1 .truck, .wrongState),
      (.dropped 3 (.stack 1 1), .wrongState), (.reportMissing 1, .wrongState)].all
      (fun e => decide (answer e.1 yard = some (e.2, []))) = true ∧
      (∀ u ∈ yard.tasks, u.subject ≠ 1) ∧ (∀ u ∈ yard.tasks, u.subject = 6 → u.state ≠ .opened) ∧
      (∀ u ∈ yard.tasks, u.station ≠ some 1) ∧ (∀ u ∈ yard.tasks, u.station = some 3 → u.state ≠ .lifted) := by
  decide +kernel

theorem test_witness_frames :
    writesSettings .passEnd = false ∧ writesPacks .fetchEvents = false ∧ movesWork .scanStart = false ∧
      changesOrders .scanStart = false ∧ (∃ t, exec .scanStart yard = .next t) ∧ (∃ t, exec .passEnd yard = .next t) ∧
      ∃ t, exec .fetchEvents yard = .next t := ⟨rfl, rfl, rfl, rfl, ⟨_, rfl⟩, ⟨_, rfl⟩, ⟨_, rfl⟩⟩

theorem test_witness_InquiriesReadTheState : (0x7FFFF#24).toNat < 2 ^ 19 ∧ 2 ^ 19 ≤ (0x80000#24).toNat := by decide

/-- A closing yard at rest, its gate active with the auto-open mark, and one that has no such mark. -/
theorem test_witness_ends_of_closing :
    yard.mode ≠ .closing ∧
      (let s := { closedYard with mode := .closing, lines := closedYard.lines.set 0 ⟨true, none⟩ }
       s.mode = .closing ∧ s.orders = [] ∧ s.tasks = [] ∧ lineActive s 0 = true ∧ s.settings.autoOpen = false ∧
         { s with settings := { s.settings with autoOpen := true } }.settings.autoOpen = true) := by decide +kernel

theorem test_witness_RestartMarksItsResponse :
    (busy .restart yard).supply = .sound ∧ atBlock .restart (busy .restart lowYard) ∧
      (busy .restart lowYard).supply = .low := ⟨rfl, busy_at _ _ (by decide +kernel), rfl⟩

theorem test_witness_ReadBayGivesTheEntry : 63 ≤ 63 ∧ 63 < 64 := by decide

/-- The geometry as it was, with the place free or taken; and changed, with the yard open, the bay in use, or empty. -/
theorem test_witness_SetBayWritesTheEntry :
    (yard.supply = .sound ∧
      ((yard.bay 0).row = 0 ∧ (yard.bay 0).col = 0 ∧ (yard.bay 0).stackCount = 2 ∧ (yard.bay 0).tierLimit = 3) ∧
      (∀ n, n < 64 → n ≠ 0 → (yard.bay n).enabled = true → ¬ ((yard.bay n).row = 0 ∧ (yard.bay n).col = 0)) ∧
      (yard.bay 0).covered = false) ∧
    ({ yard with raining := true }.raining = true ∧ (yard.bay 1).covered = true ∧ (yard.bay 1).row = 0 ∧
      (yard.bay 1).col = 1 ∧ (yard.bay 1).stackCount = 2 ∧ (yard.bay 1).tierLimit = 3 ∧
      yard.yardMap.bays.length = 64 ∧
      ∀ n, n < 64 → n ≠ 1 → (yard.bay n).enabled = true → ¬ ((yard.bay n).row = 0 ∧ (yard.bay n).col = 1)) ∧
    (yard.mode ≠ .closed ∧ (yard.bay 0).row ≠ 5) ∧
    (closedYard.mode = .closed ∧ (closedYard.bay 0).row ≠ 5 ∧ ∃ e ∈ closedYard.packs, e.2.inBay 0 = true) ∧
    (closedYard.mode = .closed ∧ (∀ e ∈ closedYard.packs, e.2.inBay 63 = false) ∧
      ∃ n, n < 64 ∧ n ≠ 63 ∧ (closedYard.bay n).enabled = true ∧ (closedYard.bay n).row = 0 ∧
        (closedYard.bay n).col = 0) := by
  refine ⟨by decide +kernel, by decide +kernel, by decide +kernel, by decide +kernel, by decide +kernel,
    by decide +kernel, 0, ?_⟩
  decide +kernel

theorem test_witness_YardWritesWriteWhatTheyCarry :
    yard.supply = .sound ∧ (yard.pointAt 4).row = 15 ∧ (yard.pointAt 4).col = 15 ∧ closedYard.mode = .closed ∧
      timersOk ⟨120, 1800, 3600, 600⟩ ∧ timersOk ⟨5, 60, 60, 10⟩ ∧ weightsOk ⟨15, 15, 15, 0⟩ ∧
      yard.settings.yardDay < 65535 ∧ 10 ≤ yard.settings.yardDay := by decide +kernel

/-- Line 1 active and being disabled; line 0 written anew with the auto-open mark. -/
theorem test_witness_SetLineWritesAndJudgesTheLine :
    lineActive { yard with lines := yard.lines.set 1 ⟨true, none⟩ } 1 = true ∧
      lineWriteOk ⟨1, ⟨false, true, 3, 2550⟩, none⟩ ∧ lineWriteOk ⟨0, ⟨true, true, 0, 0⟩, some true⟩ ∧
      lineActive yard 0 = false := by decide +kernel

theorem test_witness_YardModesFollowTheirRequests :
    yard.mode = .opened ∧ yard.orders ≠ [] ∧ closedYard.mode ≠ .opened ∧
      (closedYard.orders = [] ∧ closedYard.tasks = [] ∧ closedYard.settings.autoOpen = false) ∧
      lineActive { closedYard with lines := closedYard.lines.set 0 ⟨true, none⟩ } 0 = true := by decide +kernel

theorem test_witness_ClearYardEmptiesThePackTable :
    closedYard.supply = .sound ∧ closedYard.mode = .closed ∧ yard.mode ≠ .closed ∧
      atBlock .clearYard (busy .clearYard closedYard) ∧
      (busy .clearYard { closedYard with clearing := true }).stopped = false ∧ Table.rising closedYard.packs :=
  ⟨rfl, rfl, by decide, busy_at _ _ (by decide +kernel), by decide +kernel, by decide +kernel⟩

/-- Product 6 changed; product 7 undefined with nothing that names it. -/
theorem test_witness_SetProductWritesAndPrunes :
    yard.supply = .sound ∧ productFieldsOk ⟨15, 7, 300, 50, true, 365⟩ ∧ (yard.product 6).defined = true ∧
      (∀ e ∈ yard.packs, e.2.product ≠ 6) ∧ (∀ e ∈ yard.orders, ∀ l ∈ e.2.lines, l.item.product ≠ 6) ∧
      (yard.product 5).defined = true ∧ (∃ e ∈ yard.packs, e.2.product = 5) ∧
      ∃ e ∈ yard.orders, ∃ l ∈ e.2.lines, l.item.product = 5 := by
  decide +kernel

theorem test_witness_SubstituteListsAreReplacedWhole :
    (yard.product 5).defined = true ∧ (yard.product 6).defined = true ∧ [6].Nodup ∧ [6].length ≤ 3 ∧
      (yard.product 6).fields.species = (yard.product 5).fields.species ∧
      (yard.product 6).fields.thickness = (yard.product 5).fields.thickness ∧
      (yard.product 6).fields.width = (yard.product 5).fields.width ∧
      (yard.product 5).fields.grade ≤ (yard.product 6).fields.grade := by decide +kernel

/-- Lists that are refused: an undefined product, its own code, a code twice, an undefined code, and codes that differ
in species, in thickness, in width or by a lower grade. -/
theorem test_witness_refused_lists :
    let s : State :=
      { yard with
        products :=
          ((yard.products.set 7 ⟨true, ⟨2, 2, 50, 150, true, 30⟩, []⟩).set 8 ⟨true, ⟨1, 2, 40, 150, true, 30⟩, []⟩).set
            9 ⟨true, ⟨1, 2, 50, 100, true, 30⟩, []⟩ }
    (yard.product 255).defined = false ∧ ¬ [6, 6].Nodup ∧ (s.product 5).defined = true ∧
      (s.product 7).fields.species ≠ (s.product 5).fields.species ∧
      (s.product 8).fields.thickness ≠ (s.product 5).fields.thickness ∧
      (s.product 9).fields.width ≠ (s.product 5).fields.width ∧
      (s.product 5).fields.grade < (s.product 6).fields.grade ∧
      answer (.setSubstitutes 5 [7]) s = some (.badField, []) ∧ answer (.setSubstitutes 255 []) s = some (.notFound, []) := by
  decide +kernel

/-- The small yard with bay 1 of one tier, and bay 2 disabled. -/
def tight : State :=
  { yard with yardMap := { yard.yardMap with bays := yard.yardMap.bays.set 1 ⟨true, true, 0, 1, 2, 1⟩ } }

/-- Each way R6 answers a put-down: no such bay, no such stack, a disabled bay, a full stack, a stack that holds a
RESERVED pack, and none. -/
theorem test_witness_put_downs (disabled : Status) :
    putDownRefused yard 64 0 disabled .badField ∧ putDownRefused yard 0 2 disabled .badField ∧
      putDownRefused yard 63 0 disabled disabled ∧ putDownRefused tight 1 0 disabled .stackFull ∧
      putDownRefused yard 0 1 disabled .buriesReserved ∧ putDownTaken yard 1 1 ∧ putDownTaken yard 0 0 :=
  ⟨.inl ⟨.inl (by decide), rfl⟩, .inl ⟨.inr (by decide +kernel), rfl⟩,
    .inr ⟨by decide, by decide +kernel, .inl ⟨by decide +kernel, rfl⟩⟩,
    .inr ⟨by decide, by decide +kernel, .inr (.inl ⟨by decide +kernel, by decide +kernel, rfl⟩)⟩,
    .inr ⟨by decide, by decide +kernel, .inr (.inr ⟨by decide +kernel, by decide +kernel, by decide +kernel, rfl⟩)⟩,
    ⟨by decide, by decide +kernel, by decide +kernel, by decide +kernel, by decide +kernel⟩,
    ⟨by decide, by decide +kernel, by decide +kernel, by decide +kernel, by decide +kernel⟩⟩

theorem test_witness_ReceivePackCreatesTheRecord :
    (yard.product 5).defined = true ∧ yard.supply = .sound ∧ Table.get yard.packs 16777215 = none ∧
      yard.packs.length < 2048 ∧ putDownCheck yard 1 1 .badField = none ∧ (yard.bay 1).enabled = true ∧
      2048 ≤ { yard with packs := (List.range 2048).map fun n => (n + 1, pack .held none none none none) }.packs.length ∧
      Table.get ((List.range 2048).map fun n => (n + 1, pack .held none none none none)) 16777215 = none ∧
      (Table.get yard.packs 1).isSome = true := by
  decide +kernel

/-- A chain with a first pack, one after it and a last one; a tag that is not in it; and an empty chain. -/
theorem test_witness_PackReadsChangeNothing :
    (Table.get yard.packs 1).isSome = true ∧ Table.get yard.packs 16777215 = none ∧ 1 < (yard.bay 1).stackCount ∧
      Table.rising yard.packs ∧ chainIs yard 5 (chain yard 5) ∧ (chain yard 5).keys = [1, 2, 3, 6, 8] ∧
      chainIs yard 255 (chain yard 255) ∧ chain yard 255 = [] :=
  ⟨by decide, by decide, by decide, by decide +kernel, chainIs_chain (by decide +kernel) 5, by decide +kernel,
    chainIs_chain (by decide +kernel) 255, by decide +kernel⟩

theorem test_witness_RecordMoveMovesATopPack :
    stateOf yard 2 = some .stored ∧ topPack yard 0 0 = some 2 ∧ putDownCheck yard 1 1 .mode = none ∧
      putDownCheck yard 0 0 .mode = none ∧ stateOf yard 6 = some .held ∧ topPack yard 1 0 = some 6 := by
  decide +kernel

theorem test_witness_PacksAreHeldReleasedAndScrapped :
    stateOf yard 1 = some .stored ∧ stateOf yard 3 = some .reserved ∧ fetchUntaken yard 3 = true ∧
      stateOf yard 8 = some .moving ∧ (Table.get yard.packs 6).map Pack.hold = some (some .damaged) ∧
      (Table.get yard.packs 7).map Pack.hold = some (some .missing) ∧ putDownCheck yard 1 1 .mode = none := by
  decide +kernel

theorem test_witness_ClearWettedClearsMarks :
    ((yard.packs.filter fun e => decide (e.1 = 6) && e.2.wetted).length = 1) ∧
      ((yard.packs.filter fun e => e.2.inBay 0 && e.2.wetted).length = 0) ∧ (Table.get yard.packs 6).isSome = true := by
  decide +kernel

theorem test_witness_CheckInCreatesTheOrder :
    checkInOk yard 65535 3 40000 [{ item with window := some ⟨0, 15, 0, 15⟩ }] = true ∧ yard.mode = .opened ∧
      yard.orders.length < 32 ∧ (∀ e ∈ yard.orders, e.2.truck ≠ 65535) ∧ (∃ e ∈ yard.orders, e.2.truck = 300) ∧
      closedYard.mode ≠ .opened ∧
      32 ≤ { yard with orders := (List.range 32).map fun n => (n + 1, newOrder (n + 1) 0 1000 false []) }.orders.length := by
  decide +kernel

/-- An order whose first line is its deck line, and one wholly loaded. -/
theorem test_witness_ReadOrderChangesNothing :
    ∃ o rest l, Table.get yard.orders 1 = some o ∧ o.truck = 100 ∧ yard.orders = [] ++ (1, o) :: rest ∧
      yard.queue = [3] ++ 1 :: [2] ∧ 1 ∉ [3] ∧ o.lines = [] ++ l :: [] ∧ l.loaded < l.item.quantity ∧
      ∀ m ∈ [{ l with loaded := 4 }], m.item.quantity ≤ m.loaded :=
  ⟨_, _, _, rfl, rfl, rfl, rfl, by decide, rfl, by decide, by decide⟩

theorem test_witness_PointsAndLevelsAreWritten :
    (∀ e ∈ yard.orders, e.1 ≠ 3 → e.2.point ≠ some 4) ∧ (yard.order 3).map Order.point = some none ∧
      (∃ e ∈ yard.orders, e.1 ≠ 3 ∧ e.2.point = some 1) ∧ (yard.order 3).map Order.level = some 2 ∧
      (yard.order 1).map Order.point = some (some 1) ∧ orderHasLifted yard 1 = true ∧
      (∀ e ∈ yard.orders, e.1 ≠ 1 → e.2.point ≠ some 4) ∧ Table.get yard.orders 32 = none := by
  decide +kernel

theorem test_witness_CancelAndDepartEndTheOrder :
    (Table.get yard.orders 1).isSome = true ∧ tagsOf yard .reserved 1 = [3] ∧ tagsOf yard .lifted 1 = [4] ∧
      tagsOf yard .loaded 1 = [5] := by decide +kernel

/-- A pack with a SHIFT to withdraw and its FETCH, one without a SHIFT whose FETCH a station holds, and a station that
held a withdrawn SHIFT. -/
theorem test_witness_releases :
    (yard.tasks.filter fun t => decide (t.kind = .shift 3 ∧ t.state ≠ .lifted)).map Task.station = [some 3] ∧
      (yard.tasks.filter fun t => decide (t.kind = .shift 4 ∧ t.state ≠ .lifted)) = [] ∧
      (yard.stations[2]?).map Station.state = some .busy ∧
      ((releaseShifts 3 yard).stations[2]?).map (fun st => (st.state, st.notice)) = some (.idle, true) ∧
      (Table.get yard.packs 3).map Pack.reservation = some (some ⟨1, 1⟩) ∧
      ((releaseShifts 3 yard).tasks.find? fun t => decide (t.subject = 3) && t.isFetch).map Task.number = some 1 ∧
      (Table.get yard.packs 4).map Pack.reservation = some (some ⟨1, 1⟩) ∧
      ((releaseShifts 4 yard).tasks.find? fun t => decide (t.subject = 4) && t.isFetch).map Task.station =
        some (some 2) := by decide +kernel

/-- The proposal of order 2 stands for a pack that is stored, reserved for a lower order, or gone. -/
theorem test_witness_ProposalsAreAnswered :
    ∃ o p, Table.get yard.orders 2 = some o ∧ o.proposal = some ⟨1, 1, 4096, 0⟩ ∧
      nth o.lines 1 = some ⟨item, 0, 0, false⟩ ∧ (0 < item.quantity) ∧
      Table.get yard.packs 1 = some p ∧ p.state = .stored ∧ firstPassOk yard o item 1 p = true ∧
      Table.get ({ yard with packs := [] } : State).packs 1 = none :=
  ⟨_, _, rfl, rfl, rfl, by decide, rfl, rfl, by decide +kernel, rfl⟩

/-- The small yard with the supervised order above order 1, and its proposal for the reserved pack. -/
def robbing : State :=
  { yard with
    orders := Table.update orders 2 fun o => { o with level := 3, proposal := some ⟨1, 3, 4096, 0⟩ }
    queue := [2, 3, 1] }

/-- The same with the FETCH of the reserved pack offered to station 1. -/
def offered : State :=
  { robbing with
    tasks := tasks.map fun t => if t.number = 1 then { t with state := .offered, station := some 1 } else t }

theorem test_witness_a_takeover :
    ∃ o p, Table.get robbing.orders 2 = some o ∧ o.proposal = some ⟨1, 3, 4096, 0⟩ ∧
      Table.get robbing.packs 3 = some p ∧ p.state = .reserved ∧ secondPassOk robbing o item 3 p = true :=
  ⟨_, _, rfl, rfl, rfl, rfl, by decide +kernel⟩

theorem test_witness_AReservationDigsFromTheTop :
    Table.rising yard.packs ∧ (Table.get yard.packs 1).isSome = true ∧ (packsAbove yard 1).keys = [2] ∧
      yard.tasks.length + (packsAbove yard 1).length < 48 ∧
      (reserve ⟨3, 1⟩ 1 (pack .stored (some ⟨0, 0, 0⟩) none none none) yard).tasks.map Task.number =
        [1, 2, 3, 4, 5] := by
  decide +kernel

/-- The takeover of pack 3 from order 1, its FETCH open, or offered to station 1 where the taker has no truck. -/
theorem test_witness_takeovers :
    (Table.get robbing.packs 3).map Pack.reservation = some (some ⟨1, 1⟩) ∧
      (robbing.tasks.find? fun u => decide (u.subject = 3) && u.isFetch).map Task.state = some .opened ∧
      ((offered.tasks.find? fun u => decide (u.subject = 3) && u.isFetch).map fun u => (u.state, u.station)) =
        some (.offered, some 1) ∧
      gatesOpen offered ⟨2, 1⟩ 3 = false ∧
      (((takeOver ⟨2, 1⟩ 3 (pack .reserved (some ⟨0, 1, 0⟩) (some ⟨1, 1⟩) (some 1) none) offered).stations[0]?).map
        fun st => (st.state, st.notice)) = some (.idle, true) := by decide +kernel

theorem test_witness_StationsComeGoPollAndReport :
    (yard.stations[7]?).map Station.state = some .offShift ∧ yard.mode ≠ .closed ∧ closedYard.mode = .closed ∧
      (yard.tasks.find? fun t => decide (t.station = some 1)) = none ∧
      (yard.tasks.find? fun t => decide (t.station = some 3)).map (fun t => (t.state, t.isFetch)) =
        some (.accepted, false) ∧
      (yard.tasks.find? fun t => decide (t.station = some 2)).map (fun t => (t.state, t.kind, t.subject)) =
        some (.lifted, .fetch ⟨1, 1⟩, 4) ∧
      (Table.get yard.packs 4).isSome = true ∧ (Table.get yard.packs 8).isSome = true ∧
      (Table.get yard.orders 1).isSome = true := by decide +kernel

/-- The small yard with its accepted task offered again. -/
def offering : State := { yard with tasks := tasks.map fun t => { t with state := .offered } }

theorem test_witness_OffersAreAcceptedAndDeclined :
    ((heldTask offering 3).map fun t => (t.number, t.state)) = some (3, .offered) ∧
      ((heldTask yard 3).map fun t => (t.number, t.state)) = some (3, .accepted) ∧ heldTask yard 1 = none := by
  decide +kernel

theorem test_witness_LiftsTakeThePackOffItsStack :
    ((heldTask yard 3).map fun t => (t.subject, t.state)) = some (8, .accepted) ∧
      (Table.get yard.packs 8).map Pack.location = some (some ⟨0, 1, 1⟩) ∧
      ((heldTask yard 2).map fun t => (t.subject, t.state)) = some (4, .lifted) ∧ heldTask yard 1 = none ∧
      (yard.stations[0]?).map Station.state = some .idle ∧
      (openTaskOn yard 3).map Task.isFetch = some true ∧ movingAbove yard 3 = true ∧
      movingAbove { yard with packs := packs.filter fun e => e.1 ≠ 8 } 3 = false ∧
      (4 ∉ yard.tasks.map Task.number ∧ ∀ m, m < 4 → 1 ≤ m → m ∈ yard.tasks.map Task.number) ∧
      (∀ u ∈ yard.tasks, u.subject ≠ 2) ∧ stateOf yard 2 = some .stored ∧ dig yard 2 = 0 ∧ yard.tasks.length < 48 ∧
      48 ≤ { yard with tasks := List.replicate 48 ⟨9, .giveBack, 9, .lifted, none, none, none, none, none⟩ }.tasks.length := by
  decide +kernel

/-- The truck at point 1, and a lifted SHIFT. -/
def atTruck : State := { yard with lines := yard.lines.set 3 ⟨true, none⟩ }

/-- The small yard with the lifted task a RETURN. -/
def returning : State :=
  { yard with tasks := tasks.map fun t => if t.number = 2 then { t with kind := .giveBack } else t }

theorem test_witness_DropsEndTheCarry :
    ((heldTask atTruck 2).map fun t => (t.state, t.kind)) = some (.lifted, .fetch ⟨1, 1⟩) ∧
      (Table.get atTruck.orders 1).map Order.point = some (some 1) ∧ lineActive atTruck 3 = true ∧
      lineActive yard 3 = false ∧ (heldTask returning 2).map Task.isFetch = some false ∧
      putDownCheck yard 1 1 .mode = none ∧ (Table.get yard.packs 4).isSome = true ∧
      ((Table.get yard.orders 1).map fun o =>
        (o.lines.map fun l => decide (l.loaded + 1 = l.item.quantity))) = some [false] ∧
      ((Table.get (Table.update yard.orders 1 fun o =>
        { o with lines := o.lines.map fun l => { l with loaded := 3 } }) 1).map fun o =>
        (o.lines.map fun l => decide (l.loaded + 1 = l.item.quantity))) = some [true] := by decide +kernel

/-- The small yard in the rain, where product 5 needs kiln. -/
def wetting : State :=
  { yard with
    raining := true
    products := yard.products.set 5 ⟨true, ⟨1, 2, 50, 150, true, 30⟩, [6]⟩ }

/-- A RESERVED pack whose wetting releases it, and ones whose wetting does not: a line without kiln, a FETCH taken. -/
theorem test_witness_wettings :
    lineNeedsKiln wetting ⟨1, 1⟩ = true ∧ fetchUntaken wetting 3 = true ∧ lineNeedsKiln yard ⟨9, 1⟩ = false ∧
      fetchUntaken { wetting with tasks := wetting.tasks.map fun t => { t with state := .accepted } } 3 = false ∧
      stateOf wetting 3 = some .reserved ∧ Table.rising wetting.packs ∧
      (∀ e ∈ wetting.packs, e.2.inStack 0 1 = true → e.2.state = .reserved → e.1 = 3) ∧
      (∀ e ∈ wetting.packs, e.2.inStack 0 0 = true → e.2.state ≠ .reserved) ∧
      stateOf (wetStack wetting 0 1) 3 = some .stored ∧
      (Table.get (wetStack wetting 0 1).packs 8).map Pack.wetted = some true := by decide +kernel

/-- The FETCH of pack 3 held by station 3 as accepted, in place of the SHIFT. -/
def fetching : State := { yard with tasks := [⟨1, .fetch ⟨1, 1⟩, 3, .accepted, some 3, none, none, some 5, none⟩] }

theorem test_witness_AMissingReportReleasesTheReservation :
    ((heldTask yard 3).map fun t => (t.isFetch, t.state)) = some (false, .accepted) ∧
      (Table.get yard.packs 8).map Pack.location = some (some ⟨0, 1, 1⟩) ∧
      ((heldTask fetching 3).map fun t => (t.isFetch, t.state)) = some (true, .accepted) ∧
      (heldTask yard 2).map Task.state = some .lifted ∧
      ((Table.get (Table.update yard.packs 4 fun p => { p with location := some ⟨1, 1, 0⟩ }) 4).map fun p =>
        p.location.isSome) = some true := by decide +kernel

theorem test_witness_WatchesAreSetReadAndCleared : yard.watches.length = 4 := by decide +kernel

/-- A stored pack that becomes held matches an armed watch on the state HELD; a watch that is not armed, a value that
does not match, and one that matched before, do not hit. -/
theorem test_witness_AWatchHitsWhenTheValueComesToMatch :
    valueAfter .state (some (pack .held none none none none)) = some 6#8 ∧
      valueBefore .state (some (pack .stored none none none none)) = some 1#8 ∧
      valueAfter .state none = some 7#8 ∧ valueAfter .bay none = none ∧ valueBefore .bay none = none ∧
      (6#8 &&& 255#8 = 6#8 &&& 255#8) ∧ (1#8 &&& 255#8 ≠ 6#8 &&& 255#8) ∧
      (after (.setWatch 1 .state 6 255 true) yard).watches[0]? = some ⟨true, .state, 6, 255, true, 0, none⟩ ∧
      yard.watches[0]? = some Watch.default ∧ ∀ w ∈ yard.watches, w.armed = false := by decide +kernel

theorem test_witness_resets :
    yard.supplyOff = false ∧ { yard with supplyOff := true }.supplyOff = true ∧ yard.port ≠ .starting ∧
      yard.stopped = false ∧ (after (.resetPin .low) yard).port = .starting ∧
      (after (.resetPin .low) yard).stopped = false ∧ (after (.resetPin .low) yard).supply = .low ∧
      { after (.resetPin .low) yard with overrunNoted := true }.overrunNoted = true ∧
      (after (.resetPin .low) yard).summary = 0#19 ∧
      (abandoned (.checking 0) 0).stopped = true := by decide +kernel

/-- The small yard with a scan of order 3 that waits for the supply. -/
def waiting : State :=
  { lowYard with engine := ⟨.waiting, some ⟨3, 1⟩, none, some ⟨1, 7, 4278, .first⟩, false, 0⟩ }

theorem test_witness_TheSupplyDipsAndRecovers :
    yard.supply = .sound ∧ yard.port ≠ .starting ∧ (after (.resetPin .sound) yard).supply = .sound ∧
      (after (.resetPin .sound) yard).port = .starting ∧ lowYard.supply = .low ∧ lowYard.engine.state ≠ .waiting ∧
      waiting.supply = .low ∧ waiting.engine.state = .waiting ∧
      waiting.engine.lead = some ⟨1, 7, 4278, .first⟩ ∧ waiting.stopped = false := by decide +kernel

theorem test_witness_LinesTakeTheirEdges :
    yard.running = true ∧ 15 < 16 ∧ (tick (tick rainy)).lines[1]? = some ⟨false, some 0⟩ ∧
      { closedYard with settings := { closedYard.settings with autoOpen := true } }.mode = .closed ∧
      yard.mode ≠ .closed ∧ yard.sweep = none ∧
      (yard.orders.find? fun e => decide (e.2.point = some 1)).map Prod.fst = some 1 ∧ orderHasLifted yard 1 = true ∧
      (∀ e ∈ yard.orders, e.2.point ≠ some 4) ∧ closedYard.settings.autoOpen = false := by decide +kernel

/-- The sweep's next stack, a covered bay passed over, and no stack left. -/
theorem test_witness_sweeps :
    (∀ b k, ¬ (b ≤ 63 ∧ k < (yard.bay b).stackCount ∧ (yard.bay b).covered = false ∧
      (63 < b ∨ (63 = b ∧ 1 ≤ k)))) ∧
      (yard.bay 0).covered = false ∧ 1 < (yard.bay 0).stackCount ∧ (yard.bay 1).covered = true ∧
      nextSweepStack yard (0, 1) = some (0, 1) ∧ nextSweepStack yard (0, 2) = some (2, 0) := by
  refine ⟨?_, by decide +kernel⟩
  rintro b k ⟨h1, h2, -, h3⟩
  have hb : (yard.bay 63).stackCount = 1 := by decide +kernel
  rcases h3 with h3 | ⟨rfl, h3⟩ <;> omega

/-- Line 1 of `rainy` before its pin rises, while its period runs, and with debounce 0. -/
theorem test_witness_DebounceHoldsEdgesBack :
    (yard.lines[1]? = some ⟨false, none⟩ ∧ lineWanted yard 1 = false) ∧
      (rainy.lines[1]? = some ⟨false, some 2⟩ ∧ lineWanted rainy 1 = true) ∧
      (let s := { rainy with lines := yard.lines }
       s.lines[1]? = some ⟨false, none⟩ ∧ lineWanted s 1 = true ∧ (lineSetting s 1).debounce ≠ 0) ∧
      (let s := { rainy with lines := yard.lines, lineSettings := rainy.lineSettings.set 1 ⟨true, true, 0, 0⟩ }
       lineWanted s 1 = true ∧ (lineSetting s 1).debounce = 0) := by decide +kernel

/-- A line's settings and the pin of each source choice; a line that is active on a low pin, and one not enabled. -/
theorem test_witness_pins :
    rainy.lineSettings[1]? = some ⟨true, true, 0, 20⟩ ∧ rainy.pins.getLsbD 1 = true ∧
      (List.range 4).map (linePin 1) = [1, 8, 14, 15] ∧
      lineWanted (after (.setLine (some ⟨6, ⟨true, false, 3, 20⟩, none⟩)) yard) 6 = true ∧
      lineWanted (after (.setLine (some ⟨6, ⟨false, false, 3, 20⟩, none⟩)) yard) 6 = false := by decide +kernel

theorem test_witness_CostsStayInTheirRange :
    yard.settings.weights.dig ≤ 15 ∧ yard.settings.weights.distance ≤ 15 ∧ yard.settings.weights.age ≤ 15 ∧
      yard.settings.weights.substitution ≤ 15 ∧ dig yard 1 ≤ 5 ∧
      ((yard.order 3).map fun o => decide (packDistance yard o (pack .stored (some ⟨0, 0, 0⟩) none none none) ≤ 30)) =
        some true ∧
      servingPosition yard item 5 = some 0 ∧ servingPosition yard item 6 = some 1 ∧
      servingPosition yard item 7 = none ∧ (yard.product 5).substitutes[1 - 1]? = some 6 := by decide +kernel

/-- The small yard in the first pass of a scan of order 3. -/
def scanning : State := after .scanStart yard

/-- The record of pack 1 of the small yard. -/
def stored1 : Pack := pack .stored (some ⟨0, 0, 0⟩) none none none

/-- A pack of the substitute product, beside the others. -/
def mixed : State :=
  { scanning with packs := Table.put packs 9 { pack .stored (some ⟨1, 1, 0⟩) none none none with product := 6 } }

/-- A visit at the walk's beginning, one further on in the chain, and one past the chain's end. -/
theorem test_visits :
    visitsNext scanning item ⟨5, 0, 1, stored1⟩ ∧
      visitsNext { scanning with engine := { scanning.engine with walk := some ⟨5, 0, 7, 1⟩ } } item
        ⟨5, 0, 2, pack .stored (some ⟨0, 0, 1⟩) none none none⟩ ∧
      visitsNext { mixed with engine := { mixed.engine with walk := some ⟨5, 0, 7, 8⟩ } } item
        ⟨6, 1, 9, { pack .stored (some ⟨1, 1, 0⟩) none none none with product := 6 }⟩ := by
  refine ⟨⟨fun _ => ⟨Nat.le_refl 0, .inl ⟨rfl, rfl⟩, ?_, fun p _ h => absurd h (by simp)⟩, by rintro w ⟨⟩⟩,
    ⟨by rintro ⟨⟩, ?_⟩, ⟨by rintro ⟨⟩, ?_⟩⟩
  · exact (find_visitable (by decide +kernel) (p := fun _ => true) (by simp) _).mp (by decide +kernel)
  · rintro w ⟨⟩
    exact .inl ⟨rfl, rfl, (find_visitable (by decide +kernel) (p := afterPlace 7 1)
      (fun e => by simp [afterPlace, follows]) _).mp (by decide +kernel)⟩
  · rintro w ⟨⟩
    refine .inr ⟨?_, Nat.le_refl 1, .inr ⟨rfl, Nat.le_refl 1, by decide +kernel⟩, ?_, fun p h1 h2 => ?_⟩
    · exact fun e he => (by unfold follows; decide +kernel : ∀ e ∈ mixed.packs, e.2.product = 5 → ¬ follows 7 8 e)
        e he.1 he.2.1
    · exact (find_visitable (by decide +kernel) (p := fun _ => true) (by simp) _).mp (by decide +kernel)
    · simp at h1 h2; omega

theorem test_witness_TheEngineChoosesAndVisits :
    (yard.running = true ∧ yard.engine.state = .idle ∧ yard.supply = .sound ∧ yard.mode ≠ .closed ∧
      yard.queue = [] ++ 3 :: [1, 2] ∧ (yard.order 3).map Order.lines = some ([] ++ ⟨item, 0, 0, false⟩ :: []) ∧
      (yard.order 3).map Order.proposal = some none ∧
      ((yard.order 3).map fun o => decide (o.committed < o.payload)) = some true) ∧
      (scanning.engine.state = .firstPass ∧ scanning.engine.line = some ⟨3, 1⟩ ∧ Table.rising scanning.packs ∧
        (nextVisit scanning item).map Visit.tag = some 1) ∧
      ({ scanning with engine := scanning.engine.toSecondPass }.engine.state = .secondPass ∧
        (nextVisit { scanning with engine := scanning.engine.toSecondPass } item).map Visit.tag = some 3) := by
  decide +kernel

/-- Packs that fit a line and one that no place holds, for the tests of the two passes. -/
theorem test_witness_the_tests_of_the_passes :
    (∃ o p q, Table.get yard.orders 3 = some o ∧ Table.get yard.packs 1 = some p ∧ p.location = some ⟨0, 0, 0⟩ ∧
      fitsLine yard o item 1 p = true ∧ firstPassOk yard o item 1 p = true ∧ Table.get yard.packs 3 = some q ∧
      q.location = some ⟨0, 1, 0⟩ ∧ secondPassOk yard o item 3 q = true ∧ fitsLine yard o { item with low := 41 } 1 p = false) ∧
    (Table.get yard.packs 4).map Pack.location = some none :=
  ⟨⟨_, _, _, rfl, rfl, rfl, by decide +kernel, by decide +kernel, rfl, rfl, by decide +kernel, by decide +kernel⟩, rfl⟩

/-- The walk of `scanning` at its end, with a leading candidate or none. -/
def walked (state : EngineState) (lead : Option Candidate) (s : State) : State :=
  { s with engine := ⟨state, some ⟨3, 1⟩, some ⟨6, 1, 65535, 16777215⟩, lead, false, 0⟩ }

/-- A walk with nothing left to visit. -/
theorem test_no_visit (state : EngineState) (lead : Option Candidate) :
    ∀ v, ¬ visitsNext (walked state lead yard) item v := by
  rintro v ⟨-, h⟩
  rcases h _ rfl with ⟨-, -, h, -⟩ | ⟨-, h1, h2, -⟩
  · exact (by decide +kernel : ∀ e ∈ yard.packs, e.2.product ≠ 6) _ h.1 h.2.1
  · rcases h2 with ⟨h2, -⟩ | ⟨-, -, h2⟩
    · rw [h2] at h1
      exact absurd h1 (by simp)
    · have hs : (yard.product 5).substitutes = [6] := by decide +kernel
      have h3 : (yard.product 5).substitutes[v.position - 1]? = some v.code := h2
      have h4 : 2 ≤ v.position := h1
      rw [hs, List.getElem?_eq_none (by simp; omega)] at h3
      cases h3

/-- A SCAN_START that begins no scan: a scan under way, a closed yard, a low supply, no line that wants a pack. -/
theorem test_witness_no_scan :
    scanning.engine.state ≠ .idle ∧ closedYard.mode = .closed ∧ lowYard.supply = .low ∧ lowYard.running = true ∧
      (let s : State := { yard with queue := [2] }
       ∀ h ∈ s.queue, ∀ o ∈ Table.get s.orders h, o.proposal ≠ none) := by
  refine ⟨by decide +kernel, rfl, rfl, by decide +kernel, ?_⟩
  intro s h hh
  have e : h = 2 := by simpa [s] using hh
  subst e
  exact option_all (p := fun o : Order => o.proposal ≠ none) (by decide +kernel)

theorem test_witness_APassEndsWithItsOutcome :
    ∃ o p q, Table.get yard.orders 3 = some o ∧ nth o.lines 1 = some ⟨item, 0, 0, false⟩ ∧ 0 < item.quantity ∧
      (∀ v, ¬ visitsNext (walked .firstPass none yard) item v) ∧
      (∀ v, ¬ visitsNext (walked .secondPass none yard) item v) ∧ Table.rising yard.packs ∧
      ({ waiting with supply := .sound }.engine.state = .waiting ∧ waiting.running = true) ∧
      (walked .firstPass none yard).running = true ∧ Table.get yard.packs 1 = some p ∧
      firstPassOk (walked .firstPass none yard) o item 1 p = true ∧ Table.get yard.packs 3 = some q ∧
      secondPassOk (walked .secondPass none yard) o item 3 q = true ∧ o.supervised = false ∧ 0 < o.level ∧
      passOk .first (walked .firstPass none yard) o item 3 q = false ∧
      (walked .firstPass none lowYard).supply = .low :=
  ⟨_, _, _, rfl, rfl, by decide, test_no_visit _ _, test_no_visit _ _, by decide +kernel, ⟨rfl, by decide +kernel⟩,
    by decide +kernel, rfl, by decide +kernel, rfl,
    by decide +kernel, rfl, by decide, by decide +kernel, rfl⟩

/-- A supervised order without a proposal, and an order of level 0, for the same statement. -/
theorem test_witness_pass_end_orders :
    ((yard.order 2).map fun o => ({ o with proposal := none } : Order)).map
        (fun o => (o.supervised, o.proposal, o.level)) = some (true, none, 0) := by decide +kernel

/-- The small yard with the SHIFT open and the FETCH kept back by it. -/
def opened : State := { yard with tasks := tasks.map fun t => if t.number = 3 then t.toOpen none else t }

theorem test_witness_TheArbiterOffersTheHighestRank :
    opened.running = true ∧ lineActive opened 2 = false ∧ (chosenTask opened).map Task.number = some 3 ∧
      (chosenTask opened).bind (chosenStation opened) = some 1 ∧
      (opened.tasks.find? fun t => decide (t.number = 3)).map Task.kind = some (.shift 3) ∧
      (Table.get opened.packs 8).map Pack.location = some (some ⟨0, 1, 1⟩) ∧
      (Table.get opened.packs 3).map Pack.reservation = some (some ⟨1, 1⟩) ∧
      (opened.stations[0]?).map Station.lastBay = some (some 0) ∧
      (opened.stations[2]?).map Station.lastBay = some none ∧
      (opened.tasks.find? fun t => decide (t.number = 3)).map (suggestFor opened) = some (some (0, 0)) ∧
      ∀ u ∈ ({ opened with tasks := [] } : State).tasks, offerable opened u = true → False := by decide +kernel

/-- A SHIFT with no stack to go to: both bays disabled. -/
theorem test_witness_no_suggestion :
    (opened.tasks.find? fun t => decide (t.number = 3)).map
      (suggestFor { opened with yardMap := YardMap.default }) = some none := by decide +kernel

theorem test_witness_TaskTimersLapse :
    ((offering.task 3).map fun t => (t.state, t.deadline, t.station)) = some (.offered, some 0, some 3) ∧
      (offering.stations[2]?).map Station.lapses = some 0 ∧
      ({ yard with stations := yard.stations.set 2 ⟨.offered, some 3000, none, 2, false⟩ }.stations[2]?).map
        Station.lapses = some 2 ∧
      ((yard.task 3).map fun t => (t.state, t.deadline, t.station)) = some (.accepted, some 0, some 3) ∧
      ((yard.task 2).map fun t => (t.state, t.alarm, t.station)) = some (.lifted, some 0, some 2) := by
  decide +kernel

end Sys2Proof.Tests
end

section
/-!
PROOFS. Family 1, yard: READ_BAY (R14).
-/

namespace Sys2Proof.Proofs

open Sys2Proof.Machine Sys2Proof.Safety

/-! ## The bay table -/

/-- A bay that the table lists has the listed entry (R1). -/
theorem bay_of_getElem? {s : State} {b : Nat} {e : Bay} (h : s.yardMap.bays[b]? = some e) : s.bay b = e := by
  simp [State.bay, List.getD, h]

/-! ## READ_BAY (R14) -/

/-- READ_BAY is served by the Yard Map. -/
theorem exec_readBay (bay : Nat) (s : State) :
    exec (.readBay bay) s = serve (.readBay bay) (readBayBlock bay) s := rfl

/-- READ_BAY carries the station field of a request outside family 5 (R172 step 2). -/
theorem readBay_stationAllowed (bay : Nat) :
    stationAllowed (familyOf (Instr.readBay bay).requestCode) (Instr.readBay bay).stationField = true :=
  allowed_plain 0x11 rfl rfl (by decide)

/-- A bay the yard has is read, whatever the mode and the supply, and nothing changes. -/
theorem readBayBlock_taken {bay : Nat} (h : bay ≤ 63) (s : State) :
    readBayBlock bay s = taken (bayReply s bay) s := if_neg (Nat.not_lt.mpr h)

/-- A bay the yard has not is refused, and nothing changes. -/
theorem readBayBlock_refused {bay : Nat} (h : 63 < bay) (s : State) :
    readBayBlock bay s = refuse .badField s := if_pos h

/-- Settles O24: the block's branch on the bay number, carried through the service of a request. -/
theorem readBayGivesTheEntry : Obligations.ReadBayGivesTheEntry := by
  intro bay s hblock
  have hallowed := readBay_stationAllowed bay
  refine ⟨fun e => bay_of_getElem?, fun hbay => ?_, fun hbay => ?_⟩
  · rw [exec_readBay]
    exact serve_taken (by simp) hblock hallowed (readBayBlock_taken hbay s)
  · rw [exec_readBay]
    exact serve_refused (by simp) hblock hallowed (readBayBlock_refused hbay s)

end Sys2Proof.Proofs
end

section
/-!
PROOFS. Family 2, products: SET_SUBSTITUTES (R20, R26) and READ_PRODUCT (R27).
-/

namespace Sys2Proof.Proofs

open Sys2Proof.Machine Sys2Proof.Safety

/-! ## The product table -/

/-- A product that the table lists has the listed entry (R17). -/
theorem product_of_getElem? {s : State} {code : Nat} {p : Product} (h : s.products[code]? = some p) :
    s.product code = p := by
  simp [State.product, List.getD, h]

/-- A code is in use where a live pack or a line of a live order names it (R24). -/
theorem productInUse_iff (s : State) (code : Nat) :
    productInUse s code = true ↔
      (∃ e ∈ s.packs, e.2.product = code) ∨ ∃ e ∈ s.orders, ∃ l ∈ e.2.lines, l.item.product = code := by
  simp only [productInUse, Bool.or_eq_true, List.any_eq_true, decide_eq_true_eq]

/-- A chain holds the located packs of its product, each once (R34). -/
theorem length_chain (s : State) (code : Nat) :
    (chain s code).length =
      (s.packs.filter fun e => decide (e.2.product = code) && e.2.location.isSome).length :=
  (sortBy_perm _ _).length_eq

/-! ## Soundness of a substitute list (R20, R26) -/

/-- A listing is sound where both products are defined, agree in species, thickness and width, and the listed one is of
no lower grade (R20). -/
theorem sound_iff (p q : Product) :
    sound p q = true ↔
      p.defined = true ∧ q.defined = true ∧ q.fields.species = p.fields.species ∧
        q.fields.thickness = p.fields.thickness ∧ q.fields.width = p.fields.width ∧
        p.fields.grade ≤ q.fields.grade := by
  simp only [sound, Bool.and_eq_true, decide_eq_true_eq, and_assoc]

/-- The lists a defined product may have: no code twice, none its own, each defined and sound (R26 check 4). -/
theorem listOk_iff {s : State} {code : Nat} (hdef : (s.product code).defined = true) (codes : List Nat) :
    listOk s code codes = true ↔
      codes.Nodup ∧
        ∀ q ∈ codes,
          q ≠ code ∧ (s.product q).defined = true ∧
            (s.product q).fields.species = (s.product code).fields.species ∧
            (s.product q).fields.thickness = (s.product code).fields.thickness ∧
            (s.product q).fields.width = (s.product code).fields.width ∧
            (s.product code).fields.grade ≤ (s.product q).fields.grade := by
  simp only [listOk, Bool.and_eq_true, List.all_eq_true, decide_eq_true_eq, sound_iff, hdef, true_and]
  exact and_comm

/-- The lists a defined product may not have, by what is wrong with them (R26 check 4). -/
theorem listOk_eq_false_iff {s : State} {code : Nat} (hdef : (s.product code).defined = true) (codes : List Nat) :
    listOk s code codes = false ↔
      ¬ codes.Nodup ∨
        ∃ q ∈ codes,
          q = code ∨ (s.product q).defined = false ∨
            (s.product q).fields.species ≠ (s.product code).fields.species ∨
            (s.product q).fields.thickness ≠ (s.product code).fields.thickness ∨
            (s.product q).fields.width ≠ (s.product code).fields.width ∨
            (s.product q).fields.grade < (s.product code).fields.grade := by
  rw [← Bool.not_eq_true, listOk_iff hdef]
  simp only [not_and_or, not_forall, exists_prop, not_not, Bool.not_eq_true, Nat.not_le, ne_eq]

/-! ## SET_SUBSTITUTES (R26) -/

/-- SET_SUBSTITUTES is served by the Product Table. -/
theorem exec_setSubstitutes (code : Nat) (codes : List Nat) (s : State) :
    exec (.setSubstitutes code codes) s =
      serve (.setSubstitutes code codes) (setSubstitutesBlock code codes) s := rfl

/-- SET_SUBSTITUTES carries the station field of a request outside family 5 (R172 step 2). -/
theorem setSubstitutes_stationAllowed (code : Nat) (codes : List Nat) :
    stationAllowed (familyOf (Instr.setSubstitutes code codes).requestCode)
      (Instr.setSubstitutes code codes).stationField = true :=
  allowed_plain 0x22 rfl rfl (by decide)

/-- A list too long or a code out of range is refused at any supply, and nothing changes (R26 check 1). -/
theorem setSubstitutesBlock_outOfRange {code : Nat} {codes : List Nat}
    (h : code = 0 ∨ 255 < code ∨ 3 < codes.length ∨ ∃ q ∈ codes, q = 0 ∨ 255 < q) (s : State) :
    setSubstitutesBlock code codes s = refuse .badField s := by
  refine if_pos ?_
  rcases h with h | h | h | ⟨q, hq, h⟩
  · exact Or.inl (by omega)
  · exact Or.inl (by omega)
  · exact Or.inr (Or.inl h)
  · refine Or.inr (Or.inr fun hall => ?_)
    obtain ⟨hlow, hhigh⟩ := hall q hq
    omega

section
variable {code : Nat} {codes : List Nat} {s : State}

/-- With its fields in range and the supply sound, a list is judged by the product and then by its codes
(R26 checks 3 and 4). -/
theorem setSubstitutesBlock_inRange (hcode : codeOk code) (hlen : codes.length ≤ 3) (hcodes : ∀ q ∈ codes, codeOk q)
    (hsupply : s.supply = .sound) :
    setSubstitutesBlock code codes s =
      if (s.product code).defined = false then refuse .notFound s
      else if listOk s code codes = false then refuse .badField s
      else taken (byte codes.length :: codes.map byte) (clearStarved (writeSubstitutes code codes s)) := by
  have hfields : ¬ (¬ codeOk code ∨ 3 < codes.length ∨ ¬ ∀ q ∈ codes, codeOk q) := by
    rintro (h | h | h)
    · exact h hcode
    · exact Nat.not_lt.mpr hlen h
    · exact h hcodes
  have hlow : ¬ s.low = true := by simp [State.low, hsupply]
  rw [setSubstitutesBlock, if_neg hfields, if_neg hlow]

/-- A list for a product that is not defined is refused (R26 check 3). -/
theorem setSubstitutesBlock_undefined (hcode : codeOk code) (hlen : codes.length ≤ 3)
    (hcodes : ∀ q ∈ codes, codeOk q) (hsupply : s.supply = .sound) (hdef : (s.product code).defined = false) :
    setSubstitutesBlock code codes s = refuse .notFound s := by
  rw [setSubstitutesBlock_inRange hcode hlen hcodes hsupply, if_pos hdef]

/-- A list that may not stand is refused (R26 check 4). -/
theorem setSubstitutesBlock_unsound (hcode : codeOk code) (hlen : codes.length ≤ 3)
    (hcodes : ∀ q ∈ codes, codeOk q) (hsupply : s.supply = .sound) (hdef : (s.product code).defined = true)
    (hbad : listOk s code codes = false) : setSubstitutesBlock code codes s = refuse .badField s := by
  rw [setSubstitutesBlock_inRange hcode hlen hcodes hsupply, if_neg (by simp [hdef]), if_pos hbad]

/-- A list that may stand replaces the one before it whole, and clears every STARVED flag (R26, R87). -/
theorem setSubstitutesBlock_taken (hcode : codeOk code) (hlen : codes.length ≤ 3)
    (hcodes : ∀ q ∈ codes, codeOk q) (hsupply : s.supply = .sound) (hdef : (s.product code).defined = true)
    (hok : listOk s code codes = true) :
    setSubstitutesBlock code codes s =
      taken (byte codes.length :: codes.map byte)
        (clearStarved
          { s with products := s.products.set code { s.product code with substitutes := codes } }) := by
  rw [setSubstitutesBlock_inRange hcode hlen hcodes hsupply, if_neg (by simp [hdef]), if_neg (by simp [hok])]
  rfl

end

/-! ## READ_PRODUCT (R27) -/

/-- READ_PRODUCT is served by the Product Table. -/
theorem exec_readProduct (code : Nat) (s : State) :
    exec (.readProduct code) s = serve (.readProduct code) (readProductBlock code) s := rfl

/-- READ_PRODUCT carries the station field of a request outside family 5 (R172 step 2). -/
theorem readProduct_stationAllowed (code : Nat) :
    stationAllowed (familyOf (Instr.readProduct code).requestCode) (Instr.readProduct code).stationField = true :=
  allowed_plain 0x21 rfl rfl (by decide)

/-- A code the table has is read, whatever the mode and the supply, and nothing changes. -/
theorem readProductBlock_taken {code : Nat} (h : code ≤ 255) (s : State) :
    readProductBlock code s = taken (productReply s code) s := if_neg (Nat.not_lt.mpr h)

/-- A code the table has not is refused, and nothing changes. -/
theorem readProductBlock_refused {code : Nat} (h : 255 < code) (s : State) :
    readProductBlock code s = refuse .badField s := if_pos h

/-- The reply of READ_PRODUCT with its two counts said of the records: the located packs of the product, and whether a
record names it (R27, R197). -/
theorem productReply_eq {s : State} {code : Nat} {inUse : Bool} (huse : productInUse s code = inUse) :
    productReply s code =
      [byte code, markByte (s.product code).defined, byte (s.product code).fields.species,
          byte (s.product code).fields.grade] ++
        be2 (s.product code).fields.thickness ++ be2 (s.product code).fields.width ++
        [markByte (s.product code).fields.needsKiln] ++ be2 (s.product code).fields.airDryDays ++
        be2 (s.packs.filter fun e => decide (e.2.product = code) && e.2.location.isSome).length ++
        [markByte inUse, byte (s.product code).substitutes.length] ++
        (s.product code).substitutes.map byte := by
  rw [← length_chain, ← huse]
  rfl

/-! ## The statement -/

/-- Settles O32: the checks of SET_SUBSTITUTES in their order and the one of READ_PRODUCT, each carried through the
service of a request. -/
theorem substituteListsAreReplacedWhole : Obligations.SubstituteListsAreReplacedWhole := by
  intro code codes inUse s hinUse
  have hset := setSubstitutes_stationAllowed code codes
  have hread := readProduct_stationAllowed code
  have huse : productInUse s code = inUse := Bool.eq_iff_iff.mpr ((productInUse_iff s code).trans hinUse.symm)
  refine ⟨fun p => product_of_getElem?, fun hblock hout => ?_, fun hblock h1 h255 hlen hsupply hcodes => ⟨fun hdef => ?_,
    fun hdef hbad => ?_⟩, fun hblock h1 h255 hlen hsupply hdef hnodup hcodes => ?_, fun hblock hcode => ?_,
    fun hblock hcode => ?_⟩
  · rw [exec_setSubstitutes]
    exact serve_refused (by simp) hblock hset (setSubstitutesBlock_outOfRange hout s)
  · rw [exec_setSubstitutes]
    exact serve_refused (by simp) hblock hset
      (setSubstitutesBlock_undefined ⟨h1, h255⟩ hlen hcodes hsupply hdef)
  · rw [exec_setSubstitutes]
    exact serve_refused (by simp) hblock hset
      (setSubstitutesBlock_unsound ⟨h1, h255⟩ hlen hcodes hsupply hdef ((listOk_eq_false_iff hdef codes).mpr hbad))
  · have hrange : ∀ q ∈ codes, codeOk q := fun q hq =>
      have ⟨hlow, hhigh, _⟩ := hcodes q hq
      ⟨hlow, hhigh⟩
    have hok : listOk s code codes = true := (listOk_iff hdef codes).mpr ⟨hnodup, fun q hq =>
      have ⟨_, _, hsound⟩ := hcodes q hq
      hsound⟩
    rw [exec_setSubstitutes]
    exact serve_taken (by simp) hblock hset
      (setSubstitutesBlock_taken ⟨h1, h255⟩ hlen hrange hsupply hdef hok)
  · rw [exec_readProduct, ← productReply_eq huse]
    exact serve_taken (by simp) hblock hread (readProductBlock_taken hcode s)
  · rw [exec_readProduct]
    exact serve_refused (by simp) hblock hread (readProductBlock_refused hcode s)

end Sys2Proof.Proofs
end

section
/-!
PROOFS. Family 3, pack records: READ_PACK (R45), READ_STACK (R46) and FIND_OLDEST (R47).
-/

namespace Sys2Proof.Proofs

open Sys2Proof.Machine Sys2Proof.Safety

/-! ## Lengths of the pieces of a reply (R189) -/

@[simp] theorem length_be2 (n : Nat) : (be2 n).length = 2 := rfl

@[simp] theorem length_be3 (n : Nat) : (be3 n).length = 3 := rfl

@[simp] theorem length_presence (bits : List Bool) : (presence bits).length = 1 := rfl

/-- An optional field takes its bytes whether it is there or not (R189). -/
theorem length_orZeros {α : Type} {n : Nat} {f : α → List Byte} (h : ∀ a, (f a).length = n) (o : Option α) :
    (orZeros n f o).length = n := by
  cases o with
  | none => exact List.length_replicate
  | some a => exact h a

/-- An optional two-byte number takes two bytes. -/
@[simp] theorem length_orZeros_be2 (o : Option Nat) : (orZeros 2 be2 o).length = 2 := length_orZeros length_be2 o

@[simp] theorem length_locationBytes (l : Location) : (locationBytes l).length = 3 := rfl

/-- An optional location takes three bytes. -/
@[simp] theorem length_orZeros_locationBytes (o : Option Location) : (orZeros 3 locationBytes o).length = 3 :=
  length_orZeros length_locationBytes o

/-! ## The bytes of a record's optional fields (R192, R197) -/

/-- The drying and the ready day of a pack: the ready day belongs to AIR alone. -/
def dryingBytes : PackDrying → List Byte
  | .kiln => [0#8, 0#8, 0#8]
  | .air ready => 1#8 :: be2 ready

/-- The place of a pack. -/
def placeBytes : Option Location → List Byte
  | none => [0#8, 0#8, 0#8]
  | some l => [byte l.bay, byte l.stack, byte l.tier]

/-- The place of a pack with its dig. -/
def digPlaceBytes (s : State) (tag : Nat) : Option Location → List Byte
  | none => [0#8, 0#8, 0#8, 0#8]
  | some l => [byte l.bay, byte l.stack, byte l.tier, byte (dig s tag)]

/-- The order line a pack is reserved for. -/
def lineBytes : Option LineRef → List Byte
  | none => [0#8, 0#8]
  | some r => [byte r.handle, byte r.line]

/-- The task a pack names, with its kind and its state where it lives. -/
def taskBytes (s : State) : Option Nat → List Byte
  | none => [0#8, 0#8, 0#8]
  | some n =>
    byte n ::
      match s.tasks.find? (fun t => decide (t.number = n)) with
      | none => [0#8, 0#8]
      | some t => [byte (taskKindNumber t.kind), byte (taskStateNumber t.state)]

/-- The reason a pack is held for. -/
def holdByte : Option HoldReason → Byte
  | none => 0#8
  | some h => byte (holdReasonNumber h)

/-- A pack has a ready day exactly where it dries in the air (R30). -/
theorem ready_isSome (p : Pack) : p.ready.isSome = decide (p.drying ≠ .kiln) := by
  unfold Pack.ready
  cases p.drying <;> rfl

/-- The machine's drying byte and ready day are the drying's bytes. -/
theorem dryingBytes_eq (p : Pack) : dryingBytes p.drying = p.dryingCode :: orZeros 2 be2 p.ready := by
  unfold Pack.dryingCode Pack.ready
  cases p.drying <;> rfl

/-- The machine's optional location is the place's bytes. -/
theorem orZeros_location (o : Option Location) : orZeros 3 locationBytes o = placeBytes o := by
  cases o <;> rfl

/-- The machine's optional reservation is the order line's bytes. -/
theorem orZeros_reservation (o : Option LineRef) :
    orZeros 2 (fun r : LineRef => [byte r.handle, byte r.line]) o = lineBytes o := by
  cases o <;> rfl

/-- The machine's location and dig are the bytes of the place with its dig. -/
theorem digPlaceBytes_eq (s : State) (tag : Nat) (o : Option Location) :
    digPlaceBytes s tag o = orZeros 3 locationBytes o ++ [if o.isSome then byte (dig s tag) else 0#8] := by
  cases o <;> rfl

/-- The machine's task number, kind and state are the task's bytes. -/
theorem taskBytes_eq (s : State) (o : Option Nat) :
    taskBytes s o = orZeros 1 be1 o ++ [taskKindByte s o, taskStateByte s o] := by
  cases o with
  | none => rfl
  | some n =>
    simp only [taskBytes, taskKindByte, taskStateByte, Option.bind_some, State.task]
    cases s.tasks.find? fun t => decide (t.number = n) <;> rfl

/-- The machine's optional hold reason is the hold's byte. -/
theorem orZeros_hold (o : Option HoldReason) :
    orZeros 1 (fun h => [byte (holdReasonNumber h)]) o = [holdByte o] := by
  cases o <;> rfl

/-! ## READ_PACK (R45) -/

/-- READ_PACK is served by the Pack Table. -/
theorem exec_readPack (tag : Nat) (s : State) :
    exec (.readPack tag) s = serve (.readPack tag) (readPackBlock tag) s := rfl

/-- READ_PACK carries the station field of a request outside family 5 (R172 step 2). -/
theorem readPack_stationAllowed (tag : Nat) :
    stationAllowed (familyOf (Instr.readPack tag).requestCode) (Instr.readPack tag).stationField = true :=
  allowed_plain 0x31 rfl rfl (by decide)

/-- A live pack is read, and nothing changes. -/
theorem readPackBlock_taken {tag : Nat} {p : Pack} {s : State} (h : tagOk tag)
    (hget : Table.get s.packs tag = some p) : readPackBlock tag s = taken (packReply s tag p) s := by
  rw [readPackBlock, if_neg (not_not.mpr h), hget]

/-- A tag that no pack bears is not found. -/
theorem readPackBlock_notFound {tag : Nat} {s : State} (h : tagOk tag) (hget : Table.get s.packs tag = none) :
    readPackBlock tag s = refuse .notFound s := by
  rw [readPackBlock, if_neg (not_not.mpr h), hget]

/-- A tag out of range is refused. -/
theorem readPackBlock_outOfRange {tag : Nat} (h : ¬ tagOk tag) (s : State) :
    readPackBlock tag s = refuse .badField s := if_pos h

/-- The reply of READ_PACK, field by field of the record (R45, R192). -/
theorem packReply_eq (s : State) (tag : Nat) (p : Pack) :
    packReply s tag p =
      [bitsByte
          [decide (p.drying ≠ .kiln), p.location.isSome, p.reservation.isSome, p.task.isSome, p.hold.isSome]] ++
        be3 tag ++ [byte p.product, byte p.length] ++ be2 p.count ++ be2 p.mass ++ be2 p.received ++
        dryingBytes p.drying ++ [markByte p.wetted, byte (packStateNumber p.state)] ++
        digPlaceBytes s tag p.location ++ lineBytes p.reservation ++ taskBytes s p.task ++ [holdByte p.hold] := by
  rw [dryingBytes_eq, digPlaceBytes_eq, taskBytes_eq, ← orZeros_reservation, ← orZeros_hold, ← ready_isSome]
  simp only [packReply, presence, List.append_assoc, List.cons_append, List.nil_append]

/-- The reply of READ_PACK takes 27 bytes (R192). -/
theorem length_packReply (s : State) (tag : Nat) (p : Pack) : (packReply s tag p).length = 27 := by
  have hline : (orZeros 2 (fun r : LineRef => [byte r.handle, byte r.line]) p.reservation).length = 2 :=
    length_orZeros (n := 2) (fun _ : LineRef => rfl) p.reservation
  have htask : (orZeros 1 be1 p.task).length = 1 := length_orZeros (n := 1) (fun _ : Nat => rfl) p.task
  simp [packReply, orZeros_hold, hline, htask]

/-! ## READ_STACK (R46) -/

/-- READ_STACK is served by the Pack Table. -/
theorem exec_readStack (bay stack : Nat) (s : State) :
    exec (.readStack bay stack) s = serve (.readStack bay stack) (readStackBlock bay stack) s := rfl

/-- READ_STACK carries the station field of a request outside family 5 (R172 step 2). -/
theorem readStack_stationAllowed (bay stack : Nat) :
    stationAllowed (familyOf (Instr.readStack bay stack).requestCode) (Instr.readStack bay stack).stationField =
      true :=
  allowed_plain 0x32 rfl rfl (by decide)

/-- A stack the yard has is read, and nothing changes. -/
theorem readStackBlock_taken {bay stack : Nat} {s : State} (hbay : bay ≤ 63)
    (hstack : stack < (s.bay bay).stackCount) :
    readStackBlock bay stack s = taken (stackReply s bay stack) s :=
  if_neg (not_or.mpr ⟨Nat.not_lt.mpr hbay, not_not.mpr hstack⟩)

/-- A stack the yard has not is refused. -/
theorem readStackBlock_refused {bay stack : Nat} {s : State} (h : 63 < bay ∨ (s.bay bay).stackCount ≤ stack) :
    readStackBlock bay stack s = refuse .badField s :=
  if_pos (h.imp_right Nat.not_lt.mpr)

/-- The seven bytes of a pack in READ_STACK (R197). -/
theorem stackItem_eq (e : Nat × Pack) :
    stackItem e =
      [bitsByte [e.2.hold.isSome]] ++ be3 e.1 ++ [byte (packStateNumber e.2.state)] ++ [holdByte e.2.hold] ++
        [markByte e.2.wetted] := by
  rw [stackItem, orZeros_hold]
  rfl

/-- The reply of READ_STACK, with an item for each pack from tier 0 up (R46, R197). -/
theorem stackReply_eq (s : State) (bay stack : Nat) :
    stackReply s bay stack =
      [byte (s.bay bay).tierLimit, byte (height s bay stack)] ++
        (stackList s bay stack).flatMap fun e =>
          [bitsByte [e.2.hold.isSome]] ++ be3 e.1 ++ [byte (packStateNumber e.2.state)] ++ [holdByte e.2.hold] ++
            [markByte e.2.wetted] := by
  rw [stackReply, funext stackItem_eq]

/-! ## The chain of a product (R34) -/

/-- A product has one chain: its members and their order determine it. -/
theorem chainIs_unique {s : State} {code : Nat} {l m : Table Pack} (hl : chainIs s code l) (hm : chainIs s code m) :
    l = m := by
  obtain ⟨hmeml, hordl⟩ := hl
  obtain ⟨hmemm, hordm⟩ := hm
  have : Std.Irrefl fun e f : Nat × Pack => follows e.2.received e.1 f :=
    ⟨fun e h => follows_asymm e e h h⟩
  have : Std.Antisymm fun e f : Nat × Pack => follows e.2.received e.1 f :=
    ⟨fun e f hef hfe => absurd hfe (follows_asymm e f hef)⟩
  exact hordl.eq_of_mem_iff hordm fun e => (hmeml e).trans (hmemm e).symm

/-- A list that is the chain of the product is the one the machine computes. -/
theorem chain_eq {s : State} {code : Nat} {l : Table Pack} (hr : Table.rising s.packs) (hl : chainIs s code l) :
    chain s code = l := chainIs_unique (chainIs_chain hr code) hl

/-- No pack before a place in a chain bears the tag of the pack at that place. -/
theorem tag_ne_of_before {s : State} {code : Nat} {before rest : Table Pack} {f : Nat × Pack}
    (hr : Table.rising s.packs) (hl : chainIs s code (before ++ f :: rest)) : ∀ e ∈ before, e.1 ≠ f.1 := by
  intro e he htag
  obtain ⟨hmem, hord⟩ := hl
  have hef : follows e.2.received e.1 f := (List.pairwise_append.mp hord).2.2 e he f (by simp)
  have hsame : e = f :=
    Table.eq_of_mem hr ((hmem e).mp (by simp [he])).1 ((hmem f).mp (by simp)).1 htag
  subst hsame
  exact follows_asymm e e hef hef

/-- The chain from one of its packs on begins with that pack. -/
theorem chainFrom_of_split {s : State} {code : Nat} {before rest : Table Pack} {f : Nat × Pack}
    (hr : Table.rising s.packs) (hl : chainIs s code (before ++ f :: rest)) :
    chainFrom s code f.1 = f :: rest := by
  have hskip : ∀ e ∈ before, decide (e.1 ≠ f.1) = true := fun e he =>
    decide_eq_true (tag_ne_of_before hr hl e he)
  rw [chainFrom, chain_eq hr hl, List.dropWhile_append_of_pos hskip, List.dropWhile_cons_of_neg (by simp)]

/-- The chain from a tag on that none of its packs bears is empty. -/
theorem chainFrom_of_absent {s : State} {code n : Nat} {l : Table Pack} (hr : Table.rising s.packs)
    (hl : chainIs s code l) (habsent : ∀ e ∈ l, e.1 ≠ n) : chainFrom s code n = [] := by
  rw [chainFrom, chain_eq hr hl]
  exact List.dropWhile_eq_nil_iff.mpr fun e he => decide_eq_true (habsent e he)

/-! ## FIND_OLDEST (R47) -/

/-- FIND_OLDEST is served by the Pack Table. -/
theorem exec_findOldest (code : Nat) (after : Option Nat) (s : State) :
    exec (.findOldest code after) s = serve (.findOldest code after) (findOldestBlock code after) s := rfl

/-- FIND_OLDEST carries the station field of a request outside family 5 (R172 step 2). -/
theorem findOldest_stationAllowed (code : Nat) (after : Option Nat) :
    stationAllowed (familyOf (Instr.findOldest code after).requestCode) (Instr.findOldest code after).stationField =
      true :=
  allowed_plain 0x38 rfl rfl (by decide)

/-- A code out of range is refused. -/
theorem findOldestBlock_outOfRange {code : Nat} (h : ¬ codeOk code) (after : Option Nat) (s : State) :
    findOldestBlock code after s = refuse .badField s := if_pos h

section
variable {s : State} {code : Nat}

/-- Without a tag the answer is taken from the whole chain. -/
theorem findOldestBlock_none {l : Table Pack} (hcode : codeOk code) (hr : Table.rising s.packs)
    (hl : chainIs s code l) : findOldestBlock code none s = answerOldest s code l := by
  rw [findOldestBlock, if_neg (not_not.mpr hcode), chain_eq hr hl]

/-- With the tag of a pack in the chain the answer is taken from what comes after that pack. -/
theorem findOldestBlock_after {before rest : Table Pack} {f : Nat × Pack} (hcode : codeOk code)
    (hr : Table.rising s.packs) (hl : chainIs s code (before ++ f :: rest)) :
    findOldestBlock code (some f.1) s = answerOldest s code rest := by
  simp only [findOldestBlock, if_neg (not_not.mpr hcode), chainFrom_of_split hr hl]

/-- A tag that is not in the chain is refused. -/
theorem findOldestBlock_absent {n : Nat} {l : Table Pack} (hcode : codeOk code) (hr : Table.rising s.packs)
    (hl : chainIs s code l) (habsent : ∀ e ∈ l, e.1 ≠ n) :
    findOldestBlock code (some n) s = refuse .badField s := by
  simp only [findOldestBlock, if_neg (not_not.mpr hcode), chainFrom_of_absent hr hl habsent]

/-- The pack FIND_OLDEST asks for, the first of the chain or the one after its tag, is answered with. -/
theorem findOldestBlock_taken {l : Table Pack} {after : Option Nat} {e : Nat × Pack} (hcode : codeOk code)
    (hr : Table.rising s.packs) (hl : chainIs s code l)
    (hask : (after = none ∧ l.head? = some e) ∨
      ∃ before f rest, after = some f.1 ∧ l = before ++ f :: e :: rest) :
    findOldestBlock code after s = taken (oldestReply s code e) s := by
  rcases hask with ⟨rfl, hhead⟩ | ⟨before, f, rest, rfl, rfl⟩
  · obtain ⟨rest, rfl⟩ := List.head?_eq_some_iff.mp hhead
    exact findOldestBlock_none hcode hr hl
  · exact findOldestBlock_after hcode hr hl

/-- An empty chain, and a chain that ends with the pack of the tag, hold no pack to answer with. -/
theorem findOldestBlock_notFound {l : Table Pack} {after : Option Nat} (hcode : codeOk code)
    (hr : Table.rising s.packs) (hl : chainIs s code l)
    (hend : (after = none ∧ l = []) ∨ ∃ before f, after = some f.1 ∧ l = before ++ [f]) :
    findOldestBlock code after s = refuse .notFound s := by
  rcases hend with ⟨rfl, rfl⟩ | ⟨before, f, rfl, rfl⟩
  · exact findOldestBlock_none hcode hr hl
  · exact findOldestBlock_after hcode hr hl

/-- The reply of FIND_OLDEST, with the number of packs in the chain (R47, R197). -/
theorem oldestReply_eq {l : Table Pack} (hr : Table.rising s.packs) (hl : chainIs s code l) (e : Nat × Pack) :
    oldestReply s code e =
      [bitsByte [decide (e.2.drying ≠ .kiln)]] ++ be2 l.length ++ be3 e.1 ++ be2 e.2.received ++
        [byte (packStateNumber e.2.state)] ++ placeBytes e.2.location ++ [markByte e.2.wetted] ++
        dryingBytes e.2.drying := by
  rw [dryingBytes_eq, ← orZeros_location, ← ready_isSome, ← chain_eq hr hl]
  simp only [oldestReply, presence, List.append_assoc, List.cons_append, List.nil_append]

/-- The reply of FIND_OLDEST takes 16 bytes (R197). -/
theorem length_oldestReply (s : State) (code : Nat) (e : Nat × Pack) : (oldestReply s code e).length = 16 := by
  simp [oldestReply]

end

/-! ## The statement -/

/-- Settles O34: the three reading blocks on each of their branches, carried through the service of a request, with
the chain the machine computes being the one R34 describes. -/
theorem packReadsChangeNothing : Obligations.PackReadsChangeNothing := by
  refine ⟨⟨rfl, rfl, fun _ _ => rfl, rfl⟩, fun tag bay stack code s => ?_⟩
  have hpack := readPack_stationAllowed tag
  have hstackReq := readStack_stationAllowed bay stack
  have holdest := findOldest_stationAllowed code
  refine ⟨fun p reply hblock hlow hhigh hget hreply => ?_, fun hblock hlow hhigh hget => ?_, fun hblock hout => ?_,
    fun after hblock hout => ?_, fun hblock hbay hstack => ?_, fun hblock hout => ?_,
    fun l after c hc hblock hlow hhigh hr hl => ?_⟩
  · have hsame : reply = packReply s tag p := by
      rw [hreply, packReply_eq]
      unfold dryingBytes digPlaceBytes lineBytes taskBytes holdByte
      rfl
    rw [hsame, exec_readPack]
    exact ⟨serve_taken (by simp) hblock hpack (readPackBlock_taken ⟨hlow, hhigh⟩ hget), length_packReply s tag p⟩
  · rw [exec_readPack]
    exact serve_refused (by simp) hblock hpack (readPackBlock_notFound ⟨hlow, hhigh⟩ hget)
  · have hbad : ¬ tagOk tag := fun ⟨hlow, hhigh⟩ => by
      rw [Config.maxTag] at hhigh
      omega
    rw [exec_readPack]
    exact serve_refused (by simp) hblock hpack (readPackBlock_outOfRange hbad s)
  · have hbad : ¬ codeOk code := fun ⟨hlow, hhigh⟩ => by omega
    rw [exec_findOldest]
    exact serve_refused (by simp) hblock (holdest after) (findOldestBlock_outOfRange hbad after s)
  · rw [exec_readStack]
    exact serve_taken (by simp) hblock hstackReq
      ((readStackBlock_taken hbay hstack).trans (congrArg (taken · s) (stackReply_eq s bay stack)))
  · rw [exec_readStack]
    exact serve_refused (by simp) hblock hstackReq (readStackBlock_refused hout)
  · subst hc
    have hcode : codeOk code := ⟨hlow, hhigh⟩
    rw [exec_findOldest]
    refine ⟨fun e reply hask hreply => ?_, fun hend => ?_, fun n hn habsent => ?_⟩
    · have hsame : reply = oldestReply s code e := by
        rw [hreply, oldestReply_eq hr hl]
        unfold placeBytes dryingBytes
        rfl
      rw [hsame]
      exact ⟨serve_taken (by simp) hblock (holdest after) (findOldestBlock_taken hcode hr hl hask),
        length_oldestReply s code e⟩
    · exact serve_refused (by simp) hblock (holdest after) (findOldestBlock_notFound hcode hr hl hend)
    · subst hn
      exact serve_refused (by simp) hblock (holdest (some n)) (findOldestBlock_absent hcode hr hl habsent)

end Sys2Proof.Proofs
end

section
/-!
PROOFS. Family 4, orders: SET_POINT (R73) and SET_LEVEL (R62, R75).
-/

namespace Sys2Proof.Proofs

open Sys2Proof.Machine Sys2Proof.Safety

/-! ## The queue (R62) -/

/-- An element is found at its first place. -/
theorem placeOf_append {h : Nat} {front : List Nat} (hfront : h ∉ front) (back : List Nat) :
    placeOf h (front ++ h :: back) = some front.length := by
  induction front with
  | nil => simp [placeOf]
  | cons x xs ih =>
    obtain ⟨hne, hxs⟩ := not_or.mp (List.mem_cons.not.mp hfront)
    simp [placeOf, Ne.symm hne, ih hxs]

/-- An order's queue position is its place in the queue, counted from 1. -/
theorem queuePosition_of_split {s : State} {h : Nat} {front back : List Nat} (hqueue : s.queue = front ++ h :: back)
    (hfront : h ∉ front) : queuePosition s h = front.length + 1 := by
  simp [queuePosition, hqueue, placeOf_append hfront]

/-- The tail of a level: behind every order of that level or a higher one, up to the first order of a lower level. -/
theorem joinQueue_split (s : State) (h level : Nat) (q : List Nat) :
    ∃ front back, q = front ++ back ∧ (∀ x ∈ front, level ≤ levelOf s x) ∧
      (∀ x, back.head? = some x → levelOf s x < level) ∧ joinQueue s h level q = front ++ h :: back := by
  induction q with
  | nil => exact ⟨[], [], by simp [joinQueue]⟩
  | cons x xs ih =>
    by_cases hx : levelOf s x < level
    · exact ⟨[], x :: xs, by simp [joinQueue, hx]⟩
    · obtain ⟨front, back, rfl, hfront, hback, hjoin⟩ := ih
      refine ⟨x :: front, back, rfl, ?_, hback, by simp [joinQueue, hx, hjoin]⟩
      exact List.forall_mem_cons.mpr ⟨Nat.not_lt.mp hx, hfront⟩

/-- The queue an order has left does not hold it. -/
theorem not_mem_leaveQueue (h : Nat) (q : List Nat) : h ∉ leaveQueue h q := by simp [leaveQueue]

/-- Clearing the STARVED flags leaves the queue as it is. -/
theorem queue_clearStarved (s : State) : (clearStarved s).queue = s.queue := by rw [clearStarved_eq]

/-! ## What the orders and the packs say of an order -/

/-- An order has a LIFTED pack where the reservation of a LIFTED pack names it (R73). -/
theorem orderHasLifted_iff (s : State) (h : Nat) :
    orderHasLifted s h = true ↔
      ∃ e ∈ s.packs, e.2.state = .lifted ∧ ∃ r, e.2.reservation = some r ∧ r.handle = h := by
  simp only [orderHasLifted, List.any_eq_true, decide_eq_true_eq, Option.map_eq_some_iff]

/-- A point is taken where another live order holds it (R73 check 3). -/
theorem pointTaken_iff (s : State) (h n : Nat) :
    pointTaken s h n = true ↔ ∃ e ∈ s.orders, e.1 ≠ h ∧ e.2.point = some n := by
  simp only [pointTaken, List.any_eq_true, decide_eq_true_eq]

/-- A point is free where no other live order holds it (R73 check 3). -/
theorem pointTaken_eq_false_iff (s : State) (h n : Nat) :
    pointTaken s h n = false ↔ ∀ e ∈ s.orders, e.1 ≠ h → e.2.point ≠ some n := by
  simp only [pointTaken, List.any_eq_false, decide_eq_true_eq, not_and, ne_eq]

/-! ## SET_POINT (R73) -/

/-- SET_POINT is served by the Order Table. -/
theorem exec_setPoint (h n : Nat) (s : State) :
    exec (.setPoint h n) s = serve (.setPoint h n) (setPointBlock h n) s := rfl

/-- SET_POINT carries the station field of a request outside family 5 (R172 step 2). -/
theorem setPoint_stationAllowed (h n : Nat) :
    stationAllowed (familyOf (Instr.setPoint h n).requestCode) (Instr.setPoint h n).stationField = true :=
  allowed_plain 0x42 rfl rfl (by decide)

/-- A handle or a point out of range is refused (R73 check 1). -/
theorem setPointBlock_outOfRange {h n : Nat} (hbad : h = 0 ∨ 32 < h ∨ n = 0 ∨ 4 < n) (s : State) :
    setPointBlock h n s = refuse .badField s := if_pos (by omega)

section
variable {h n : Nat} {s : State}

/-- With its fields in range, a point is judged by the order first (R73 check 2). -/
theorem setPointBlock_notFound (hhandle : handleOk h) (hpoint : inRange 1 4 n) (hget : Table.get s.orders h = none) :
    setPointBlock h n s = refuse .notFound s := by
  rw [setPointBlock, if_neg (by omega), State.order, hget]

/-- For a live order, a point is judged by who holds it and then by whether the order may move to it (R73 checks 3
and 4). -/
theorem setPointBlock_live {o : Order} (hhandle : handleOk h) (hpoint : inRange 1 4 n)
    (hget : Table.get s.orders h = some o) :
    setPointBlock h n s =
      if pointTaken s h n = true then refuse .pointTaken s
      else if o.point.isSome = true ∧ o.point ≠ some n ∧ orderHasLifted s h = true then refuse .wrongState s
      else taken [] (changeOrder h (Order.called n) s) := by
  rw [setPointBlock, if_neg (by omega), State.order, hget]

/-- A point that another order holds is refused (R73 check 3). -/
theorem setPointBlock_pointTaken {o : Order} (hhandle : handleOk h) (hpoint : inRange 1 4 n)
    (hget : Table.get s.orders h = some o) (htaken : pointTaken s h n = true) :
    setPointBlock h n s = refuse .pointTaken s := by
  rw [setPointBlock_live hhandle hpoint hget, if_pos htaken]

/-- An order at one point is not called to another while a pack of it is LIFTED (R73 check 4). -/
theorem setPointBlock_wrongState {o : Order} {m : Nat} (hhandle : handleOk h) (hpoint : inRange 1 4 n)
    (hget : Table.get s.orders h = some o) (hfree : pointTaken s h n = false) (hat : o.point = some m) (hne : m ≠ n)
    (hlifted : orderHasLifted s h = true) : setPointBlock h n s = refuse .wrongState s := by
  rw [setPointBlock_live hhandle hpoint hget, if_neg (by simp [hfree]), if_pos (by simp [hat, hne, hlifted])]

/-- A free point is written for an order without a point, at this point already, or without a LIFTED pack, and a
QUEUED order becomes AT_POINT (R73). -/
theorem setPointBlock_taken {o : Order} (hhandle : handleOk h) (hpoint : inRange 1 4 n)
    (hget : Table.get s.orders h = some o) (hfree : pointTaken s h n = false)
    (hmay : o.point = none ∨ o.point = some n ∨ orderHasLifted s h = false) :
    setPointBlock h n s = taken [] (changeOrder h (Order.called n) s) := by
  have hstays : ¬ (o.point.isSome = true ∧ o.point ≠ some n ∧ orderHasLifted s h = true) := by
    rintro ⟨hsome, hne, hlifted⟩
    rcases hmay with hnone | hsame | hrest
    · simp [hnone] at hsome
    · exact hne hsame
    · simp [hrest] at hlifted
  rw [setPointBlock_live hhandle hpoint hget, if_neg (by simp [hfree]), if_neg hstays]

end

/-! ## SET_LEVEL (R75) -/

/-- SET_LEVEL is served by the Order Table. -/
theorem exec_setLevel (h n : Nat) (s : State) :
    exec (.setLevel h n) s = serve (.setLevel h n) (setLevelBlock h n) s := rfl

/-- SET_LEVEL carries the station field of a request outside family 5 (R172 step 2). -/
theorem setLevel_stationAllowed (h n : Nat) :
    stationAllowed (familyOf (Instr.setLevel h n).requestCode) (Instr.setLevel h n).stationField = true :=
  allowed_plain 0x43 rfl rfl (by decide)

/-- A handle or a level out of range is refused. -/
theorem setLevelBlock_outOfRange {h n : Nat} (hbad : h = 0 ∨ 32 < h ∨ 3 < n) (s : State) :
    setLevelBlock h n s = refuse .badField s := if_pos (by omega)

section
variable {h n : Nat} {s : State}

/-- With its fields in range, a level is refused where no order bears the handle. -/
theorem setLevelBlock_notFound (hhandle : handleOk h) (hlevel : n ≤ 3) (hget : Table.get s.orders h = none) :
    setLevelBlock h n s = refuse .notFound s := by
  rw [setLevelBlock, if_neg (by omega), State.order, hget]

/-- The level an order has already changes nothing, and its position is answered (R75). -/
theorem setLevelBlock_same {o : Order} (hhandle : handleOk h) (hlevel : n ≤ 3) (hget : Table.get s.orders h = some o)
    (hsame : o.level = n) : setLevelBlock h n s = taken [byte (queuePosition s h)] s := by
  rw [setLevelBlock, if_neg (by omega), State.order, hget]
  simp only [if_pos hsame]

/-- Another level is written, and the order's new position is answered (R75). -/
theorem setLevelBlock_moved {o : Order} (hhandle : handleOk h) (hlevel : n ≤ 3)
    (hget : Table.get s.orders h = some o) (hmove : o.level ≠ n) :
    setLevelBlock h n s = taken [byte (queuePosition (relevel h n s) h)] (relevel h n s) := by
  rw [setLevelBlock, if_neg (by omega), State.order, hget]
  simp only [if_neg hmove]

end

/-- A change of level takes the order out of the queue and puts it back at the tail of the new level, and its queue
position is the one that place gives (R62, R75). -/
theorem relevel_split (h n : Nat) (s : State) :
    ∃ front back,
      leaveQueue h s.queue = front ++ back ∧ (∀ x ∈ front, n ≤ levelOf s x) ∧
        (∀ x, back.head? = some x → levelOf s x < n) ∧
        relevel h n s =
          clearStarved { changeOrder h (fun u => { u with level := n }) s with queue := front ++ h :: back } ∧
        queuePosition (relevel h n s) h = front.length + 1 := by
  obtain ⟨front, back, hleave, hfront, hback, hjoin⟩ := joinQueue_split s h n (leaveQueue h s.queue)
  have hmoved : relevel h n s =
      clearStarved { changeOrder h (fun u => { u with level := n }) s with queue := front ++ h :: back } := by
    rw [relevel, hjoin]
  have hout : h ∉ front := fun hmem =>
    not_mem_leaveQueue h s.queue (hleave ▸ List.mem_append_left back hmem)
  have hqueue : (relevel h n s).queue = front ++ h :: back := by rw [hmoved, queue_clearStarved]
  exact ⟨front, back, hleave, hfront, hback, hmoved, queuePosition_of_split hqueue hout⟩

/-! ## The statement -/

/-- Settles O40: the two blocks on each of their branches, carried through the service of a request, with the queue of
a moved order split at the tail of its new level. -/
theorem pointsAndLevelsAreWritten : Obligations.PointsAndLevelsAreWritten := by
  intro h n s
  have hpointReq := setPoint_stationAllowed h n
  have hlevelReq := setLevel_stationAllowed h n
  rw [exec_setPoint, exec_setLevel]
  refine ⟨orderHasLifted_iff s h, fun hblock hbad => ?_, fun hblock hlow hhigh hfirst hlast hget => ?_,
    fun hblock hbad => ?_, fun hblock hlow hhigh hlevel hget => ?_, fun o hlow hhigh hget => ?_⟩
  · exact serve_refused (by simp) hblock hpointReq (setPointBlock_outOfRange hbad s)
  · exact serve_refused (by simp) hblock hpointReq (setPointBlock_notFound ⟨hlow, hhigh⟩ ⟨hfirst, hlast⟩ hget)
  · exact serve_refused (by simp) hblock hlevelReq (setLevelBlock_outOfRange hbad s)
  · exact serve_refused (by simp) hblock hlevelReq (setLevelBlock_notFound ⟨hlow, hhigh⟩ hlevel hget)
  have hhandle : handleOk h := ⟨hlow, hhigh⟩
  refine ⟨fun hblock hfirst hlast hfree hmay => ?_, fun hblock hfirst hlast htaken => ?_,
    fun m hblock hfirst hlast hfree hat hne hlifted => ?_, fun hblock hlevel hsame => ?_,
    fun hblock hlevel hmove => ?_⟩
  · exact serve_taken (by simp) hblock hpointReq
      (setPointBlock_taken hhandle ⟨hfirst, hlast⟩ hget ((pointTaken_eq_false_iff s h n).mpr hfree) hmay)
  · exact serve_refused (by simp) hblock hpointReq
      (setPointBlock_pointTaken hhandle ⟨hfirst, hlast⟩ hget ((pointTaken_iff s h n).mpr htaken))
  · exact serve_refused (by simp) hblock hpointReq
      (setPointBlock_wrongState hhandle ⟨hfirst, hlast⟩ hget ((pointTaken_eq_false_iff s h n).mpr hfree) hat hne
        hlifted)
  · exact serve_taken (by simp) hblock hlevelReq (setLevelBlock_same hhandle hlevel hget hsame)
  · obtain ⟨front, back, hleave, hfront, hback, hmoved, hposition⟩ := relevel_split h n s
    refine ⟨front, back, hleave, hfront, hback, ?_⟩
    rw [← hposition]
    exact serve_taken (by simp) hblock hlevelReq
      ((setLevelBlock_moved hhandle hlevel hget hmove).trans (congrArg (taken _) hmoved))

end Sys2Proof.Proofs
end

section
/-!
PROOFS. Events and attention: FETCH_EVENTS (R167) beside STATUS_SUMMARY (R177).
-/

namespace Sys2Proof.Proofs

open Sys2Proof.Machine Sys2Proof.Safety

/-! ## The summary and the pin (R166, R167) -/

/-- An empty summary holds no enabled kind, whatever the enable set (R166). -/
theorem wantsAttention_of_summary_empty {s : State} (hempty : s.summary = 0#19) : s.wantsAttention = false := by
  simp [State.wantsAttention, hempty]

/-- Emptying the summary releases the pin and leaves everything else (R167). -/
theorem emptySummary_eq (s : State) : emptySummary s = { s with summary := 0#19, attn := false } := by
  have hreleased : ({ s with summary := 0#19 } : State).wantsAttention = false :=
    wantsAttention_of_summary_empty rfl
  rw [emptySummary, driveAttn, hreleased]

/-! ## FETCH_EVENTS (R167) -/

/-- FETCH_EVENTS is served by the summary's block. -/
theorem exec_fetchEvents (s : State) : exec .fetchEvents s = serve .fetchEvents fetchEventsBlock s := rfl

/-- FETCH_EVENTS carries the station field of a request outside family 5 (R172 step 2). -/
theorem fetchEvents_stationAllowed :
    stationAllowed (familyOf Instr.fetchEvents.requestCode) Instr.fetchEvents.stationField = true :=
  allowed_plain 0x03 rfl rfl (by decide)

/-- FETCH_EVENTS replies with the sets as they stood before the summary was emptied. -/
theorem fetchEventsBlock_taken (s : State) :
    fetchEventsBlock s =
      taken (be3 s.summary.toNat ++ be3 s.enables.toNat) { s with summary := 0#19, attn := false } := by
  rw [fetchEventsBlock, emptySummary_eq, setBytes, setBytes]

/-! ## STATUS_SUMMARY (R177, R195) -/

/-- STATUS_SUMMARY is served by its block. -/
theorem exec_statusSummary (s : State) :
    exec .statusSummary s = serve .statusSummary statusSummaryBlock s := rfl

/-- STATUS_SUMMARY carries the station field of a request outside family 5 (R172 step 2). -/
theorem statusSummary_stationAllowed :
    stationAllowed (familyOf Instr.statusSummary.requestCode) Instr.statusSummary.stationField = true :=
  allowed_plain 0x00 rfl rfl (by decide)

/-- The summary and the enable set stand in the reply just before the last status (R195). -/
theorem summaryReply_split (s : State) :
    ∃ front, summaryReply s =
      front ++ be3 s.summary.toNat ++ be3 s.enables.toNat ++ orZeros 3 lastStatusBytes s.lastStatus :=
  ⟨_, rfl⟩

/-! ## The statement -/

/-- Settles O22: FETCH_EVENTS empties the summary, so no enabled kind is left to hold the pin; STATUS_SUMMARY places
both sets in its reply and hands the state on as it was. -/
theorem fetchEventsEmptiesTheSummary : Obligations.FetchEventsEmptiesTheSummary := by
  intro s
  refine ⟨fun hblock => ?_, fun hblock => ?_⟩
  · rw [exec_fetchEvents]
    exact serve_taken (by simp) hblock fetchEvents_stationAllowed (fetchEventsBlock_taken s)
  · obtain ⟨front, hreply⟩ := summaryReply_split s
    refine ⟨front, orZeros 3 lastStatusBytes s.lastStatus, ?_⟩
    rw [exec_statusSummary, ← hreply]
    exact serve_taken (by simp) hblock statusSummary_stationAllowed rfl

end Sys2Proof.Proofs
end

section
/-!
PROOFS. What a step can do, said once: every command is a chain of elementary changes, and each law of the device is
kept by each elementary change. The statements on every step are read off from that.
-/

namespace Sys2Proof.Proofs

open Sys2Proof.Machine Sys2Proof.Safety

/-! ## Elementary changes -/

/-- What a command may be allowed to touch. `port` is the port's condition with the mark of a running CLEAR_YARD.
`rest` is no part of the state: it stands for a command that began in a state without law 10, whose changes then owe
nothing to that law. -/
inductive Part where
  | settings
  | packs
  | work
  | orders
  | port
  | rest
deriving DecidableEq

/-- Two states agree in everything that a law reads, and at the port. -/
structure SameRecords (s t : State) : Prop where
  pending : t.pending = s.pending
  yardMap : t.yardMap = s.yardMap
  products : t.products = s.products
  packs : t.packs = s.packs
  settings : t.settings = s.settings
  lineSettings : t.lineSettings = s.lineSettings
  orders : t.orders = s.orders
  queue : t.queue = s.queue
  tasks : t.tasks = s.tasks
  stations : t.stations = s.stations
  lines : t.lines.length = s.lines.length
  mode : t.mode = s.mode
  watches : t.watches.length = s.watches.length
  summary : t.summary = s.summary
  enables : t.enables = s.enables
  attn : t.attn = s.attn
  port : t.port = s.port
  clearing : t.clearing = s.clearing

/-- Law 10 lets the yard work: it is not CLOSED, or the law did not hold to begin with. -/
def Awake (A : Part → Prop) (s : State) : Prop := A .rest ∨ s.mode ≠ .closed

/-- One elementary change, under the permissions `A`. It is quiet when it leaves CLOSING complete by itself (R157):
what retires an order or a task, or enters CLOSING, waits for the judgement at the claim's end. -/
inductive Change (A : Part → Prop) : (quiet : Bool) → State → State → Prop
  | aside {s t : State} (h : SameRecords s t) : Change A true s t
  | exchange {s t : State} (h : SameRecords { s with port := t.port, clearing := t.clearing } t) (hP : A .port) :
      Change A true s t
  | attention (s : State) (m e : BitVec 19) : Change A true s (driveAttn { s with summary := m, enables := e })
  | opened (s : State) : Change A true s { s with mode := .opened }
  | closing (s : State) : Change A false s { s with mode := .closing }
  | settings (s : State) (y : YardMap) (ps : List Product) (st : YardSettings) (ls : List LineSetting)
      (hA : A .settings)
      (hsize : sizeLaw s → sizeLaw { s with yardMap := y, products := ps, settings := st, lineSettings := ls })
      (hstack : stackLaw s → stackLaw { s with yardMap := y, products := ps, settings := st, lineSettings := ls }) :
      Change A true s { s with yardMap := y, products := ps, settings := st, lineSettings := ls }
  | packs (s : State) (p : Table Pack) (hA : A .packs) (hrising : Table.rising s.packs → Table.rising p)
      (hlength : p.length ≤ s.packs.length ∨ p.length ≤ Config.packCapacity)
      (hstack : Table.rising s.packs → stackLaw s → stackLaw { s with packs := p }) :
      Change A true s { s with packs := p }
  | flags (s : State) : Change A true s { s with orders := Table.change s.orders fun _ o => o.unstarved }
  | orders (s : State) (f : Nat → Order → Order) (hA : A .orders) (hlevel : ∀ h o, (f h o).level = o.level)
      (hok : ∀ h o, Table.get s.orders h = some o → orderOk o → orderOk (f h o)) :
      Change A true s { s with orders := Table.change s.orders f }
  | newOrder (s : State) (h : Nat) (o : Order) (hA : A .orders) (hawake : Awake A s) (hfree : h ∉ s.orders.keys)
      (hroom : s.orders.length < Config.orderCapacity) (hok : orderOk o) : Change A true s (addOrder h o s)
  | relevel (s : State) (h level : Nat) (hA : A .orders) (hlive : h ∈ s.orders.keys) :
      Change A true s
        { changeOrder h (fun o => { o with level := level }) s with
          queue := joinQueue s h level (leaveQueue h s.queue) }
  | endOrder (s : State) (h : Nat) (hA : A .orders) :
      Change A false s { s with orders := Table.erase s.orders h, queue := leaveQueue h s.queue }
  | tasks (s : State) (f : Task → Task) (hA : A .work) : Change A true s { s with tasks := s.tasks.map f }
  | newTask (s : State) (t : Task) (hA : A .work) (hawake : Awake A s)
      (hroom : s.tasks.length < Config.taskCapacity) : Change A true s (addTask t s)
  | endTask (s : State) (keep : Task → Bool) (hA : A .work) :
      Change A false s { s with tasks := s.tasks.filter keep }
  | stations (s : State) (l : List Station) (hA : A .work) (hlength : l.length = s.stations.length)
      (hrest : Awake A s ∨ ((∀ st ∈ s.stations, st.state = .offShift) → ∀ st ∈ l, st.state = .offShift)) :
      Change A true s { s with stations := l }
  | judged (s : State) (hA : A .work) : Change A false s (judgeClosing s)
  | reset (s : State) (cause : ResetCause) (supply : SupplyStatus) (hA : A .work) (hB : A .orders)
      (hP : A .port) : Change A true s (startReset cause supply s)

/-- A chain of elementary changes. -/
inductive Work (A : Part → Prop) (s : State) : State → Prop
  | refl : Work A s s
  | step {q : Bool} {t u : State} (h : Work A s t) (hc : Change A q t u) : Work A s u

/-- A claim: a chain in which every retirement is followed by the judgement of CLOSING (R157). -/
inductive Claim (A : Part → Prop) (s : State) : State → Prop
  | refl : Claim A s s
  | step {t u : State} (h : Claim A s t) (hc : Change A true t u) : Claim A s u
  | judge {t u : State} (h : Claim A s t) (hw : Work A t u) (hA : A .work) : Claim A s (judgeClosing u)

section
variable {A : Part → Prop} {s t u : State}

theorem Work.trans (h : Work A s t) (h' : Work A t u) : Work A s u := by
  induction h' with
  | refl => exact h
  | step _ hc ih => exact ih.step hc

theorem Change.toWork {q : Bool} (hc : Change A q s t) : Work A s t := .step .refl hc

theorem Change.toClaim (hc : Change A true s t) : Claim A s t := .step .refl hc

theorem Claim.toWork (h : Claim A s t) : Work A s t := by
  induction h with
  | refl => exact .refl
  | step _ hc ih => exact ih.step hc
  | judge _ hw hA ih => exact (ih.trans hw).step (.judged _ hA)

theorem Claim.trans (h : Claim A s t) (h' : Claim A t u) : Claim A s u := by
  induction h' with
  | refl => exact h
  | step _ hc ih => exact ih.step hc
  | judge _ hw hA ih => exact ih.judge hw hA

/-- What every elementary change keeps, a chain of them keeps. -/
theorem Work.keeps {P : State → Prop} (hP : ∀ q s t, Change A q s t → P s → P t) (h : Work A s t) (hs : P s) :
    P t := by
  induction h with
  | refl => exact hs
  | step _ hc ih => exact hP _ _ _ hc ih

end

/-! ## Each law is kept by each elementary change -/

section
variable {A : Part → Prop} {q : Bool} {s t : State}

/-- The judgement of CLOSING leaves the records but the mode, the stations and the attention unit. -/
theorem judgeClosing_same (s : State) :
    (judgeClosing s).pending = s.pending ∧ (judgeClosing s).yardMap = s.yardMap ∧
      (judgeClosing s).products = s.products ∧ (judgeClosing s).packs = s.packs ∧
      (judgeClosing s).settings = s.settings ∧ (judgeClosing s).lineSettings = s.lineSettings ∧
      (judgeClosing s).orders = s.orders ∧ (judgeClosing s).queue = s.queue ∧
      (judgeClosing s).tasks = s.tasks ∧ (judgeClosing s).lines = s.lines ∧
      (judgeClosing s).watches = s.watches ∧ (judgeClosing s).stations.length = s.stations.length := by
  rcases judgeClosing_cases s with e | e | e <;> rw [e] <;> simp

theorem Change.pending (hc : Change A q s t) : t.pending = s.pending := by
  cases hc with
  | aside h | exchange h => exact h.pending
  | judged => exact (judgeClosing_same s).1
  | _ => rfl

theorem Change.attnLaw (hc : Change A q s t) (h : attnLaw s) : attnLaw t := by
  cases hc with
  | aside hs | exchange hs => rw [Safety.attnLaw, State.wantsAttention, hs.attn, hs.summary, hs.enables]; exact h
  | attention => rfl
  | judged => exact attnLaw_judgeClosing h
  | reset => rw [Safety.attnLaw, State.wantsAttention]; simp [startReset]
  | _ => exact h

/-- Retired stations are off shift. -/
theorem offShift_of_mem_map {l : List Station} {st : Station} (h : st ∈ l.map Station.offShift) :
    st.state = .offShift := by
  obtain ⟨_, _, rfl⟩ := List.mem_map.mp h
  rfl

theorem closedLaw_judgeClosing (h : closedLaw s) : closedLaw (judgeClosing s) := by
  unfold judgeClosing
  split_ifs with h1 h2
  · intro hmode; cases hmode
  · exact fun _ => ⟨h1.2.1, h1.2.2, fun st hst => offShift_of_mem_map hst⟩
  · exact h

theorem Change.closedLaw (hrest : ¬ A .rest) (hc : Change A q s t) (h : closedLaw s) : closedLaw t := by
  have wakes : Awake A s → s.mode ≠ .closed := fun ha => ha.resolve_left hrest
  cases hc with
  | aside hs | exchange hs => rw [Safety.closedLaw, hs.mode, hs.orders, hs.tasks, hs.stations]; exact h
  | opened => intro hmode; cases hmode
  | closing => intro hmode; cases hmode
  | flags =>
    intro hmode
    obtain ⟨ho, hk, hn⟩ := h hmode
    exact ⟨by simp [ho, Table.change], hk, hn⟩
  | orders =>
    intro hmode
    obtain ⟨ho, hk, hn⟩ := h hmode
    exact ⟨by simp [ho, Table.change], hk, hn⟩
  | newOrder _ _ _ _ ha => exact fun hmode => absurd hmode (wakes ha)
  | relevel =>
    intro hmode
    obtain ⟨ho, hk, hn⟩ := h hmode
    exact ⟨by simp [ho, Table.update, Table.change], hk, hn⟩
  | endOrder =>
    intro hmode
    obtain ⟨ho, hk, hn⟩ := h hmode
    exact ⟨by simp [ho, Table.erase], hk, hn⟩
  | tasks =>
    intro hmode
    obtain ⟨ho, hk, hn⟩ := h hmode
    exact ⟨ho, by simp [hk], hn⟩
  | newTask _ _ _ ha => exact fun hmode => absurd hmode (wakes ha)
  | endTask =>
    intro hmode
    obtain ⟨ho, hk, hn⟩ := h hmode
    exact ⟨ho, by simp [hk], hn⟩
  | stations _ _ _ _ hr =>
    intro hmode
    obtain ⟨ho, hk, hn⟩ := h hmode
    rcases hr with ha | hr
    · exact absurd hmode (wakes ha)
    · exact ⟨ho, hk, hr hn⟩
  | judged => exact closedLaw_judgeClosing h
  | reset => exact fun _ => ⟨rfl, rfl, fun st hst => by rw [List.eq_of_mem_replicate hst]; rfl⟩
  | _ => exact h

/-- An elementary change that is quiet leaves no yard CLOSING at rest. -/
theorem Change.closingLaw (hc : Change A true s t) (h : closingLaw s) : closingLaw t := by
  cases hc with
  | aside hs | exchange hs => rw [Safety.closingLaw, hs.mode, hs.orders, hs.tasks]; exact h
  | opened => intro hmode; cases hmode
  | flags => exact fun hmode => (h hmode).imp_left fun ho => by simpa [Table.change] using ho
  | orders => exact fun hmode => (h hmode).imp_left fun ho => by simpa [Table.change] using ho
  | newOrder _ n o =>
    refine fun _ => Or.inl fun he => ?_
    have hkey := Table.get_put_self s.orders n o
    rw [show Table.put s.orders n o = [] from he] at hkey
    cases hkey
  | relevel =>
    exact fun hmode => (h hmode).imp_left fun ho => by simpa [Table.update, Table.change] using ho
  | tasks => exact fun hmode => (h hmode).imp_right fun hk => by simpa using hk
  | newTask => exact fun _ => Or.inr (by simp)
  | reset => intro hmode; cases hmode
  | _ => exact h

theorem Change.keyLaw (hc : Change A q s t) (h : keyLaw s) : keyLaw t := by
  obtain ⟨hp, ho⟩ := h
  cases hc with
  | aside hs | exchange hs => rw [Safety.keyLaw, hs.packs, hs.orders]; exact ⟨hp, ho⟩
  | packs _ _ _ hr => exact ⟨hr hp, ho⟩
  | flags => exact ⟨hp, Table.rising_change (fun _ o => o.unstarved) ho⟩
  | orders _ f => exact ⟨hp, Table.rising_change f ho⟩
  | newOrder => exact ⟨hp, Table.rising_put (t := s.orders) _ _ ho⟩
  | relevel _ n level => exact ⟨hp, Table.rising_update n (fun o : Order => { o with level := level }) ho⟩
  | endOrder => exact ⟨hp, Table.rising_erase (t := s.orders) _ ho⟩
  | judged =>
    obtain ⟨-, -, -, ep, -, -, eo, -⟩ := judgeClosing_same s
    rw [Safety.keyLaw, ep, eo]
    exact ⟨hp, ho⟩
  | reset => exact ⟨hp, List.Pairwise.nil⟩
  | _ => exact ⟨hp, ho⟩

theorem Change.capacityLaw (hc : Change A q s t) (h : capacityLaw s) : capacityLaw t := by
  obtain ⟨hp, ho, hk⟩ := h
  cases hc with
  | aside hs | exchange hs => rw [Safety.capacityLaw, hs.packs, hs.orders, hs.tasks]; exact ⟨hp, ho, hk⟩
  | packs _ _ _ _ hl => exact ⟨hl.elim (·.trans hp) id, ho, hk⟩
  | flags => exact ⟨hp, by simpa using ho, hk⟩
  | orders => exact ⟨hp, by simpa using ho, hk⟩
  | newOrder _ n o _ _ _ hroom => exact ⟨hp, (Table.length_put_le s.orders n o).trans hroom, hk⟩
  | relevel => exact ⟨hp, by simpa using ho, hk⟩
  | endOrder => exact ⟨hp, (Table.length_erase_le _ _).trans ho, hk⟩
  | tasks => exact ⟨hp, ho, by simpa using hk⟩
  | newTask _ _ _ _ hroom => exact ⟨hp, ho, by simpa using hroom⟩
  | endTask => exact ⟨hp, ho, (List.length_filter_le _ _).trans hk⟩
  | judged =>
    obtain ⟨-, -, -, ep, -, -, eo, -, ek, -⟩ := judgeClosing_same s
    rw [Safety.capacityLaw, ep, eo, ek]
    exact ⟨hp, ho, hk⟩
  | reset => exact ⟨hp, Nat.zero_le _, Nat.zero_le _⟩
  | _ => exact ⟨hp, ho, hk⟩

/-- The sizes of the fixed tables, read off from a state that has the same tables. -/
theorem sizeLaw_of_eq (hy : t.yardMap = s.yardMap) (hps : t.products = s.products)
    (hls : t.lineSettings = s.lineSettings) (hl : t.lines.length = s.lines.length)
    (hn : t.stations.length = s.stations.length) (hw : t.watches.length = s.watches.length) (h : sizeLaw s) :
    sizeLaw t := by
  rw [Safety.sizeLaw, hy, hps, hls, hl, hn, hw]
  exact h

theorem Change.sizeLaw (hc : Change A q s t) (h : sizeLaw s) : sizeLaw t := by
  cases hc with
  | aside hs | exchange hs =>
    exact sizeLaw_of_eq hs.yardMap hs.products hs.lineSettings hs.lines (congrArg _ hs.stations) hs.watches h
  | settings _ _ _ _ _ _ hsize => exact hsize h
  | stations _ _ _ hl => exact sizeLaw_of_eq (s := s) rfl rfl rfl rfl hl rfl h
  | judged =>
    obtain ⟨-, ey, eps, -, -, els, -, -, -, el, ew, en⟩ := judgeClosing_same s
    exact sizeLaw_of_eq ey eps els (congrArg _ el) en (congrArg _ ew) h
  | reset =>
    obtain ⟨h1, h2, h3, h4, -, -, -, h8⟩ := h
    exact ⟨h1, h2, h3, h4, rfl, rfl, rfl, h8⟩
  | _ => exact h

end

end Sys2Proof.Proofs
end

section
/-!
PROOFS. The laws of orders and of the queue (R62, R66, R67, R71, R72) under each elementary change.
-/

namespace Sys2Proof.Proofs

open Sys2Proof.Machine Sys2Proof.Safety

/-! ## Orders -/

theorem mem_change {α : Type} {t : Table α} {f : Nat → α → α} {e : Nat × α} :
    e ∈ Table.change t f ↔ ∃ v, (e.1, v) ∈ t ∧ e.2 = f e.1 v := by
  obtain ⟨k, w⟩ := e
  simp only [Table.change, List.mem_map, Prod.mk.injEq, Prod.exists]
  constructor
  · rintro ⟨_, v, hmem, rfl, rfl⟩
    exact ⟨v, hmem, rfl⟩
  · rintro ⟨v, hmem, rfl⟩
    exact ⟨k, v, hmem, rfl, rfl⟩

theorem mem_update {α : Type} {t : Table α} {k : Nat} {f : α → α} {e : Nat × α} :
    e ∈ Table.update t k f ↔ ∃ v, (e.1, v) ∈ t ∧ e.2 = if e.1 = k then f v else v := mem_change

theorem mem_keys {α : Type} {t : Table α} {k : Nat} : k ∈ t.keys ↔ ∃ v, (k, v) ∈ t := by
  simp [Table.keys]

theorem get_eq_some_iff {α : Type} {t : Table α} (ht : Table.rising t) {k : Nat} {v : α} :
    Table.get t k = some v ↔ (k, v) ∈ t :=
  ⟨Table.mem_of_get, fun h => Table.get_of_mem ht h⟩

/-- The numbered element of a list that a map left. -/
theorem nth_map {α β : Type} (l : List α) (f : α → β) (n : Nat) : nth (l.map f) n = (nth l n).map f := by
  unfold nth
  split_ifs <;> simp

theorem mem_of_nth {α : Type} {l : List α} {n : Nat} {a : α} (h : nth l n = some a) : a ∈ l := by
  unfold nth at h
  split_ifs at h
  exact List.mem_of_getElem? h

theorem mem_changeNth {α : Type} {l : List α} {n : Nat} {f : α → α} {a : α} (h : a ∈ changeNth l n f) :
    a ∈ l ∨ ∃ b, nth l n = some b ∧ a = f b := by
  unfold changeNth at h
  split_ifs at h with hn
  · exact Or.inl h
  · obtain ⟨i, hi, rfl⟩ := List.mem_iff_getElem.mp h
    rw [List.getElem_modify]
    have hil : i < l.length := by simpa using hi
    split_ifs with he
    · refine Or.inr ⟨l[i], ?_, rfl⟩
      simp [nth, hn, he, hil]
    · exact Or.inl (List.getElem_mem hil)

theorem nth_changeNth_of_ne {α : Type} (l : List α) {m n : Nat} (f : α → α) (h : m ≠ n) :
    nth (changeNth l n f) m = nth l m := by
  unfold nth changeNth
  split_ifs with hm hn
  · rfl
  · rfl
  · have hmn : n - 1 ≠ m - 1 := by omega
    simp [hmn]

/-- The limits of an order do not read its STARVED flags (R66, R67, R72). -/
theorem orderOk_unstarved {o : Order} (h : orderOk o) : orderOk o.unstarved := by
  obtain ⟨hl, hm, hr, hd, hp⟩ := h
  refine ⟨fun l hmem => ?_, hm, hr, hd, fun pr hpr => ?_⟩
  · obtain ⟨l0, h0, rfl⟩ := List.mem_map.mp hmem
    exact hl l0 h0
  · obtain ⟨hs, l, hnth, hlt⟩ := hp pr hpr
    refine ⟨hs, { l with starved := false }, ?_, hlt⟩
    rw [Order.unstarved, nth_map, hnth]
    rfl

theorem Change.orderLaw {A : Part → Prop} {q : Bool} {s t : State} (hc : Change A q s t)
    (hr : Table.rising s.orders) (h : orderLaw s) : orderLaw t := by
  cases hc with
  | aside hs | exchange hs => rw [Safety.orderLaw, hs.orders]; exact h
  | flags =>
    intro e (he : e ∈ Table.change s.orders fun _ o => o.unstarved)
    obtain ⟨o, hmem, heq⟩ := mem_change.mp he
    rw [heq]
    exact orderOk_unstarved (h _ hmem)
  | orders _ f _ _ hok =>
    intro e he
    obtain ⟨o, hmem, heq⟩ := mem_change.mp he
    rw [heq]
    exact hok _ _ (Table.get_of_mem hr hmem) (h _ hmem)
  | newOrder _ _ _ _ _ _ _ hok =>
    intro e he
    rcases Table.mem_keys_put he with rfl | he
    · exact hok
    · exact h e he
  | relevel _ n level =>
    intro e (he : e ∈ Table.update s.orders n fun o => { o with level := level })
    obtain ⟨o, hmem, heq⟩ := mem_update.mp he
    have ho : orderOk o := h _ hmem
    rw [heq]
    split_ifs
    · exact ho
    · exact ho
  | endOrder => exact fun e he => h e (List.mem_filter.mp he).1
  | judged =>
    obtain ⟨-, -, -, -, -, -, eo, -⟩ := judgeClosing_same s
    rw [Safety.orderLaw, eo]
    exact h
  | reset => intro e he; cases he
  | _ => exact h

/-! ## The queue -/

theorem levelOf_eq (s : State) (h : Nat) : levelOf s h = ((Table.get s.orders h).map Order.level).getD 0 := by
  rw [levelOf, State.order]
  cases Table.get s.orders h <;> rfl

/-- The level of an order is read from the order table alone. -/
theorem levelOf_congr {s t : State} (h : Nat)
    (he : (Table.get t.orders h).map Order.level = (Table.get s.orders h).map Order.level) :
    levelOf t h = levelOf s h := by rw [levelOf_eq, levelOf_eq, he]

/-- The queue's law is read from the keys, the levels and the queue. -/
theorem queueLaw_of_levels {s t : State} (hq : t.queue = s.queue) (hk : t.orders.keys = s.orders.keys)
    (hl : ∀ h, levelOf t h = levelOf s h) (h : queueLaw s) : queueLaw t := by
  simpa only [queueLaw, hq, hk, hl] using h

theorem get_erase_other {α : Type} (t : Table α) {k n : Nat} (h : n ≠ k) :
    Table.get (Table.erase t k) n = Table.get t n := by
  induction t with
  | nil => rfl
  | cons d t ih =>
    obtain ⟨k', v⟩ := d
    simp only [Table.erase, List.filter_cons]
    split_ifs with hk
    · rw [Table.get_cons, Table.get_cons]
      exact congrArg _ ih
    · have hkn : k' ≠ n := fun e => h (e ▸ by simpa using hk)
      rw [Table.get_cons, if_neg hkn]
      exact ih

theorem mem_leaveQueue {x h : Nat} {q : List Nat} : x ∈ leaveQueue h q ↔ x ∈ q ∧ x ≠ h := by
  simp [leaveQueue]

theorem mem_keys_erase {α : Type} {t : Table α} {k x : Nat} : x ∈ (Table.erase t k).keys ↔ x ∈ t.keys ∧ x ≠ k := by
  simp only [mem_keys, Table.erase, List.mem_filter, decide_eq_true_eq, exists_and_right]

theorem mem_keys_iff_get {α : Type} {t : Table α} {k : Nat} : k ∈ t.keys ↔ ∃ v, Table.get t k = some v := by
  refine ⟨fun h => ?_, fun ⟨v, hv⟩ => mem_keys.mpr ⟨v, Table.mem_of_get hv⟩⟩
  induction t with
  | nil => cases h
  | cons d t ih =>
    obtain ⟨k', v'⟩ := d
    rw [Table.get_cons]
    split_ifs with hk
    · exact ⟨v', rfl⟩
    · exact ih ((List.mem_cons.mp h).resolve_left (Ne.symm hk))

theorem mem_keys_put_iff {α : Type} {t : Table α} {k x : Nat} {v : α} :
    x ∈ (Table.put t k v).keys ↔ x = k ∨ x ∈ t.keys := by
  by_cases hx : x = k
  · subst hx
    simp [mem_keys_iff_get, Table.get_put_self]
  · simp [mem_keys_iff_get, Table.get_put_other t v hx, hx]

/-- A handle that joins the tail of its level leaves the queue ordered by level (R62), by the levels `level'` that hold
once it has joined. -/
theorem joinQueue_ordered {s : State} {h level : Nat} {q : List Nat} {level' : Nat → Nat} (hnot : h ∉ q)
    (hnodup : q.Nodup) (hself : level' h = level) (hother : ∀ x ∈ q, level' x = levelOf s x)
    (hordered : q.Pairwise fun a b => levelOf s b ≤ levelOf s a) :
    (joinQueue s h level q).Nodup ∧ (∀ x, x ∈ joinQueue s h level q ↔ x = h ∨ x ∈ q) ∧
      (joinQueue s h level q).Pairwise fun a b => level' b ≤ level' a := by
  obtain ⟨front, back, rfl, hfront, hback, hjoin⟩ := joinQueue_split s h level q
  rw [hjoin]
  have hperm : (front ++ h :: back).Perm (h :: (front ++ back)) := List.perm_middle
  refine ⟨hperm.nodup_iff.mpr (List.nodup_cons.mpr ⟨hnot, hnodup⟩), fun x => by rw [hperm.mem_iff, List.mem_cons],
    ?_⟩
  rw [List.pairwise_append] at hordered ⊢
  obtain ⟨hf, hb, hcross⟩ := hordered
  have inFront : ∀ x ∈ front, level' x = levelOf s x := fun x hx => hother x (List.mem_append_left _ hx)
  have inBack : ∀ x ∈ back, level' x = levelOf s x := fun x hx => hother x (List.mem_append_right _ hx)
  have below : ∀ x ∈ back, levelOf s x ≤ level := by
    cases back with
    | nil => intro x hx; cases hx
    | cons y ys =>
      have hy : levelOf s y < level := hback y rfl
      intro x hx
      rcases List.mem_cons.mp hx with rfl | hx
      · exact hy.le
      · exact ((List.pairwise_cons.mp hb).1 x hx).trans hy.le
  refine ⟨hf.imp_of_mem fun ha hb' hle => by rwa [inFront _ ha, inFront _ hb'],
    List.pairwise_cons.mpr ⟨fun x hx => by rw [inBack x hx, hself]; exact below x hx,
      hb.imp_of_mem fun ha hb' hle => by rwa [inBack _ ha, inBack _ hb']⟩, fun a ha b hb' => ?_⟩
  rcases List.mem_cons.mp hb' with rfl | hb'
  · rw [hself, inFront a ha]
    exact hfront a ha
  · rw [inFront a ha, inBack b hb']
    exact hcross a ha b hb'

theorem queueLaw_addOrder {s : State} {h : Nat} {o : Order} (hfree : h ∉ s.orders.keys) (hs : queueLaw s) :
    queueLaw (addOrder h o s) := by
  obtain ⟨hnodup, hmem, hordered⟩ := hs
  have hnot : h ∉ s.queue := fun hin => hfree ((hmem h).mp hin)
  have hother : ∀ x ∈ s.queue, levelOf (addOrder h o s) x = levelOf s x := fun x hx =>
    levelOf_congr x (congrArg _ (Table.get_put_other s.orders o fun e : x = h => hnot (e ▸ hx)))
  have hself : levelOf (addOrder h o s) h = o.level := by
    rw [levelOf_eq, addOrder, Table.get_put_self]
    rfl
  obtain ⟨h1, h2, h3⟩ := joinQueue_ordered hnot hnodup hself hother hordered
  refine ⟨h1, fun x => (h2 x).trans ?_, h3⟩
  rw [addOrder, mem_keys_put_iff, hmem]

/-- The state after a change of level, its STARVED flags apart (R75). -/
def atLevel (h level : Nat) (s : State) : State :=
  { changeOrder h (fun o => { o with level := level }) s with
    queue := joinQueue s h level (leaveQueue h s.queue) }

theorem relevel_eq (h level : Nat) (s : State) : relevel h level s = clearStarved (atLevel h level s) := rfl

theorem queueLaw_atLevel {s : State} {h level : Nat} (hlive : h ∈ s.orders.keys) (hs : queueLaw s) :
    queueLaw (atLevel h level s) := by
  obtain ⟨hnodup, hmem, hordered⟩ := hs
  obtain ⟨o, ho⟩ := mem_keys_iff_get.mp hlive
  have hsub : (leaveQueue h s.queue).Sublist s.queue := List.filter_sublist
  have horders : (atLevel h level s).orders = Table.update s.orders h fun o => { o with level := level } := rfl
  have hself : levelOf (atLevel h level s) h = level := by
    rw [levelOf_eq, horders, Table.get_update_self, ho]
    rfl
  have hother : ∀ x ∈ leaveQueue h s.queue, levelOf (atLevel h level s) x = levelOf s x := fun x hx =>
    levelOf_congr x (by rw [horders, Table.get_update_other _ _ (mem_leaveQueue.mp hx).2])
  obtain ⟨h1, h2, h3⟩ := joinQueue_ordered (not_mem_leaveQueue h s.queue) (hnodup.sublist hsub) hself hother
    (hordered.sublist hsub)
  refine ⟨h1, fun x => (h2 x).trans ?_, h3⟩
  rw [horders, Table.keys_update, mem_leaveQueue, hmem]
  by_cases hx : x = h
  · simp [hx, hlive]
  · simp [hx]

theorem queueLaw_endOrder {s : State} (h : Nat) (hs : queueLaw s) :
    queueLaw { s with orders := Table.erase s.orders h, queue := leaveQueue h s.queue } := by
  obtain ⟨hnodup, hmem, hordered⟩ := hs
  have hsub : (leaveQueue h s.queue).Sublist s.queue := List.filter_sublist
  refine ⟨hnodup.sublist hsub, fun x => by rw [mem_leaveQueue, mem_keys_erase, hmem], ?_⟩
  refine (hordered.sublist hsub).imp_of_mem fun {a b} ha hb hle => ?_
  have hlevel : ∀ x ∈ leaveQueue h s.queue,
      levelOf { s with orders := Table.erase s.orders h, queue := leaveQueue h s.queue } x = levelOf s x :=
    fun x hx => levelOf_congr x (congrArg _ (get_erase_other _ (mem_leaveQueue.mp hx).2))
  rwa [hlevel a ha, hlevel b hb]

theorem Change.queueLaw {A : Part → Prop} {q : Bool} {s t : State} (hc : Change A q s t) (h : queueLaw s) :
    queueLaw t := by
  cases hc with
  | aside hs | exchange hs =>
    exact queueLaw_of_levels hs.queue (congrArg _ hs.orders) (fun x => levelOf_congr x (by rw [hs.orders])) h
  | flags =>
    refine queueLaw_of_levels (s := s) rfl (Table.keys_change s.orders fun _ o => o.unstarved)
      (fun x => levelOf_congr x ?_) h
    simp [Table.get_change, Function.comp_def, Order.unstarved]
  | orders _ f _ hl =>
    refine queueLaw_of_levels (s := s) rfl (Table.keys_change s.orders f) (fun x => levelOf_congr x ?_) h
    simp [Table.get_change, Function.comp_def, hl]
  | newOrder _ _ _ _ _ hfree => exact queueLaw_addOrder hfree h
  | relevel _ _ _ _ hlive => exact queueLaw_atLevel hlive h
  | endOrder => exact queueLaw_endOrder _ h
  | judged =>
    obtain ⟨-, -, -, -, -, -, eo, eq, -⟩ := judgeClosing_same s
    exact queueLaw_of_levels eq (congrArg _ eo) (fun x => levelOf_congr x (by rw [eo])) h
  | reset => exact ⟨List.nodup_nil, fun _ => Iff.rfl, List.Pairwise.nil⟩
  | _ => exact h

end Sys2Proof.Proofs
end

section
/-!
PROOFS. Stacks (R5 to R9, R35): a stack is read from where each tag stands, and so is what a removal, a put-down, a
birth and a retirement do to it.
-/

namespace Sys2Proof.Proofs

open Sys2Proof.Machine Sys2Proof.Safety

/-! ## Where the tags stand -/

/-- Where the pack with a tag stands, if it lives and stands anywhere. -/
def spot (t : Table Pack) (tag : Nat) : Option Location := (Table.get t tag).bind Pack.location

/-- The tags that stand in a stack occupy the tiers below `n`, one each. -/
def Stacked (at_ : Nat → Option Location) (b k n : Nat) : Prop :=
  (∀ i, (∃ tag, at_ tag = some ⟨b, k, i⟩) ↔ i < n) ∧
    ∀ x y i, at_ x = some ⟨b, k, i⟩ → at_ y = some ⟨b, k, i⟩ → x = y

theorem spot_eq_some_iff {t : Table Pack} (ht : Table.rising t) {tag : Nat} {l : Location} :
    spot t tag = some l ↔ ∃ p, (tag, p) ∈ t ∧ p.location = some l := by
  simp only [spot, Option.bind_eq_some_iff, get_eq_some_iff ht]

theorem spot_of_mem {t : Table Pack} (ht : Table.rising t) {e : Nat × Pack} (he : e ∈ t) :
    spot t e.1 = e.2.location := by rw [spot, Table.get_of_mem ht he]; rfl

theorem mem_stackList_spot {s : State} (hr : Table.rising s.packs) {b k : Nat} {e : Nat × Pack} :
    e ∈ stackList s b k ↔ e ∈ s.packs ∧ ∃ i, spot s.packs e.1 = some ⟨b, k, i⟩ := by
  rw [mem_stackList]
  exact and_congr_right fun he => by rw [spot_of_mem hr he]

theorem tier_of_location {p : Pack} {b k i : Nat} (h : p.location = some ⟨b, k, i⟩) : p.tier = i := by
  rw [Pack.tier, h]

/-- A stack list goes by tier. -/
theorem stackList_ordered (s : State) (b k : Nat) : (stackList s b k).Pairwise fun e f => e.2.tier ≤ f.2.tier := by
  unfold stackList sortBy
  generalize s.packs.filter (fun e => e.2.inStack b k) = l
  induction l with
  | nil => exact List.Pairwise.nil
  | cons x xs ih =>
    refine insertBy_pairwise (R := fun e f : Nat × Pack => e.2.tier ≤ f.2.tier) (fun _ _ _ => Nat.le_trans) ih ?_ ?_
    · intro y _ hy
      exact (of_decide_eq_true hy).le
    · intro y _ hy
      exact Nat.not_lt.mp (of_decide_eq_false hy)

theorem nodup_of_rising {α : Type} {t : Table α} (ht : Table.rising t) : t.Nodup :=
  List.Pairwise.imp (fun h e => absurd (congrArg Prod.fst e) (Nat.ne_of_lt h)) ht

/-- The tiers of a stack list are those its tags occupy. -/
theorem stackList_tiers {s : State} (hr : Table.rising s.packs) {b k n : Nat} (h : Stacked (spot s.packs) b k n) :
    (stackList s b k).map (fun e => e.2.tier) = List.range n := by
  obtain ⟨hmem, hinj⟩ := h
  have hnodup : (stackList s b k).Nodup := (sortBy_perm _ _).nodup_iff.mpr ((nodup_of_rising hr).filter _)
  have hat : ∀ e ∈ stackList s b k, e ∈ s.packs ∧ spot s.packs e.1 = some ⟨b, k, e.2.tier⟩ := fun e he => by
    obtain ⟨hin, i, hi⟩ := (mem_stackList_spot hr).mp he
    rw [tier_of_location ((spot_of_mem hr hin).symm.trans hi)]
    exact ⟨hin, hi⟩
  have htiers : ((stackList s b k).map fun e => e.2.tier).Nodup := by
    refine List.Nodup.map_on (fun x hx y hy hxy => ?_) hnodup
    obtain ⟨hxin, hxat⟩ := hat x hx
    obtain ⟨hyin, hyat⟩ := hat y hy
    exact Table.eq_of_mem hr hxin hyin (hinj _ _ _ hxat (hxy ▸ hyat))
  have hperm : ((stackList s b k).map fun e => e.2.tier).Perm (List.range n) := by
    rw [List.perm_ext_iff_of_nodup htiers List.nodup_range]
    intro i
    rw [List.mem_range, ← hmem i, List.mem_map]
    constructor
    · rintro ⟨e, he, rfl⟩
      exact ⟨e.1, (hat e he).2⟩
    · rintro ⟨tag, htag⟩
      obtain ⟨p, hp, hl⟩ := (spot_eq_some_iff hr).mp htag
      exact ⟨(tag, p), (mem_stackList_spot hr).mpr ⟨hp, i, htag⟩, tier_of_location hl⟩
  refine hperm.eq_of_pairwise (fun a b _ _ hab hba => Nat.le_antisymm hab hba) ?_ List.pairwise_le_range
  exact List.pairwise_map.mpr (stackList_ordered s b k)

theorem height_of_stacked {s : State} (hr : Table.rising s.packs) {b k n : Nat} (h : Stacked (spot s.packs) b k n) :
    height s b k = n := by
  rw [height, ← List.length_map (f := fun e => e.2.tier), stackList_tiers hr h, List.length_range]

theorem stacked_of_tierLaw {s : State} (hr : Table.rising s.packs) (h : tierLaw s) (b k : Nat) :
    Stacked (spot s.packs) b k (height s b k) := by
  have htiers := h b k
  refine ⟨fun i => ?_, fun x y i hx hy => ?_⟩
  · rw [← List.mem_range, ← htiers, List.mem_map]
    constructor
    · rintro ⟨tag, htag⟩
      obtain ⟨p, hp, hl⟩ := (spot_eq_some_iff hr).mp htag
      exact ⟨(tag, p), (mem_stackList_spot hr).mpr ⟨hp, i, htag⟩, tier_of_location hl⟩
    · rintro ⟨e, he, rfl⟩
      obtain ⟨hin, i, hi⟩ := mem_stackList.mp he
      exact ⟨e.1, by rw [spot_of_mem hr hin, tier_of_location hi, hi]⟩
  · obtain ⟨p, hp, hpl⟩ := (spot_eq_some_iff hr).mp hx
    obtain ⟨q, hq, hql⟩ := (spot_eq_some_iff hr).mp hy
    have hnodup : ((stackList s b k).map fun e => e.2.tier).Nodup := htiers ▸ List.nodup_range
    have := List.inj_on_of_nodup_map hnodup ((mem_stackList_spot hr).mpr ⟨hp, i, hx⟩)
      ((mem_stackList_spot hr).mpr ⟨hq, i, hy⟩) ((tier_of_location hpl).trans (tier_of_location hql).symm)
    exact congrArg Prod.fst this

/-- Law 2 without its limit, said of where the tags stand. -/
theorem tierLaw_iff {s : State} (hr : Table.rising s.packs) :
    tierLaw s ↔ ∀ b k, ∃ n, Stacked (spot s.packs) b k n := by
  refine ⟨fun h b k => ⟨_, stacked_of_tierLaw hr h b k⟩, fun h b k => ?_⟩
  obtain ⟨n, hn⟩ := h b k
  rw [height_of_stacked hr hn]
  exact stackList_tiers hr hn

/-! ## What moves do to a stack -/

/-- A place after the pack that stood at `l` has left: what stood above it settles by one tier (R8). -/
def settled (l m : Location) : Location :=
  if m.bay = l.bay ∧ m.stack = l.stack ∧ l.tier < m.tier then { m with tier := m.tier - 1 } else m

/-- The tags stand as they did, but for one that has left its place. -/
def leaves (at_ : Nat → Option Location) (tag : Nat) (l : Location) (x : Nat) : Option Location :=
  if x = tag then none else (at_ x).map (settled l)

/-- The tags stand as they did, but for one that stands at `l`. -/
def arrives (at_ : Nat → Option Location) (tag : Nat) (l : Location) (x : Nat) : Option Location :=
  if x = tag then some l else at_ x

theorem Stacked.leaves_other {at_ : Nat → Option Location} {b k n tag : Nat} {l : Location}
    (h : Stacked at_ b k n) (hl : at_ tag = some l) (hne : ¬ (b = l.bay ∧ k = l.stack)) :
    Stacked (leaves at_ tag l) b k n := by
  have hiff : ∀ x i, leaves at_ tag l x = some ⟨b, k, i⟩ ↔ at_ x = some ⟨b, k, i⟩ := by
    intro x i
    by_cases hx : x = tag
    · subst hx
      simp only [leaves, if_true, reduceCtorEq, false_iff, hl, Option.some.injEq]
      rintro rfl
      exact hne ⟨rfl, rfl⟩
    · rw [leaves, if_neg hx]
      cases hm : at_ x with
      | none => simp
      | some m =>
        simp only [Option.map_some, Option.some.injEq]
        unfold settled
        split_ifs with hc
        · constructor
          · rintro he
            exact absurd ⟨hc.1 ▸ (congrArg Location.bay he).symm, hc.2.1 ▸ (congrArg Location.stack he).symm⟩ hne
          · rintro rfl
            exact absurd ⟨hc.1, hc.2.1⟩ hne
        · exact Iff.rfl
  simpa only [Stacked, hiff] using h

theorem Stacked.leaves_self {at_ : Nat → Option Location} {n tag : Nat} {l : Location}
    (h : Stacked at_ l.bay l.stack n) (hl : at_ tag = some l) :
    Stacked (leaves at_ tag l) l.bay l.stack (n - 1) := by
  obtain ⟨hmem, hinj⟩ := h
  obtain ⟨b, k, j⟩ := l
  have hj : j < n := (hmem j).mp ⟨tag, hl⟩
  have hiff : ∀ x i, leaves at_ tag ⟨b, k, j⟩ x = some ⟨b, k, i⟩ ↔
      x ≠ tag ∧ at_ x = some ⟨b, k, if i < j then i else i + 1⟩ := by
    intro x i
    by_cases hx : x = tag
    · simp [leaves, hx]
    · rw [leaves, if_neg hx]
      cases hm : at_ x with
      | none => simp
      | some m =>
        obtain ⟨mb, mk, mi⟩ := m
        have hmi : mb = b → mk = k → mi ≠ j := fun e1 e2 e3 =>
          hx (hinj x tag j (by rw [hm, e1, e2, e3]) hl)
        simp only [Option.map_some, Option.some.injEq, settled, ne_eq, hx, not_false_eq_true, true_and]
        split_ifs with hc hi hi <;> simp only [Location.mk.injEq] at *
        all_goals
          constructor
          · rintro ⟨rfl, rfl, rfl⟩
            have := hmi rfl rfl
            refine ⟨rfl, rfl, ?_⟩
            omega
          · rintro ⟨rfl, rfl, rfl⟩
            have := hmi rfl rfl
            refine ⟨rfl, rfl, ?_⟩
            omega
  refine ⟨fun i => ?_, fun x y i hx hy => hinj _ _ _ ((hiff x i).mp hx).2 ((hiff y i).mp hy).2⟩
  simp only [hiff]
  constructor
  · rintro ⟨x, hne, hx⟩
    have hlt := (hmem _).mp ⟨x, hx⟩
    split_ifs at hlt <;> omega
  · intro hi
    obtain ⟨x, hx⟩ := (hmem (if i < j then i else i + 1)).mpr (by split_ifs <;> omega)
    refine ⟨x, ?_, hx⟩
    rintro rfl
    rw [hl] at hx
    have htier : j = if i < j then i else i + 1 := congrArg Location.tier (Option.some.inj hx)
    split_ifs at htier <;> omega

theorem Stacked.arrives_other {at_ : Nat → Option Location} {b k n tag : Nat} {l : Location}
    (h : Stacked at_ b k n) (hl : at_ tag = none) (hne : ¬ (b = l.bay ∧ k = l.stack)) :
    Stacked (arrives at_ tag l) b k n := by
  have hiff : ∀ x i, arrives at_ tag l x = some ⟨b, k, i⟩ ↔ at_ x = some ⟨b, k, i⟩ := by
    intro x i
    by_cases hx : x = tag
    · subst hx
      simp only [arrives, if_true, Option.some.injEq, hl, reduceCtorEq, iff_false]
      rintro rfl
      exact hne ⟨rfl, rfl⟩
    · rw [arrives, if_neg hx]
  simpa only [Stacked, hiff] using h

theorem Stacked.arrives_self {at_ : Nat → Option Location} {b k n tag : Nat} (h : Stacked at_ b k n)
    (hl : at_ tag = none) : Stacked (arrives at_ tag ⟨b, k, n⟩) b k (n + 1) := by
  obtain ⟨hmem, hinj⟩ := h
  have hiff : ∀ x i, arrives at_ tag ⟨b, k, n⟩ x = some ⟨b, k, i⟩ ↔
      (x = tag ∧ i = n) ∨ at_ x = some ⟨b, k, i⟩ := by
    intro x i
    by_cases hx : x = tag
    · subst hx
      simp only [arrives, if_true, Option.some.injEq, Location.mk.injEq, true_and, hl, reduceCtorEq, or_false]
      exact eq_comm
    · simp [arrives, hx]
  refine ⟨fun i => ?_, fun x y i hx hy => ?_⟩
  · simp only [hiff]
    constructor
    · rintro ⟨x, ⟨rfl, rfl⟩ | hx⟩
      · exact Nat.lt_succ_self _
      · exact Nat.lt_succ_of_lt ((hmem i).mp ⟨x, hx⟩)
    · intro hi
      rcases Nat.lt_succ_iff_lt_or_eq.mp hi with hlt | rfl
      · obtain ⟨x, hx⟩ := (hmem i).mpr hlt
        exact ⟨x, Or.inr hx⟩
      · exact ⟨tag, Or.inl ⟨rfl, rfl⟩⟩
  · rcases (hiff x i).mp hx with ⟨rfl, rfl⟩ | hx'
    · rcases (hiff y i).mp hy with ⟨rfl, -⟩ | hy'
      · rfl
      · exact absurd ((hmem i).mp ⟨y, hy'⟩) (Nat.lt_irrefl _)
    · rcases (hiff y i).mp hy with ⟨rfl, rfl⟩ | hy'
      · exact absurd ((hmem i).mp ⟨x, hx'⟩) (Nat.lt_irrefl _)
      · exact hinj x y i hx' hy'

/-! ## What the operations do to where the tags stand -/

theorem spot_change {t : Table Pack} {f : Nat → Pack → Pack} (tag : Nat) :
    spot (Table.change t f) tag = (Table.get t tag).bind fun p => (f tag p).location := by
  rw [spot, Table.get_change]
  cases Table.get t tag <;> rfl

/-- A change of records that moves no pack. -/
theorem spot_change_of_location {t : Table Pack} {f : Nat → Pack → Pack} (h : ∀ k p, (f k p).location = p.location)
    (tag : Nat) : spot (Table.change t f) tag = spot t tag := by
  rw [spot_change]
  simp only [h]
  rfl

theorem settle_location (l : Location) (p : Pack) : (p.settle l).location = p.location.map (settled l) := by
  unfold Pack.settle settled
  cases hp : p.location with
  | none => simp [hp]
  | some m =>
    simp only [Option.map_some]
    split_ifs with h
    · rfl
    · exact hp

theorem removeFromStack_of_spot_none {s : State} {tag : Nat} (h : spot s.packs tag = none) :
    removeFromStack tag s = s := by
  unfold spot at h
  rw [removeFromStack, h]

theorem spot_removeFromStack {s : State} {tag : Nat} {l : Location} (h : spot s.packs tag = some l) (x : Nat) :
    spot (removeFromStack tag s).packs x = leaves (spot s.packs) tag l x := by
  have hl : (Table.get s.packs tag).bind Pack.location = some l := h
  simp only [removeFromStack, hl, leaves]
  by_cases hx : x = tag
  · subst hx
    rw [if_pos rfl, spot, Table.get_update_self]
    cases Table.get (Table.change s.packs fun _ p => p.settle l) x <;> rfl
  · rw [if_neg hx, spot, Table.get_update_other _ _ hx, Table.get_change, spot]
    cases Table.get s.packs x with
    | none => rfl
    | some p => exact settle_location l p

/-- After a removal the pack stands nowhere (R8). -/
theorem spot_removeFromStack_self (s : State) (tag : Nat) : spot (removeFromStack tag s).packs tag = none := by
  cases h : spot s.packs tag with
  | none => rw [removeFromStack_of_spot_none h, h]
  | some l => rw [spot_removeFromStack h, leaves, if_pos rfl]

theorem rising_removeFromStack {s : State} (tag : Nat) (h : Table.rising s.packs) :
    Table.rising (removeFromStack tag s).packs := by
  unfold removeFromStack
  split
  · exact h
  · simpa [Table.rising, Table.update, Table.change, List.pairwise_map] using h

theorem rising_putDown {s : State} (b k tag : Nat) (f : Pack → Pack) (h : Table.rising s.packs) :
    Table.rising (putDown b k tag f s).packs := by
  rw [packs_putDown]
  exact Table.rising_update _ _ (rising_removeFromStack tag h)

theorem keys_removeFromStack (s : State) (tag : Nat) : (removeFromStack tag s).packs.keys = s.packs.keys := by
  unfold removeFromStack
  split
  · rfl
  · simp

theorem length_eq_of_keys {α β : Type} {t : Table α} {u : Table β} (h : t.keys = u.keys) : t.length = u.length := by
  simpa [Table.keys] using congrArg List.length h

theorem spot_putDown {s : State} {b k tag : Nat} {f : Pack → Pack} (hlive : tag ∈ s.packs.keys) (x : Nat) :
    spot (putDown b k tag f s).packs x =
      arrives (spot (removeFromStack tag s).packs) tag ⟨b, k, height (removeFromStack tag s) b k⟩ x := by
  rw [packs_putDown, arrives]
  by_cases hx : x = tag
  · subst hx
    rw [if_pos rfl, spot, Table.get_update_self]
    obtain ⟨p, hp⟩ := mem_keys_iff_get.mp ((keys_removeFromStack s x).symm ▸ hlive)
    rw [hp]
    rfl
  · rw [if_neg hx, spot, Table.get_update_other _ _ hx, spot]

theorem get_none_of_not_mem_keys {α : Type} {t : Table α} {k : Nat} (h : k ∉ t.keys) : Table.get t k = none :=
  Table.get_eq_none t h

/-- A put-down of a pack that does not live changes nothing. -/
theorem putDown_of_not_live {s : State} {b k tag : Nat} {f : Pack → Pack} (h : tag ∉ s.packs.keys) (x : Nat) :
    spot (putDown b k tag f s).packs x = spot s.packs x := by
  have hnone := Table.get_eq_none _ h
  have hr : removeFromStack tag s = s := removeFromStack_of_spot_none (by rw [spot, hnone]; rfl)
  rw [packs_putDown, hr, spot, spot]
  by_cases hx : x = tag
  · subst hx
    rw [Table.get_update_self, hnone]
    rfl
  · rw [Table.get_update_other _ _ hx]

theorem spot_erase {t : Table Pack} {tag : Nat} (h : spot t tag = none) (x : Nat) :
    spot (Table.erase t tag) x = spot t x := by
  by_cases hx : x = tag
  · subst hx
    rw [h, spot, Table.get_erase_self]
    rfl
  · rw [spot, get_erase_other _ hx, spot]

theorem spot_put (t : Table Pack) (tag : Nat) {p : Pack} {l : Location} (h : p.location = some l) (x : Nat) :
    spot (Table.put t tag p) x = arrives (spot t) tag l x := by
  rw [arrives]
  by_cases hx : x = tag
  · subst hx
    rw [if_pos rfl, spot, Table.get_put_self]
    exact h
  · rw [if_neg hx, spot, Table.get_put_other _ _ hx, spot]

/-! ## The tiers after an operation -/

section
variable {s : State}

/-- The heights of a state after a removal: a stack that held the pack is one lower. -/
theorem stacked_removeFromStack (hr : Table.rising s.packs) (ht : tierLaw s) (tag b k : Nat) :
    ∃ n, n ≤ height s b k ∧ Stacked (spot (removeFromStack tag s).packs) b k n := by
  have hs := stacked_of_tierLaw hr ht b k
  cases h : spot s.packs tag with
  | none => exact ⟨_, Nat.le_refl _, by rwa [removeFromStack_of_spot_none h]⟩
  | some l =>
    rw [show spot (removeFromStack tag s).packs = leaves (spot s.packs) tag l from
      funext (spot_removeFromStack h)]
    by_cases hbk : b = l.bay ∧ k = l.stack
    · obtain ⟨rfl, rfl⟩ := hbk
      exact ⟨_, Nat.sub_le _ _, hs.leaves_self h⟩
    · exact ⟨_, Nat.le_refl _, hs.leaves_other h hbk⟩

theorem tierLaw_removeFromStack (hr : Table.rising s.packs) (ht : tierLaw s) (tag : Nat) :
    tierLaw (removeFromStack tag s) :=
  (tierLaw_iff (rising_removeFromStack tag hr)).mpr fun b k =>
    have ⟨n, _, hn⟩ := stacked_removeFromStack hr ht tag b k
    ⟨n, hn⟩

theorem height_removeFromStack_le (hr : Table.rising s.packs) (ht : tierLaw s) (tag b k : Nat) :
    height (removeFromStack tag s) b k ≤ height s b k := by
  obtain ⟨n, hle, hn⟩ := stacked_removeFromStack hr ht tag b k
  rwa [height_of_stacked (rising_removeFromStack tag hr) hn]

/-- The heights after a put-down: the stack it ends on is one higher than the removal left it. -/
theorem stacked_putDown (hr : Table.rising s.packs) (ht : tierLaw s) (b k tag : Nat) (f : Pack → Pack) (b' k' : Nat) :
    ∃ n, n ≤ (if b' = b ∧ k' = k then height s b k + 1 else height s b' k') ∧
      Stacked (spot (putDown b k tag f s).packs) b' k' n := by
  by_cases hlive : tag ∈ s.packs.keys
  · have hr' := rising_removeFromStack tag hr
    have ht' := tierLaw_removeFromStack hr ht tag
    have hs' := stacked_of_tierLaw hr' ht' b' k'
    have hle := height_removeFromStack_le hr ht tag b' k'
    rw [show spot (putDown b k tag f s).packs = _ from funext (spot_putDown hlive)]
    split_ifs with hbk
    · obtain ⟨rfl, rfl⟩ := hbk
      exact ⟨_, Nat.succ_le_succ hle, hs'.arrives_self (spot_removeFromStack_self s tag)⟩
    · exact ⟨_, hle, hs'.arrives_other (spot_removeFromStack_self s tag) hbk⟩
  · rw [show spot (putDown b k tag f s).packs = spot s.packs from funext (putDown_of_not_live hlive)]
    refine ⟨_, ?_, stacked_of_tierLaw hr ht b' k'⟩
    split_ifs with hbk
    · obtain ⟨rfl, rfl⟩ := hbk
      exact Nat.le_succ _
    · exact Nat.le_refl _

theorem tierLaw_putDown (hr : Table.rising s.packs) (ht : tierLaw s) (b k tag : Nat) (f : Pack → Pack) :
    tierLaw (putDown b k tag f s) :=
  (tierLaw_iff (rising_putDown b k tag f hr)).mpr fun b' k' =>
    have ⟨n, _, hn⟩ := stacked_putDown hr ht b k tag f b' k'
    ⟨n, hn⟩

end

end Sys2Proof.Proofs
end

section
/-!
PROOFS. Law 2 (R35) under the operations on pack records, what the Yard Map answers of a stack with such tiers (R5,
R11), and the operations on pack records as chains of elementary changes.
-/

namespace Sys2Proof.Proofs

open Sys2Proof.Machine Sys2Proof.Safety

/-! ## What the Yard Map answers of a stack (R5, R11) -/

theorem stackIs_stackList {s : State} (ht : tierLaw s) (b k : Nat) : stackIs s b k (stackList s b k) := by
  refine ⟨fun _ => mem_stackList, ?_⟩
  have h : ((stackList s b k).map fun e => e.2.tier).Pairwise (· < ·) := ht b k ▸ List.pairwise_lt_range
  exact List.pairwise_map.mp h

theorem packsAbove_of_split {s : State} (hr : Table.rising s.packs) (ht : tierLaw s) {b k : Nat}
    {below rest : Table Pack} {e : Nat × Pack} (h : stackList s b k = below ++ e :: rest) :
    packsAbove s e.1 = rest := by
  obtain ⟨hin, i, hi⟩ := mem_stackList.mp (h ▸ (by simp) : e ∈ stackList s b k)
  have hord := (stackIs_stackList ht b k).2
  rw [h, List.pairwise_append, List.pairwise_cons] at hord
  obtain ⟨-, ⟨hrest, -⟩, hbelow⟩ := hord
  have hl : (Table.get s.packs e.1).bind Pack.location = some ⟨b, k, i⟩ := by
    rw [Table.get_of_mem hr hin]
    exact hi
  have hte : e.2.tier = i := tier_of_location hi
  have hb : below.filter (fun f => decide (i < f.2.tier)) = [] := by
    refine List.filter_eq_nil_iff.mpr fun f hf => ?_
    have := hbelow f hf e (by simp)
    simp only [decide_eq_true_eq]
    omega
  have hrr : rest.filter (fun f => decide (i < f.2.tier)) = rest := by
    refine List.filter_eq_self.mpr fun f hf => ?_
    have := hrest f hf
    simp only [decide_eq_true_eq]
    omega
  rw [packsAbove, hl]
  simp only
  rw [h, List.filter_append, hb, List.filter_cons, if_neg (by simp [hte]), hrr, List.nil_append]

theorem holdsReserved_iff (s : State) (b k : Nat) :
    holdsReserved s b k = true ↔ ∃ e ∈ stackList s b k, e.2.state = .reserved := by
  simp only [holdsReserved, List.any_eq_true, decide_eq_true_eq]

theorem movingAbove_iff (s : State) (tag : Nat) :
    movingAbove s tag = true ↔ ∃ f ∈ packsAbove s tag, f.2.state = .moving := by
  simp only [movingAbove, List.any_eq_true, decide_eq_true_eq]

/-! ## Law 2 after an operation -/

theorem height_stacked {s : State} (hr : Table.rising s.packs) (h : stackLaw s) (b k : Nat) :
    ∃ n, n ≤ (s.bay b).tierLimit ∧ Stacked (spot s.packs) b k n :=
  ⟨_, h.2.2.1 b k, stacked_of_tierLaw hr h.1 b k⟩

/-- Law 2, made from the stacks as the tags stand. -/
theorem stackLaw_of_stacked {s : State} (hr : Table.rising s.packs) (hlimit : ∀ b, (s.bay b).tierLimit ≤ 6)
    (hs : ∀ b k, ∃ n, n ≤ (s.bay b).tierLimit ∧ Stacked (spot s.packs) b k n)
    (hplace : ∀ e ∈ s.packs, e.2.state = .lifted ∨ e.2.state = .loaded → e.2.location = none) : stackLaw s := by
  refine ⟨(tierLaw_iff hr).mpr fun b k => ?_, hlimit, fun b k => ?_, hplace⟩
  · obtain ⟨n, -, hn⟩ := hs b k
    exact ⟨n, hn⟩
  · obtain ⟨n, hle, hn⟩ := hs b k
    rwa [height_of_stacked hr hn]

/-- Law 2 goes over to pack records under which every tag stands where it stood. -/
theorem stackLaw_of_spot {s : State} {p : Table Pack} (hr : Table.rising s.packs) (hr' : Table.rising p)
    (hspot : ∀ x, spot p x = spot s.packs x)
    (hplace : ∀ e ∈ p, e.2.state = .lifted ∨ e.2.state = .loaded → e.2.location = none) (h : stackLaw s) :
    stackLaw { s with packs := p } := by
  refine stackLaw_of_stacked hr' h.2.1 (fun b k => ?_) hplace
  obtain ⟨n, hle, hn⟩ := height_stacked hr h b k
  exact ⟨n, hle, by rwa [show spot p = spot s.packs from funext hspot]⟩

/-- A removal leaves every record as it was but for its place, and gives none a place (R8). -/
theorem mem_removeFromStack {s : State} {tag : Nat} {e : Nat × Pack} (he : e ∈ (removeFromStack tag s).packs) :
    ∃ p, (e.1, p) ∈ s.packs ∧ e.2 = { p with location := e.2.location } ∧
      (p.location = none → e.2.location = none) := by
  unfold removeFromStack at he
  split at he
  · exact ⟨e.2, he, rfl, id⟩
  · rename_i l _
    have he' : e ∈ Table.update (Table.change s.packs fun _ p => p.settle l) tag
      fun p => { p with location := none } := he
    obtain ⟨p, hp, heq⟩ := mem_update.mp he'
    obtain ⟨q, hq, hpq⟩ := mem_change.mp hp
    have hset : p = { q with location := p.location } := by
      have : p = q.settle l := hpq
      rw [this]
      unfold Pack.settle
      split
      · rfl
      · split_ifs <;> rfl
    have hnone : q.location = none → p.location = none := fun hn => by
      rw [show p = q.settle l from hpq, settle_location, hn]
      rfl
    refine ⟨q, hq, ?_, fun hn => ?_⟩
    · split_ifs at heq
      · rw [heq, hset]
      · rw [heq, ← hset]
    · split_ifs at heq
      · rw [heq]
      · rw [heq, hnone hn]

theorem stackLaw_removeFromStack {s : State} (tag : Nat) (hr : Table.rising s.packs) (h : stackLaw s) :
    stackLaw (removeFromStack tag s) := by
  have hbay : (removeFromStack tag s).bay = s.bay := by
    obtain ⟨p, e⟩ := removeFromStack_frame tag s
    rw [e]
    rfl
  refine stackLaw_of_stacked (rising_removeFromStack tag hr) (by rw [hbay]; exact h.2.1) (fun b k => ?_) ?_
  · obtain ⟨n, hle, hn⟩ := stacked_removeFromStack hr h.1 tag b k
    exact ⟨n, by rw [hbay]; exact hle.trans (h.2.2.1 b k), hn⟩
  · intro e he hst
    obtain ⟨p, hp, heq, hnone⟩ := mem_removeFromStack he
    have hstate : e.2.state = p.state := by rw [heq]
    exact hnone (h.2.2.2 _ hp (hstate ▸ hst))

theorem stackLaw_putDown {s : State} {b k tag : Nat} {f : Pack → Pack} (hroom : height s b k ≠ (s.bay b).tierLimit)
    (hf : ∀ p q, Table.get s.packs tag = some p → q.state = p.state → (f q).state ≠ .lifted ∧ (f q).state ≠ .loaded)
    (hr : Table.rising s.packs) (h : stackLaw s) : stackLaw (putDown b k tag f s) := by
  refine stackLaw_of_stacked (rising_putDown b k tag f hr) h.2.1 (fun b' k' => ?_) ?_
  · obtain ⟨n, hle, hn⟩ := stacked_putDown hr h.1 b k tag f b' k'
    refine ⟨n, hle.trans ?_, hn⟩
    show _ ≤ (s.bay b').tierLimit
    split_ifs with hbk
    · obtain ⟨rfl, rfl⟩ := hbk
      exact Nat.lt_of_le_of_ne (h.2.2.1 b' k') hroom
    · exact h.2.2.1 b' k'
  · intro e he hst
    rw [packs_putDown] at he
    obtain ⟨q, hq, heq⟩ := mem_update.mp he
    obtain ⟨p, hp, hqp, hnone⟩ := mem_removeFromStack hq
    have hstate : q.state = p.state := by rw [show q = _ from hqp]
    split_ifs at heq with htag
    · obtain ⟨h1, h2⟩ := hf p q (htag ▸ Table.get_of_mem hr hp) hstate
      rw [heq] at hst
      exact absurd hst (by simp [h1, h2])
    · rw [heq] at hst ⊢
      exact hnone (h.2.2.2 _ hp (hstate ▸ hst))

/-- A change of one record that moves no pack and lifts none that stands. -/
theorem stackLaw_changePack {s : State} {tag : Nat} {f : Pack → Pack} (hloc : ∀ p, (f p).location = p.location)
    (hf : ∀ p, Table.get s.packs tag = some p → (f p).state = .lifted ∨ (f p).state = .loaded →
      p.location = none ∨ p.state = .lifted ∨ p.state = .loaded)
    (hr : Table.rising s.packs) (h : stackLaw s) : stackLaw (changePack tag f s) := by
  refine stackLaw_of_spot hr (Table.rising_update tag f hr) (spot_change_of_location fun k p => ?_) ?_ h
  · split_ifs
    · exact hloc p
    · rfl
  · intro e he hst
    obtain ⟨p, hp, heq⟩ := mem_update.mp he
    split_ifs at heq with htag
    · rw [heq] at hst ⊢
      rw [hloc]
      rcases hf p (htag ▸ Table.get_of_mem hr hp) hst with hn | hs
      · exact hn
      · exact h.2.2.2 _ hp hs
    · rw [heq] at hst ⊢
      exact h.2.2.2 _ hp hst

theorem stackLaw_retirePack {s : State} (tag : Nat) (hr : Table.rising s.packs) (h : stackLaw s) :
    stackLaw (retirePack tag s) := by
  have hbay : (removeFromStack tag s).bay = s.bay := by
    obtain ⟨p, e⟩ := removeFromStack_frame tag s
    rw [e]
    rfl
  have h' := stackLaw_removeFromStack tag hr h
  have hr' := rising_removeFromStack tag hr
  refine stackLaw_of_stacked (Table.rising_erase tag hr') h.2.1 (fun b k => ?_) fun e he => ?_
  · obtain ⟨n, hle, hn⟩ := height_stacked hr' h' b k
    refine ⟨n, ?_, ?_⟩
    · rw [hbay] at hle
      exact hle
    · rwa [show spot (retirePack tag s).packs = spot (removeFromStack tag s).packs from
        funext (spot_erase (spot_removeFromStack_self s tag))]
  · exact h'.2.2.2 e (List.mem_filter.mp he).1

/-- A new record on top of a stack that has room (R7, R44). -/
theorem stackLaw_born {s : State} {tag b k : Nat} {p : Pack} (hfree : Table.get s.packs tag = none)
    (hloc : p.location = some ⟨b, k, height s b k⟩) (hst : p.state = .stored)
    (hroom : height s b k ≠ (s.bay b).tierLimit) (hr : Table.rising s.packs) (h : stackLaw s) :
    stackLaw { s with packs := Table.put s.packs tag p } := by
  refine stackLaw_of_stacked (Table.rising_put tag p hr) h.2.1 (fun b' k' => ?_) fun e he hs => ?_
  · have hs' := stacked_of_tierLaw hr h.1 b' k'
    have hnone : spot s.packs tag = none := by rw [spot, hfree]; rfl
    show ∃ n, n ≤ (s.bay b').tierLimit ∧ Stacked (spot (Table.put s.packs tag p)) b' k' n
    rw [show spot (Table.put s.packs tag p) = _ from funext (spot_put s.packs tag hloc)]
    by_cases hbk : b' = b ∧ k' = k
    · obtain ⟨rfl, rfl⟩ := hbk
      exact ⟨_, Nat.lt_of_le_of_ne (h.2.2.1 b' k') hroom, hs'.arrives_self hnone⟩
    · exact ⟨_, h.2.2.1 b' k', hs'.arrives_other hnone hbk⟩
  · rcases Table.mem_keys_put he with rfl | he
    · exact absurd hs (by simp [hst])
    · exact h.2.2.2 e he hs

theorem stackLaw_noPacks {s : State} (hlimit : ∀ b, (s.bay b).tierLimit ≤ 6) (hp : s.packs = []) : stackLaw s := by
  refine stackLaw_of_stacked (by rw [hp]; exact List.Pairwise.nil) hlimit (fun b k => ⟨0, Nat.zero_le _, ?_⟩) ?_
  · rw [hp]
    exact ⟨fun i => ⟨fun ⟨_, hx⟩ => (by cases hx), fun hi => absurd hi (Nat.not_lt_zero i)⟩, fun x y i hx => by cases hx⟩
  · rw [hp]
    intro e he
    cases he

/-! ## The operations on pack records as changes -/

section
variable {A : Part → Prop} {s : State}

theorem claim_packs {p : Table Pack} (hA : A .packs) (hrising : Table.rising s.packs → Table.rising p)
    (hlength : p.length ≤ s.packs.length ∨ p.length ≤ Config.packCapacity)
    (hstack : Table.rising s.packs → stackLaw s → stackLaw { s with packs := p }) : Claim A s { s with packs := p } :=
  (Change.packs s p hA hrising hlength hstack).toClaim

theorem claim_removeFromStack (hA : A .packs) (tag : Nat) : Claim A s (removeFromStack tag s) := by
  obtain ⟨p, e⟩ := removeFromStack_frame tag s
  have hp : (removeFromStack tag s).packs = p := by rw [e]
  rw [e]
  refine claim_packs hA (fun hr => hp ▸ rising_removeFromStack tag hr) (Or.inl ?_) fun hr h => ?_
  · exact (hp ▸ length_eq_of_keys (keys_removeFromStack s tag)).le
  · rw [← e]
    exact stackLaw_removeFromStack tag hr h

theorem claim_changePack (hA : A .packs) {tag : Nat} {f : Pack → Pack} (hloc : ∀ p, (f p).location = p.location)
    (hf : ∀ p, Table.get s.packs tag = some p → (f p).state = .lifted ∨ (f p).state = .loaded →
      p.location = none ∨ p.state = .lifted ∨ p.state = .loaded) : Claim A s (changePack tag f s) :=
  claim_packs hA (Table.rising_update tag f) (Or.inl (Table.length_update _ _ _).le)
    (stackLaw_changePack hloc hf)

theorem claim_putDown (hA : A .packs) {b k tag : Nat} {f : Pack → Pack} (hroom : height s b k ≠ (s.bay b).tierLimit)
    (hf : ∀ p q, Table.get s.packs tag = some p → q.state = p.state →
      (f q).state ≠ .lifted ∧ (f q).state ≠ .loaded) : Claim A s (putDown b k tag f s) := by
  refine claim_packs hA (rising_putDown b k tag f) (Or.inl ?_) (stackLaw_putDown hroom hf)
  exact ((Table.length_update _ _ _).trans (length_eq_of_keys (keys_removeFromStack s tag))).le

theorem claim_retirePack (hA : A .packs) (tag : Nat) : Claim A s (retirePack tag s) := by
  refine claim_packs hA (fun hr => Table.rising_erase tag (rising_removeFromStack tag hr)) (Or.inl ?_)
    (stackLaw_retirePack tag)
  exact (Table.length_erase_le _ _).trans (length_eq_of_keys (keys_removeFromStack s tag)).le

/-- A pack off its stack becomes LIFTED or LOADED, or what else it may (R31). -/
theorem claim_changePack_removed (hA : A .packs) {tag : Nat} {f : Pack → Pack}
    (hloc : ∀ p, (f p).location = p.location) : Claim A s (changePack tag f (removeFromStack tag s)) := by
  refine (claim_removeFromStack hA tag).trans (claim_changePack hA hloc fun p hp _ => Or.inl ?_)
  have hspot := spot_removeFromStack_self s tag
  rw [spot, hp] at hspot
  exact hspot

/-- A change of records that moves no pack and leaves every state (marks). -/
theorem claim_changeMarks (hA : A .packs) {f : Nat → Pack → Pack} (hloc : ∀ k p, (f k p).location = p.location)
    (hst : ∀ k p, (f k p).state = p.state) : Claim A s { s with packs := Table.change s.packs f } := by
  refine claim_packs hA (Table.rising_change f) (Or.inl (Table.length_change _ _).le) fun hr h => ?_
  refine stackLaw_of_spot hr (Table.rising_change f hr) (spot_change_of_location hloc) (fun e he hs => ?_) h
  obtain ⟨p, hp, heq⟩ := mem_change.mp he
  rw [heq, hst] at hs
  rw [heq, hloc]
  exact h.2.2.2 _ hp hs

end

end Sys2Proof.Proofs
end

section
/-!
PROOFS. The shared operations as chains of elementary changes: postings, the watches, orders, tasks, stations,
releases, wettings, reservations and takeovers.
-/

namespace Sys2Proof.Proofs

open Sys2Proof.Machine Sys2Proof.Safety

section
variable {A : Part → Prop} {s t u : State}

/-! ## What no law reads, and the attention unit -/

theorem claim_aside (h : SameRecords s t) : Claim A s t := (Change.aside h).toClaim

theorem claim_exchange (hP : A .port) (h : SameRecords { s with port := t.port, clearing := t.clearing } t) :
    Claim A s t := (Change.exchange h hP).toClaim

theorem claim_post (k : EventKind) (s : State) : Claim A s (post k s) :=
  (Change.attention s (s.summary ||| k.bit) s.enables).toClaim

theorem claim_postIf (c : Bool) (k : EventKind) (s : State) : Claim A s (postIf c k s) := by
  cases c
  · exact .refl
  · exact claim_post k s

theorem claim_markClearSeen (s : State) : Claim A s (markClearSeen s) := by
  unfold markClearSeen
  split_ifs
  · exact claim_aside (by constructor <;> rfl)
  · exact .refl

theorem claim_clearStarved (s : State) : Claim A s (clearStarved s) :=
  (Change.flags s).toClaim.trans (claim_markClearSeen _)

theorem claim_setEngine (e : Engine) (s : State) : Claim A s (setEngine e s) :=
  claim_aside (by constructor <;> rfl)

theorem claim_observeChange (tag : Nat) (before after : Option Pack) (s : State) :
    Claim A s (observeChange tag before after s) := by
  refine Claim.trans (claim_aside ?_) (claim_postIf _ _ _)
  constructor <;> simp

theorem claim_observe (named : Option Nat) (before : Table Pack) (s : State) :
    Claim A s (observe named before s) := by
  unfold observe
  generalize changeOrderOf named (changedTags before s.packs) = l
  generalize s.packs = after
  induction l generalizing s with
  | nil => exact .refl
  | cons t l ih => exact (claim_observeChange _ _ _ s).trans (ih _)

/-- A chain that ends with the watch comparisons and the judgement of CLOSING is a claim. -/
theorem claim_endClaim (hw : A .work) (named : Option Nat) (before : Table Pack) (h : Work A s t) :
    Claim A s (endClaim named before t) :=
  Claim.refl.judge (h.trans (claim_observe named before t).toWork) hw

/-! ## Orders -/

/-- A change of one line that neither raises its count nor lowers its quantity keeps an order's limits. -/
theorem orderOk_changeLine {o : Order} {n m : Nat} {g : OrderLine → OrderLine}
    (hitem : ∀ l, (g l).item = l.item) (hcount : ∀ l, (g l).allocated ≤ l.allocated) (hm : m ≤ o.payload)
    (h : orderOk o) : orderOk { o.changeLine n g with committed := m } := by
  obtain ⟨hl, -, hr, hd, hp⟩ := h
  refine ⟨fun l hmem => ?_, hm, hr, hd, fun pr hpr => ?_⟩
  · rcases mem_changeNth hmem with hin | ⟨l0, h0, rfl⟩
    · exact hl l hin
    · rw [hitem]
      exact (hcount l0).trans (hl l0 (mem_of_nth h0))
  · obtain ⟨hs, l, hnth, hlt⟩ := hp pr hpr
    refine ⟨hs, ?_⟩
    show ∃ l', nth (changeNth o.lines n g) pr.line = some l' ∧ _
    by_cases hn : pr.line = n
    · refine ⟨g l, by rw [hn, nth_changeNth_self, ← hn, hnth]; rfl, ?_⟩
      rw [hitem]
      exact (hcount l).trans_lt hlt
    · exact ⟨l, by rw [nth_changeNth_of_ne _ _ hn, hnth], hlt⟩

/-- The record of an order with one more pack reserved for a line (R66, R67). -/
def Raised (r : LineRef) (mass : Nat) (o : Order) : Order :=
  { o.changeLine r.line (fun l => { l with allocated := l.allocated + 1 }) with committed := o.committed + mass }

/-- A reservation for a line that wants one, of a mass the budget holds, in an order without a proposal. -/
theorem orderOk_raised {o : Order} {r : LineRef} {mass : Nat}
    (hwants : ∀ l, nth o.lines r.line = some l → l.allocated < l.item.quantity) (hm : mass ≤ o.budget)
    (hprop : o.supervised = true → o.proposal = none) (h : orderOk o) : orderOk (Raised r mass o) := by
  obtain ⟨hl, hc, hr, hd, hp⟩ := h
  have hpay : o.committed + mass ≤ o.payload := by
    unfold Order.budget at hm
    omega
  refine ⟨fun l hmem => ?_, hpay, hr, hd, fun pr hpr => ?_⟩
  · rcases mem_changeNth hmem with hin | ⟨l0, h0, rfl⟩
    · exact hl l hin
    · exact hwants l0 h0
  · have hpr' : o.proposal = some pr := hpr
    have hsup := (hp pr hpr').1
    rw [hprop hsup] at hpr'
    cases hpr'

theorem claim_changeOrder (hA : A .orders) {h : Nat} {f : Order → Order} (hlevel : ∀ o, (f o).level = o.level)
    (hok : ∀ o, Table.get s.orders h = some o → orderOk o → orderOk (f o)) : Claim A s (changeOrder h f s) := by
  refine (Change.orders s (fun k o => if k = h then f o else o) hA (fun k o => ?_) fun k o hk ho => ?_).toClaim
  · split_ifs
    · exact hlevel o
    · rfl
  · split_ifs with hkh
    · exact hok o (hkh ▸ hk) ho
    · exact ho

theorem claim_lowerCounts (hA : A .orders) (r : LineRef) (mass : Nat) : Claim A s (lowerCounts r mass s) :=
  claim_changeOrder hA (fun _ => rfl) fun _ _ ho =>
    orderOk_changeLine (fun _ => rfl) (fun _ => Nat.sub_le _ _) ((Nat.sub_le _ _).trans ho.2.1) ho

theorem claim_lowerCountsOf (hA : A .orders) (p : Pack) : Claim A s (lowerCountsOf p s) := by
  unfold lowerCountsOf
  split
  · exact .refl
  · exact claim_lowerCounts hA _ _

theorem claim_unstarveLine (hA : A .orders) (r : LineRef) : Claim A s (unstarveLine r s) :=
  claim_changeOrder hA (fun _ => rfl) fun _ _ ho =>
    orderOk_changeLine (g := fun l => { l with starved := false }) (fun _ => rfl) (fun _ => Nat.le_refl _) ho.2.1 ho

theorem claim_starveLine (hA : A .orders) (r : LineRef) : Claim A s (starveLine r s) :=
  claim_changeOrder hA (fun _ => rfl) fun _ _ ho =>
    orderOk_changeLine (g := fun l => { l with starved := true }) (fun _ => rfl) (fun _ => Nat.le_refl _) ho.2.1 ho

theorem orderOk_loadOne {o : Order} (n : Nat) (h : orderOk o) : orderOk (o.loadOne n) := by
  have h1 : orderOk (o.changeLine n fun l => { l with loaded := l.loaded + 1 }) :=
    orderOk_changeLine (fun _ => rfl) (fun _ => Nat.le_refl _) h.2.1 h
  simp only [Order.loadOne]
  split_ifs
  · exact h1
  · exact h1

theorem level_loadOne (o : Order) (n : Nat) : (o.loadOne n).level = o.level := by
  simp only [Order.loadOne]
  split_ifs <;> rfl

theorem claim_loadLine (hA : A .orders) (r : LineRef) : Claim A s (loadLine r s) :=
  (claim_changeOrder hA (fun o => level_loadOne o r.line) fun _ _ ho => orderOk_loadOne _ ho).trans
    (claim_postIf _ _ _)

/-- The limits of an order whose slot is emptied. -/
theorem orderOk_emptySlot {o : Order} (h : orderOk o) : orderOk { o with proposal := none } := by
  obtain ⟨hl, hm, hr, hd, -⟩ := h
  exact ⟨hl, hm, hr, hd, fun pr hpr => by cases hpr⟩

theorem claim_emptySlot (hA : A .orders) (h : Nat) : Claim A s (emptySlot h s) :=
  claim_changeOrder hA (fun _ => rfl) fun _ _ ho => orderOk_emptySlot ho

/-! ## Tasks and stations -/

theorem claim_changeTask (hA : A .work) (n : Nat) (f : Task → Task) : Claim A s (changeTask n f s) :=
  (Change.tasks s _ hA).toClaim

theorem claim_addTask (hA : A .work) (ha : Awake A s) (hroom : s.tasks.length < Config.taskCapacity) (t : Task) :
    Claim A s (addTask t s) := (Change.newTask s t hA ha hroom).toClaim

theorem work_retireTask (hA : A .work) (n : Nat) : Work A s (retireTask n s) :=
  (Change.endTask s _ hA).toWork.trans (claim_clearStarved _).toWork

/-- A change of one station, in a yard that works or one that takes no station out of OFF_SHIFT. -/
theorem claim_changeStation (hA : A .work) {n : Nat} {f : Station → Station}
    (h : Awake A s ∨ ∀ st, st.state = .offShift → (f st).state = .offShift) : Claim A s (changeStation n f s) := by
  refine (Change.stations s _ hA (length_changeNth _ _ _) (h.imp_right fun hf hall st hst => ?_)).toClaim
  rcases mem_changeNth hst with hin | ⟨st0, h0, rfl⟩
  · exact hall st hin
  · exact hf st0 (hall st0 (mem_of_nth h0))

theorem claim_dismiss (hA : A .work) (ha : Awake A s) (station : Option Nat) : Claim A s (dismiss station s) := by
  unfold dismiss
  split
  · exact .refl
  · exact claim_changeStation hA (Or.inl ha)

theorem mode_dismiss (station : Option Nat) (s : State) : (dismiss station s).mode = s.mode := by
  unfold dismiss
  split <;> rfl

theorem mode_clearStarved (s : State) : (clearStarved s).mode = s.mode := by rw [clearStarved_eq]

theorem work_withdraw (hA : A .work) (ha : Awake A s) (t : Task) : Work A s (withdraw t s) :=
  (claim_dismiss hA ha t.station).toWork.trans (work_retireTask hA _)

theorem mode_withdraw (t : Task) (s : State) : (withdraw t s).mode = s.mode := by
  rw [withdraw, retireTask, mode_clearStarved]
  exact mode_dismiss _ _

theorem work_withdrawShift (hA : A .work) (hB : A .packs) (ha : Awake A s) (t : Task) :
    Work A s (withdrawShift s t) :=
  (work_withdraw hA ha t).trans (claim_changePack hB (f := Pack.toStored) (fun _ => rfl) fun _ _ h => by rcases h with h | h <;> cases h).toWork

/-! ## Releases (R139) -/

/-- A state with the same yard mode is as awake. -/
theorem Awake.of_mode (ha : Awake A s) (h : t.mode = s.mode) : Awake A t := ha.imp_right fun hm => h ▸ hm

theorem work_releaseShifts (hA : A .work) (hB : A .packs) (ha : Awake A s) (tag : Nat) :
    Work A s (releaseShifts tag s) := by
  unfold releaseShifts
  generalize shiftsToWithdraw s tag = l
  induction l generalizing s with
  | nil => exact .refl
  | cons t l ih =>
    obtain ⟨p, k, n, o, e, h⟩ := withdrawShift_frame s t
    exact (work_withdrawShift hA hB ha t).trans (ih (ha.of_mode (by rw [h])))

theorem mode_releaseShifts (tag : Nat) (s : State) : (releaseShifts tag s).mode = s.mode := by
  obtain ⟨p, k, n, o, e, h⟩ := releaseShifts_frame tag s
  rw [h]

theorem mode_lowerCountsOf (p : Pack) (s : State) : (lowerCountsOf p s).mode = s.mode := by
  unfold lowerCountsOf
  split <;> rfl

theorem work_releaseAtRest (hA : A .work) (hB : A .packs) (hC : A .orders) (ha : Awake A s) (tag : Nat)
    {after : Pack → Pack} (hloc : ∀ p, (after p).location = p.location)
    (hst : ∀ p, (after p).state ≠ .lifted ∧ (after p).state ≠ .loaded) : Work A s (releaseAtRest tag after s) := by
  unfold releaseAtRest
  split
  · exact .refl
  · refine Work.trans (Work.trans ?_ (claim_lowerCountsOf hC _).toWork)
      (claim_changePack hB hloc fun p _ h => by simp [hst p] at h).toWork
    refine (work_releaseShifts hA hB ha tag).trans ?_
    split
    · exact .refl
    · exact work_withdraw hA (ha.of_mode (mode_releaseShifts tag s)) _

theorem mode_releaseAtRest (tag : Nat) (after : Pack → Pack) (s : State) :
    (releaseAtRest tag after s).mode = s.mode := by
  unfold releaseAtRest
  split
  · rfl
  · simp only [mode_changePack, mode_lowerCountsOf]
    split
    · exact mode_releaseShifts tag s
    · rw [mode_withdraw, mode_releaseShifts]

theorem work_releaseLifted (hA : A .work) (hB : A .packs) (hC : A .orders) (ha : Awake A s) (tag : Nat) :
    Work A s (releaseLifted tag s) := by
  unfold releaseLifted
  split
  · exact .refl
  · refine Work.trans (Work.trans ?_ (claim_lowerCountsOf hC _).toWork)
      (claim_changePack hB (f := fun q => { q with reservation := none }) (fun _ => rfl)
        fun p _ h => Or.inr h).toWork
    refine (work_releaseShifts hA hB ha tag).trans ?_
    split
    · exact .refl
    · dsimp only
      split
      · exact (claim_changeTask hA _ _).toWork
      · exact ((claim_changeTask hA _ _).trans (claim_changeStation hA (Or.inr (by exact fun _ h => h)))).toWork

theorem mode_releaseLifted (tag : Nat) (s : State) : (releaseLifted tag s).mode = s.mode := by
  unfold releaseLifted
  split
  · rfl
  · simp only [mode_changePack, mode_lowerCountsOf]
    split
    · exact mode_releaseShifts tag s
    · split
      · exact mode_releaseShifts tag s
      · exact mode_releaseShifts tag s

/-! ## Wettings (R152 to R154) -/

/-- The yard works, or there is no task to withdraw. -/
def AwakeOrIdle (A : Part → Prop) (s : State) : Prop := Awake A s ∨ s.tasks = []

theorem fetchOf_of_no_tasks (h : s.tasks = []) (tag : Nat) : fetchOf s tag = none := by rw [fetchOf, h]; rfl

theorem fetchUntaken_of_no_tasks (h : s.tasks = []) (tag : Nat) : fetchUntaken s tag = false := by
  rw [fetchUntaken, fetchOf_of_no_tasks h]

/-- The judgement of a wetted pack releases its reservation or leaves the state (R154). -/
theorem judgeWetted_cases (s : State) (tag : Nat) :
    judgeWetted s tag = s ∨
      fetchUntaken s tag = true ∧ judgeWetted s tag = releaseAtRest tag Pack.toStored s := by
  unfold judgeWetted
  split
  · exact Or.inl rfl
  · split
    · split_ifs with h
      · exact Or.inr ⟨h.2, rfl⟩
      · exact Or.inl rfl
    · exact Or.inl rfl

theorem work_judgeWetted (hA : A .work) (hB : A .packs) (hC : A .orders) (ha : AwakeOrIdle A s) (tag : Nat) :
    Work A s (judgeWetted s tag) ∧ AwakeOrIdle A (judgeWetted s tag) := by
  rcases judgeWetted_cases s tag with e | ⟨hf, e⟩
  · rw [e]
    exact ⟨.refl, ha⟩
  · rcases ha with ha | hi
    · rw [e]
      exact ⟨work_releaseAtRest hA hB hC ha tag (fun _ => rfl) (fun _ => ⟨nofun, nofun⟩),
        Or.inl (ha.of_mode (mode_releaseAtRest _ _ _))⟩
    · rw [fetchUntaken_of_no_tasks hi] at hf
      cases hf

theorem work_judgeWettedAll (hA : A .work) (hB : A .packs) (hC : A .orders) (l : List Nat) (ha : AwakeOrIdle A s) :
    Work A s (l.foldl judgeWetted s) ∧ AwakeOrIdle A (l.foldl judgeWetted s) := by
  induction l generalizing s with
  | nil => exact ⟨.refl, ha⟩
  | cons t l ih =>
    obtain ⟨h1, h2⟩ := work_judgeWetted hA hB hC ha t
    obtain ⟨h3, h4⟩ := ih h2
    exact ⟨h1.trans h3, h4⟩

theorem awakeOrIdle_judgeClosing (ha : AwakeOrIdle A s) : AwakeOrIdle A (judgeClosing s) := by
  unfold judgeClosing
  split_ifs with h1 h2
  · exact Or.inl (Or.inr nofun)
  · exact Or.inr h1.2.2
  · exact ha

theorem awakeOrIdle_observe (named : Option Nat) (before : Table Pack) (ha : AwakeOrIdle A s) :
    AwakeOrIdle A (observe named before s) := by
  obtain ⟨w, m, a, e⟩ := observe_frame named before s
  rw [e]
  exact ha

theorem claim_wetStack (hA : A .work) (hB : A .packs) (hC : A .orders) (ha : AwakeOrIdle A s) (b k : Nat) :
    Claim A s (wetStack s b k) ∧ AwakeOrIdle A (wetStack s b k) := by
  have hmark : Claim A s
      { s with packs := Table.change s.packs fun _ p => if p.inStack b k then { p with wetted := true } else p } :=
    claim_changeMarks hB (fun _ p => by split_ifs <;> rfl) (fun _ p => by split_ifs <;> rfl)
  obtain ⟨h1, h2⟩ := work_judgeWettedAll hA hB hC (stackList s b k).keys
    (s := { s with packs := Table.change s.packs fun _ p => if p.inStack b k then { p with wetted := true } else p })
    ha
  exact ⟨hmark.trans (claim_endClaim hA none s.packs h1),
    awakeOrIdle_judgeClosing (awakeOrIdle_observe none s.packs h2)⟩

theorem claim_wetBay (hA : A .work) (hB : A .packs) (hC : A .orders) (ha : AwakeOrIdle A s) (b : Nat) :
    Claim A s (wetBay b s) := by
  unfold wetBay
  generalize List.range (s.bay b).stackCount = l
  induction l generalizing s with
  | nil => exact .refl
  | cons k l ih =>
    obtain ⟨h1, h2⟩ := claim_wetStack hA hB hC ha b k
    exact h1.trans (ih h2)

/-! ## Reservations and takeovers (R102 to R104) -/

theorem claim_createShift (hA : A .work) (hB : A .packs) (ha : Awake A s)
    (hroom : s.tasks.length < Config.taskCapacity) (winner tag : Nat) : Claim A s (createShift winner s tag) :=
  (claim_addTask hA ha hroom _).trans (claim_changePack hB (fun _ => rfl) fun _ _ h => by simp at h)

theorem claim_createShifts (hA : A .work) (hB : A .packs) (winner : Nat) (tags : List Nat) (ha : Awake A s)
    (hroom : s.tasks.length + tags.length ≤ Config.taskCapacity) :
    Claim A s (tags.foldl (createShift winner) s) ∧
      (tags.foldl (createShift winner) s).tasks.length = s.tasks.length + tags.length ∧
      (tags.foldl (createShift winner) s).mode = s.mode ∧
      (tags.foldl (createShift winner) s).orders = s.orders := by
  induction tags generalizing s with
  | nil => exact ⟨.refl, rfl, rfl, rfl⟩
  | cons x xs ih =>
    rw [List.length_cons] at hroom
    have hlen : (createShift winner s x).tasks.length = s.tasks.length + 1 := by simp [createShift]
    obtain ⟨h1, h2, h3, h4⟩ := ih (s := createShift winner s x) (ha.of_mode rfl) (by omega)
    rw [List.foldl_cons, List.length_cons]
    exact ⟨(claim_createShift hA hB ha (by omega) winner x).trans h1, by omega, h3, h4⟩

theorem claim_raiseCounts (hA : A .orders) {r : LineRef} {mass : Nat}
    (hok : ∀ o, Table.get s.orders r.handle = some o → orderOk o → orderOk (Raised r mass o)) :
    Claim A s (raiseCounts r mass s) := claim_changeOrder hA (fun _ => rfl) hok

theorem claim_reserve (hA : A .work) (hB : A .packs) (hC : A .orders) (ha : Awake A s) {r : LineRef} {tag : Nat}
    {p : Pack} (hroom : s.tasks.length + dig s tag < Config.taskCapacity)
    (hok : ∀ o, Table.get s.orders r.handle = some o → orderOk o → orderOk (Raised r p.mass o)) :
    Claim A s (reserve r tag p s) := by
  have hlength : ((Table.keys (packsAbove s tag)).reverse).length = dig s tag := by simp [dig, Table.keys]
  obtain ⟨h1, h2, h3, h4⟩ := claim_createShifts (A := A) (s := s) hA hB tag (Table.keys (packsAbove s tag)).reverse ha
    (by omega)
  have h5 : Claim A ((Table.keys (packsAbove s tag)).reverse.foldl (createShift tag) s)
      (createFetch r tag ((Table.keys (packsAbove s tag)).reverse.foldl (createShift tag) s)) :=
    (claim_addTask hA (ha.of_mode h3) (by omega) _).trans
      (claim_changePack hB (fun _ => rfl) fun _ _ h => by simp at h)
  refine (h1.trans h5).trans (claim_raiseCounts hC fun o ho => ?_)
  have horders : (createFetch r tag ((Table.keys (packsAbove s tag)).reverse.foldl (createShift tag) s)).orders =
      s.orders := h4
  exact hok o (horders ▸ ho)

/-- The victim's side of a takeover leaves every other order. -/
theorem get_orders_robVictim {p : Pack} {h : Nat} (hne : ∀ v, p.reservation = some v → v.handle ≠ h) :
    Table.get (robVictim p s).orders h = Table.get s.orders h := by
  unfold robVictim
  split
  · rfl
  · rename_i v hv
    have hvh : h ≠ v.handle := (hne v hv).symm
    have hmark : ∀ u : State, (markClearSeen u).orders = u.orders := fun u => by
      unfold markClearSeen
      split_ifs <;> rfl
    rw [hmark, unstarveLine, lowerCounts, changeOrder, changeOrder, Table.get_update_other _ _ hvh,
      Table.get_update_other _ _ hvh]

theorem claim_robVictim (hA : A .orders) (p : Pack) : Claim A s (robVictim p s) := by
  unfold robVictim
  split
  · exact .refl
  · exact ((claim_lowerCounts hA _ _).trans (claim_unstarveLine hA _)).trans (claim_markClearSeen _)

theorem mode_robVictim (p : Pack) (s : State) : (robVictim p s).mode = s.mode := by
  unfold robVictim markClearSeen
  split
  · rfl
  · split_ifs <;> rfl

theorem claim_judgeOffer (hA : A .work) (ha : Awake A s) (r : LineRef) (t : Task) :
    Claim A s (judgeOffer r t s) := by
  unfold judgeOffer
  split_ifs
  · exact (claim_changeTask hA _ _).trans (claim_dismiss hA (by exact Awake.of_mode (s := s) ha rfl) _)
  · exact .refl

theorem claim_takeOver (hA : A .work) (hB : A .packs) (hC : A .orders) (ha : Awake A s) {r : LineRef} {tag : Nat}
    {p : Pack} (hvictim : ∀ v, p.reservation = some v → v.handle ≠ r.handle)
    (hok : ∀ o, Table.get s.orders r.handle = some o → orderOk o → orderOk (Raised r p.mass o)) :
    Claim A s (takeOver r tag p s) := by
  have h1 : Claim A s (changePack tag (fun q => { q with reservation := some r }) s) :=
    claim_changePack hB (fun _ => rfl) fun _ _ h => Or.inr h
  have h2 := claim_robVictim hC p (s := changePack tag (fun q => { q with reservation := some r }) s)
  have h3 : Claim A (robVictim p (changePack tag (fun q => { q with reservation := some r }) s))
      (raiseCounts r p.mass (robVictim p (changePack tag (fun q => { q with reservation := some r }) s))) :=
    claim_raiseCounts hC fun o ho => hok o ((get_orders_robVictim (s := changePack tag (fun q => { q with reservation := some r }) s) hvictim).symm.trans ho)
  unfold takeOver
  refine ((h1.trans h2).trans h3).trans (Claim.trans ?_ (claim_post _ _))
  split
  · exact .refl
  · refine (claim_changeTask hA _ _).trans (claim_judgeOffer hA (Awake.of_mode (s := s) ha ?_) _ _)
    exact mode_robVictim p (changePack tag (fun q => { q with reservation := some r }) s)

end

end Sys2Proof.Proofs
end

section
/-!
PROOFS. The requests of families 0 to 3, the lines and the resets as chains of elementary changes.
-/

namespace Sys2Proof.Proofs

open Sys2Proof.Machine Sys2Proof.Safety

section
variable {A : Part → Prop} {s t u : State}

/-! ## The port -/

theorem claim_respond (hP : A .port) (c : Instr) {a : Answer} (h : Claim A s a.state) : Claim A s (respond c a) := by
  refine h.trans (claim_exchange hP ?_)
  unfold respond respondAs
  split_ifs <;> constructor <;> rfl

theorem claim_respondAs (hP : A .port) (code station : Nat) (restart : Bool) (status : Status) (reply : List Byte)
    (s : State) : Claim A s (respondAs code station restart status reply s) := by
  unfold respondAs
  split_ifs
  · exact claim_exchange hP (by constructor <;> rfl)
  · exact claim_exchange hP (by constructor <;> rfl)

theorem claim_beginRequest (hP : A .port) (c : Instr) (s : State) : Claim A s (beginRequest c s) :=
  claim_exchange hP (by constructor <;> rfl)

/-- A request row: the port takes it or not, and what the port does to the state no record shows. The block meets a
state that keeps law 10 if the row's did. -/
theorem claim_intake (hP : A .port) {c : Instr} {k : State → State}
    (h : ∀ u, (closedLaw s → closedLaw u) → Claim A u (k u)) : Claim A s (intake c k s) := by
  unfold intake
  split_ifs
  · exact .refl
  · split
    · exact claim_aside (by constructor <;> rfl)
    · exact (claim_beginRequest hP c s).trans (h _ id)
    · exact ((claim_post .portOverrun s).trans (claim_beginRequest hP c _)).trans (h _ id)
    · split_ifs
      · exact h s id
      · exact claim_post _ _

theorem claim_takeRequest (hP : A .port) {c : Instr} {block : State → Answer}
    (h : Claim A s (block s).state) : Claim A s (takeRequest c block s) := by
  unfold takeRequest
  split_ifs
  · exact claim_respond hP c h
  · exact claim_respond hP c .refl

/-- The outcome is a next state, reached by a claim. -/
def Claims (A : Part → Prop) (s : State) (out : Out) : Prop := ∃ t, out = .next t ∧ Claim A s t

theorem claims_next (h : Claim A s t) : Claims A s (.next t) := ⟨t, rfl, h⟩

theorem claims_serve (hP : A .port) {c : Instr} {block : State → Answer}
    (h : ∀ u, (closedLaw s → closedLaw u) → Claim A u (block u).state) : Claims A s (serve c block s) :=
  claims_next (claim_intake hP fun u hu => claim_takeRequest hP (h u hu))

/-! ## When the yard is awake -/

theorem awake_of_tasks (hs : closedLaw s ∨ A .rest) (h : s.tasks ≠ []) : Awake A s := by
  rcases hs with hs | hr
  · exact Or.inr fun hm => h (hs hm).2.1
  · exact Or.inl hr

theorem awake_of_orders (hs : closedLaw s ∨ A .rest) (h : s.orders ≠ []) : Awake A s := by
  rcases hs with hs | hr
  · exact Or.inr fun hm => h (hs hm).1
  · exact Or.inl hr

theorem awake_of_station (hs : closedLaw s ∨ A .rest) {st : Station} (hin : st ∈ s.stations)
    (h : st.state ≠ .offShift) : Awake A s := by
  rcases hs with hs | hr
  · exact Or.inr fun hm => h ((hs hm).2.2 st hin)
  · exact Or.inl hr

theorem awakeOrIdle (hs : closedLaw s ∨ A .rest) : AwakeOrIdle A s := by
  by_cases h : s.tasks = []
  · exact Or.inr h
  · exact Or.inl (awake_of_tasks hs h)

theorem ne_nil_of_get {α : Type} {t : Table α} {k : Nat} {v : α} (h : Table.get t k = some v) : t ≠ [] := by
  rintro rfl
  cases h

/-! ## Family 0 -/

theorem claim_fetchEventsBlock : Claim A s (fetchEventsBlock s).state :=
  (Change.attention s 0#19 s.enables).toClaim

theorem claim_setEventEnablesBlock (set : Option (BitVec 24)) : Claim A s (setEventEnablesBlock set s).state := by
  unfold setEventEnablesBlock
  split
  · exact .refl
  · split_ifs
    · exact .refl
    · exact (Change.attention s s.summary _).toClaim

theorem claim_restartBlock : Claim A s (restartBlock s).state := by
  unfold restartBlock
  split_ifs <;> exact .refl

/-! ## The yard map and the settings -/

theorem bay_writeBay (b x : Nat) (e : Bay) (s : State) :
    (writeBay b e s).bay x = s.bay x ∨ (x = b ∧ (writeBay b e s).bay x = e) := by
  show (s.yardMap.bays.set b e).getD x (Bay.default x) = s.yardMap.bays.getD x (Bay.default x) ∨
    (x = b ∧ (s.yardMap.bays.set b e).getD x (Bay.default x) = e)
  by_cases hx : x = b
  · subst hx
    by_cases hl : x < s.yardMap.bays.length
    · right
      simp [List.getD, hl]
    · left
      rw [List.set_eq_of_length_le (Nat.not_lt.mp hl)]
  · left
    simp [List.getD, Ne.symm hx]

/-- A bay that holds no pack has no stack. -/
theorem height_of_bay_empty {b : Nat} (h : bayHoldsPack s b = false) (k : Nat) : height s b k = 0 := by
  rw [height, List.length_eq_zero_iff, List.eq_nil_iff_forall_not_mem]
  intro e he
  obtain ⟨hin, i, hi⟩ := mem_stackList.mp he
  have hno := List.any_eq_false.mp h e hin
  rw [Pack.inBay, hi] at hno
  simp at hno

theorem claim_writeBay (hA : A .settings) {b : Nat} {e : Bay} (hlimit : e.tierLimit ≤ 6)
    (hgeom : e.tierLimit = (s.bay b).tierLimit ∨ bayHoldsPack s b = false) : Claim A s (writeBay b e s) := by
  refine (Change.settings s { s.yardMap with bays := s.yardMap.bays.set b e } s.products s.settings s.lineSettings hA
    (fun h => ?_) fun h => ?_).toClaim
  · obtain ⟨h1, h2⟩ := h
    exact ⟨(List.length_set ..).trans h1, h2⟩
  · obtain ⟨h1, h2, h3, h4⟩ := h
    refine ⟨h1, fun x => ?_, fun x k => ?_, h4⟩
    · rcases bay_writeBay b x e s with hb | ⟨-, hb⟩
      · exact (congrArg Bay.tierLimit hb).trans_le (h2 x)
      · exact (congrArg Bay.tierLimit hb).trans_le hlimit
    · refine Nat.le_trans ?_ (Nat.le_of_eq (rfl : ((writeBay b e s).bay x).tierLimit = _))
      rcases bay_writeBay b x e s with hb | ⟨rfl, hb⟩
      · rw [hb]
        exact h3 x k
      · rw [hb]
        rcases hgeom with hg | hg
        · rw [hg]
          exact h3 x k
        · exact (height_of_bay_empty hg k).trans_le (Nat.zero_le _)

theorem tierLimit_of_sameGeometry {e : Bay} {row col stackCount tierLimit : Nat}
    (h : e.sameGeometry row col stackCount tierLimit = true) : tierLimit = e.tierLimit := by
  simp only [Bay.sameGeometry, decide_eq_true_eq] at h
  exact h.2.2.2.symm

theorem claim_applyBay (hS : A .settings) (hA : A .work) (hB : A .packs) (hC : A .orders)
    (hs : closedLaw s ∨ A .rest) {b : Nat} {e : Bay} (hlimit : e.tierLimit ≤ 6)
    (hgeom : e.tierLimit = (s.bay b).tierLimit ∨ bayHoldsPack s b = false) : Claim A s (applyBay b e s) := by
  have h1 : Claim A s (clearStarved (writeBay b e s)) :=
    (claim_writeBay hS hlimit hgeom).trans (claim_clearStarved _)
  simp only [applyBay]
  split_ifs
  · refine h1.trans (claim_wetBay hA hB hC ?_ b)
    have ha : AwakeOrIdle A s := awakeOrIdle hs
    rw [clearStarved_eq]
    exact ha
  · exact h1

theorem claim_setBayBlock (hS : A .settings) (hA : A .work) (hB : A .packs) (hC : A .orders)
    (hs : closedLaw s ∨ A .rest) (bay : Nat) (enabled covered : Bool) (row col stackCount tierLimit : Nat) :
    Claim A s (setBayBlock bay enabled covered row col stackCount tierLimit s).state := by
  unfold setBayBlock
  split_ifs with h1 h2 h3 h4 h5 <;> try exact .refl
  refine claim_applyBay hS hA hB hC hs h1.2.2.2.2.2 ?_
  cases hg : (s.bay bay).sameGeometry row col stackCount tierLimit with
  | true => exact Or.inl (tierLimit_of_sameGeometry hg)
  | false => exact Or.inr (Bool.eq_false_iff.mpr fun hp => h4 ⟨hg, hp⟩)

theorem claim_readBayBlock (bay : Nat) : Claim A s (readBayBlock bay s).state := by
  unfold readBayBlock
  split_ifs <;> exact .refl

/-- A write of the yard settings and the line settings touches no table's size and no stack. -/
theorem claim_writeSettings (hA : A .settings) (st : YardSettings) (ls : List LineSetting)
    (hl : ls.length = s.lineSettings.length) : Claim A s { s with settings := st, lineSettings := ls } := by
  refine (Change.settings s s.yardMap s.products st ls hA (fun h => ?_) id).toClaim
  obtain ⟨h1, h2, h3, h4, h5⟩ := h
  exact ⟨h1, h2, h3, hl.trans h4, h5⟩

theorem claim_setLoadingPointBlock (hA : A .settings) (write : Option PointWrite) :
    Claim A s (setLoadingPointBlock write s).state := by
  unfold setLoadingPointBlock
  split
  · exact .refl
  · split_ifs <;> try exact .refl
    rename_i w _ _ _
    refine (Change.settings s (writePoint w s).yardMap s.products s.settings s.lineSettings hA (fun h => ?_) id).toClaim
    obtain ⟨h1, h2, h3⟩ := h
    exact ⟨h1, (length_changeNth _ _ _).trans h2, h3⟩

theorem claim_setTimersBlock (hA : A .settings) (write : Option TimerSettings) :
    Claim A s (setTimersBlock write s).state := by
  unfold setTimersBlock
  split
  · exact .refl
  · split_ifs <;> try exact .refl
    exact claim_writeSettings hA _ _ rfl

theorem claim_setWeightsBlock (hA : A .settings) (write : Option Weights) :
    Claim A s (setWeightsBlock write s).state := by
  unfold setWeightsBlock
  split
  · exact .refl
  · split_ifs <;> try exact .refl
    exact claim_writeSettings hA _ _ rfl

theorem claim_setDayBlock (hA : A .settings) (day : Option Nat) : Claim A s (setDayBlock day s).state := by
  unfold setDayBlock
  split
  · exact .refl
  · split_ifs <;> try exact .refl
    exact (claim_writeSettings hA _ _ rfl).trans (claim_clearStarved _)

/-! ## Lines -/

theorem claim_setLive (k : Nat) (a : Bool) (p : Option Nat) (s : State) : Claim A s (setLive k a p s) :=
  claim_aside (by constructor <;> simp)

theorem claim_opened (s : State) : Claim A s { s with mode := .opened } := (Change.opened s).toClaim

theorem claim_gateEdge (rising : Bool) (s : State) : Claim A s (gateEdge rising s) := by
  unfold gateEdge
  split_ifs
  · exact (claim_opened s).trans (claim_post _ _)
  · exact claim_post _ _
  · exact .refl

theorem claim_beginSweep (s : State) : Claim A s (beginSweep s) := by
  unfold beginSweep
  split <;> exact claim_aside (by constructor <;> rfl)

theorem claim_rainEdge (rising : Bool) (s : State) : Claim A s (rainEdge rising s) := by
  have h1 : Claim A s (post .rainChange { s with raining := rising }) :=
    Claim.trans (claim_aside (by constructor <;> rfl)) (claim_post _ _)
  simp only [rainEdge]
  split_ifs
  · exact h1.trans (claim_beginSweep _)
  · exact h1

theorem claim_presenceEdge (p : Nat) (rising : Bool) (s : State) : Claim A s (presenceEdge p rising s) := by
  unfold presenceEdge
  split_ifs
  · exact .refl
  · split
    · exact .refl
    · exact claim_postIf _ _ _

theorem claim_takeEdge (k : Nat) (rising : Bool) (s : State) : Claim A s (takeEdge k rising s) := by
  refine (claim_setLive k rising none s).trans ?_
  unfold takeEdge edgeEffect
  split_ifs
  · exact claim_gateEdge _ _
  · exact claim_rainEdge _ _
  · exact .refl
  · exact claim_presenceEdge _ _ _

theorem claim_judgeLine (s : State) (k : Nat) : Claim A s (judgeLine s k) := by
  simp only [judgeLine]
  split_ifs with h
  · exact claim_setLive _ _ _ _
  · split
    · exact .refl
    · exact claim_takeEdge _ _ _
  · split
    · exact .refl
    · exact claim_setLive _ _ _ _

theorem claim_judgeLines (s : State) : Claim A s (judgeLines s) := by
  unfold judgeLines
  generalize List.range 7 = l
  induction l generalizing s with
  | nil => exact .refl
  | cons k l ih => exact (claim_judgeLine s k).trans (ih _)

theorem claim_setLineBlock (hA : A .settings) (write : Option LineWrite) : Claim A s (setLineBlock write s).state := by
  unfold setLineBlock
  split
  · exact .refl
  · rename_i w
    split_ifs <;> try exact .refl
    have h1 : Claim A s (writeLine w s) := claim_writeSettings hA _ _ (List.length_set ..)
    show Claim A s (applyLine w s)
    simp only [applyLine]
    split_ifs
    · exact h1.trans (claim_takeEdge _ _ _)
    · exact (h1.trans (claim_setLive _ _ _ _)).trans (claim_judgeLine _ _)

/-! ## The yard mode and CLEAR_YARD -/

theorem claim_closeYardBlock (hA : A .work) : Claim A s (closeYardBlock s).state := by
  show Claim A s (if s.mode = .opened then judgeClosing { s with mode := .closing } else s)
  split_ifs
  · exact Claim.refl.judge (Change.closing s).toWork hA
  · exact .refl

theorem claim_takeClearYard (hP : A .port) : Claim A s (takeClearYard s) := by
  unfold takeClearYard
  split_ifs
  · exact claim_respond hP _ .refl
  · exact claim_respond hP _ .refl
  · exact claim_exchange hP (by constructor <;> rfl)

theorem claim_noPacks (hA : A .packs) : Claim A s { s with packs := [] } :=
  claim_packs hA (fun _ => List.Pairwise.nil) (Or.inr (Nat.zero_le _)) fun _ h => stackLaw_noPacks h.2.1 rfl

theorem claim_emptyYard (hA : A .packs) (hP : A .port) : Claim A s (emptyYard s) := by
  refine Claim.trans ((claim_noPacks hA).trans (claim_exchange hP ?_)) (claim_observe _ _ _)
  constructor <;> rfl

/-! ## Family 2 -/

/-- A write of the Product Table that keeps its size and its lists' limit. -/
theorem claim_writeProducts (hA : A .settings) {ps : List Product}
    (h : sizeLaw s → ps.length = 256 ∧ ∀ p ∈ ps, p.substitutes.length ≤ Config.substitutesPerProduct) :
    Claim A s { s with products := ps } := by
  refine (Change.settings s s.yardMap ps s.settings s.lineSettings hA (fun hs => ?_) id).toClaim
  obtain ⟨h3, h8⟩ := h hs
  obtain ⟨h1, h2, -, h4, h5, h6, h7, -⟩ := hs
  exact ⟨h1, h2, h3, h4, h5, h6, h7, h8⟩

/-- Every entry of the Product Table, and the default one, keeps the limit of its list (R19). -/
theorem substitutes_le (h : sizeLaw s) (code : Nat) :
    (s.product code).substitutes.length ≤ Config.substitutesPerProduct := by
  unfold State.product
  rw [List.getD]
  cases hc : s.products[code]? with
  | none => exact Nat.zero_le _
  | some p => exact h.2.2.2.2.2.2.2 p (List.mem_of_getElem? hc)

theorem claim_writeProduct (hA : A .settings) (code : Nat) {p : Product}
    (h : sizeLaw s → p.substitutes.length ≤ Config.substitutesPerProduct) : Claim A s (writeProduct code p s) := by
  refine claim_writeProducts hA fun hs => ⟨(List.length_set ..).trans hs.2.2.1, fun q hq => ?_⟩
  rcases List.mem_or_eq_of_mem_set hq with hin | rfl
  · exact hs.2.2.2.2.2.2.2 q hin
  · exact h hs

theorem claim_prune (hA : A .settings) (code : Nat) : Claim A s (prune code s) := by
  refine claim_writeProducts hA fun hs => ⟨by simpa [prunedProducts] using hs.2.2.1, fun q hq => ?_⟩
  obtain ⟨e, he, rfl⟩ := List.mem_map.mp hq
  have hin : e.1 ∈ s.products := by
    obtain ⟨p, i⟩ := e
    exact (List.mem_zipIdx' he).2 ▸ List.getElem_mem _
  exact (List.length_filter_le _ _).trans (hs.2.2.2.2.2.2.2 _ hin)

theorem claim_setProductBlock (hA : A .settings) (code : Nat) (defined : Bool) (fields : ProductFields) :
    Claim A s (setProductBlock code defined fields s).state := by
  unfold setProductBlock
  split_ifs <;> try exact .refl
  refine ((claim_writeProduct hA code fun hs => ?_).trans (claim_prune hA code)).trans (claim_clearStarved _)
  unfold productEntry
  split_ifs
  · exact substitutes_le hs code
  · exact Nat.zero_le _
  · exact Nat.zero_le _
  · exact substitutes_le hs code

theorem claim_readProductBlock (code : Nat) : Claim A s (readProductBlock code s).state := by
  unfold readProductBlock
  split_ifs <;> exact .refl

theorem claim_setSubstitutesBlock (hA : A .settings) (code : Nat) (codes : List Nat) :
    Claim A s (setSubstitutesBlock code codes s).state := by
  unfold setSubstitutesBlock
  split_ifs with h1 h2 h3 h4 <;> try exact .refl
  refine Claim.trans (claim_writeProduct hA code fun _ => ?_) (claim_clearStarved _)
  simp only [not_or, not_not] at h1
  exact Nat.not_lt.mp h1.2.1

/-! ## Family 3 -/

theorem claim_withPack {tag : Nat} {k : Pack → Answer}
    (h : ∀ p, Table.get s.packs tag = some p → Claim A s (k p).state) : Claim A s (withPack tag s k).state := by
  unfold withPack
  split_ifs
  · exact .refl
  · split
    · exact .refl
    · exact h _ ‹_›
  · exact .refl

/-- A put-down that the checks of R6 take finds room. -/
theorem room_of_putDownCheck {b k : Nat} {disabled : Status} (h : putDownCheck s b k disabled = none) :
    height s b k ≠ (s.bay b).tierLimit := by
  unfold putDownCheck at h
  split_ifs at h with h1 h2 h3 h4
  exact h3

theorem claim_receivePackBlock (hA : A .packs) (tag product length count mass : Nat) (drying : Drying)
    (bay stack : Nat) (ready : Option Nat) :
    Claim A s (receivePackBlock tag product length count mass drying bay stack ready s).state := by
  unfold receivePackBlock
  split_ifs with h1 h2 h3 h4 <;> try exact .refl
  · exact claim_post _ _
  · split
    · exact .refl
    · rename_i hput
      have hfree : Table.get s.packs tag = none := by simpa [Table.has] using h3
      refine Claim.trans (Claim.trans (claim_packs hA (Table.rising_put tag _) (Or.inr ?_)
        (stackLaw_born hfree rfl rfl (room_of_putDownCheck hput))) (claim_clearStarved _)) (claim_observe _ _ _)
      exact (Table.length_put_le _ _ _).trans (Nat.not_le.mp h4)

theorem claim_readPackBlock (tag : Nat) : Claim A s (readPackBlock tag s).state := by
  unfold readPackBlock
  split_ifs
  · split <;> exact .refl
  · exact .refl

theorem claim_readStackBlock (bay stack : Nat) : Claim A s (readStackBlock bay stack s).state := by
  unfold readStackBlock
  split_ifs <;> exact .refl

theorem claim_answerOldest (code : Nat) (part : Table Pack) : Claim A s (answerOldest s code part).state := by
  unfold answerOldest
  split <;> exact .refl

theorem claim_findOldestBlock (code : Nat) (after : Option Nat) : Claim A s (findOldestBlock code after s).state := by
  unfold findOldestBlock
  split_ifs
  · split
    · exact claim_answerOldest _ _
    · split
      · exact .refl
      · exact claim_answerOldest _ _
  · exact .refl

theorem claim_recordMoveBlock (hA : A .packs) (tag bay stack : Nat) :
    Claim A s (recordMoveBlock tag bay stack s).state := by
  refine claim_withPack fun p hp => ?_
  split_ifs with h1 h2 h3 <;> try exact .refl
  split
  · exact .refl
  · rename_i hput
    show Claim A s (applyMove tag bay stack p s)
    unfold applyMove
    split_ifs
    · exact .refl
    · refine Claim.trans (claim_putDown hA (room_of_putDownCheck hput) fun p' q hp' hq => ?_) (claim_observe _ _ _)
      rw [hp] at hp'
      cases hp'
      rw [id, hq]
      exact ⟨fun he => h1 (Or.inr (Or.inr he)), fun he => h2 (Or.inl he)⟩

theorem tasks_ne_nil_of_fetchUntaken {tag : Nat} (h : fetchUntaken s tag = true) : s.tasks ≠ [] := fun hn => by
  rw [fetchUntaken_of_no_tasks hn] at h
  cases h

theorem claim_holdPackBlock (hA : A .work) (hB : A .packs) (hC : A .orders) (hs : closedLaw s ∨ A .rest) (tag : Nat) :
    Claim A s (holdPackBlock tag s).state := by
  refine claim_withPack fun p hp => ?_
  split_ifs with h1 h2
  · exact Claim.trans (claim_changePack hB (f := Pack.toHeld .damaged) (fun _ => rfl)
      fun _ _ h => by rcases h with h | h <;> cases h) (claim_observe _ _ _)
  · exact claim_endClaim hA _ _ (work_releaseAtRest hA hB hC (awake_of_tasks hs (tasks_ne_nil_of_fetchUntaken h2.2))
      tag (after := Pack.toHeld .damaged) (fun _ => rfl) (fun _ => ⟨nofun, nofun⟩))
  · exact .refl

theorem claim_releasePackBlock (hB : A .packs) (tag : Nat) (place : Option (Nat × Nat)) :
    Claim A s (releasePackBlock tag place s).state := by
  refine claim_withPack fun p hp => ?_
  split_ifs with h1 h2
  · exact .refl
  · split
    · exact .refl
    · exact Claim.trans (Claim.trans (claim_changePack hB (f := Pack.toStored) (fun _ => rfl)
        fun _ _ h => by rcases h with h | h <;> cases h) (claim_clearStarved _)) (claim_observe _ _ _)
  · split
    · exact .refl
    · split
      · exact .refl
      · rename_i hput
        exact Claim.trans (Claim.trans (claim_putDown hB (f := Pack.toStored) (room_of_putDownCheck hput)
          fun _ _ _ _ => ⟨nofun, nofun⟩) (claim_clearStarved _)) (claim_observe _ _ _)

theorem claim_scrapPackBlock (hB : A .packs) (tag : Nat) : Claim A s (scrapPackBlock tag s).state := by
  refine claim_withPack fun p hp => ?_
  split_ifs
  · exact (claim_retirePack hB tag).trans (claim_observe _ _ _)
  · exact .refl

theorem claim_clearMarks (hB : A .packs) (named : Option Nat) (which : Nat → Pack → Bool) :
    Claim A s (clearMarks named which s).state := by
  have h1 : Claim A s (observe named s.packs (dryPacks which s)) :=
    Claim.trans (claim_changeMarks hB (fun _ p => by split_ifs <;> rfl) (fun _ p => by split_ifs <;> rfl))
      (claim_observe _ _ _)
  show Claim A s (if wetCount which s = 0 then _ else _)
  split_ifs
  · exact h1
  · exact h1.trans (claim_clearStarved _)

theorem claim_clearWettedBlock (hB : A .packs) (tag bay : Option Nat) :
    Claim A s (clearWettedBlock tag bay s).state := by
  unfold clearWettedBlock
  split
  · exact claim_withPack fun p _ => claim_clearMarks hB _ _
  · split_ifs
    · exact .refl
    · exact .refl
    · exact claim_clearMarks hB _ _
  · exact .refl
  · exact .refl

/-! ## Resets, the start-up check and the supply -/

theorem claim_startReset (hA : A .work) (hC : A .orders) (hP : A .port) (cause : ResetCause) (supply : SupplyStatus)
    (s : State) : Claim A s (startReset cause supply s) := (Change.reset s cause supply hA hC hP).toClaim

/-- A yard map at its defaults over stacks that stood within the highest tier limit (R1). -/
theorem stackLaw_defaultMap {y : YardMap} (h : ∀ b, (y.bays.getD b (Bay.default b)).tierLimit = 6) (hs : stackLaw s) :
    stackLaw { s with yardMap := y } := by
  obtain ⟨h1, h2, h3, h4⟩ := hs
  refine ⟨h1, fun b => (h b).le, fun b k => ?_, h4⟩
  exact (h3 b k).trans ((h2 b).trans (h b).ge)

theorem tierLimit_default (b : Nat) : (YardMap.default.bays.getD b (Bay.default b)).tierLimit = 6 := by
  rw [YardMap.default, List.getD]
  simp only [List.getElem?_map]
  cases (List.range 64)[b]? <;> rfl

theorem claim_checkTables (hS : A .settings) (hB : A .packs) (checked damaged : BitVec 6) (s : State) :
    Claim A s (checkTables checked damaged s) := by
  have h1 : Claim A s
      { s with
        yardMap := (checkTables checked damaged s).yardMap
        products := (checkTables checked damaged s).products
        settings := (checkTables checked damaged s).settings
        lineSettings := (checkTables checked damaged s).lineSettings } := by
    refine (Change.settings s _ _ _ _ hS (fun h => ?_) fun h => ?_).toClaim
    · obtain ⟨h1, h2, h3, h4, h5, h6, h7, h8⟩ := h
      simp only [checkTables]
      refine ⟨?_, ?_, ?_, ?_, h5, h6, h7, ?_⟩ <;> simp only <;> split_ifs <;> try assumption
      · rfl
      · rfl
      · exact List.length_replicate
      · rfl
      · intro p hp
        rw [List.eq_of_mem_replicate hp]
        exact Nat.zero_le _
    · show stackLaw { s with yardMap := (checkTables checked damaged s).yardMap }
      simp only [checkTables]
      split_ifs
      · exact stackLaw_defaultMap tierLimit_default h
      · exact h
  refine h1.trans (Claim.trans (t := { s with
      yardMap := (checkTables checked damaged s).yardMap
      products := (checkTables checked damaged s).products
      settings := (checkTables checked damaged s).settings
      lineSettings := (checkTables checked damaged s).lineSettings
      packs := (checkTables checked damaged s).packs }) ?_ (claim_aside (by constructor <;> rfl)))
  simp only [checkTables]
  split_ifs <;> first | exact claim_noPacks hB | exact .refl

theorem claim_emptyForFailed (hB : A .packs) (s : State) : Claim A s (emptyForFailed s) := by
  unfold emptyForFailed
  split_ifs
  · exact claim_noPacks hB
  · exact .refl

theorem claim_raiseRestarts (s : State) : Claim A s (raiseRestarts s) := claim_aside (by constructor <;> rfl)

/-- Reconciliation takes a place from a LIFTED or LOADED pack alone, which has none by law 2's own premise (R57). -/
theorem reconciled_location (p : Pack) (h : p.state = .lifted ∨ p.state = .loaded → p.location = none) :
    p.reconciled.location = p.location := by
  unfold Pack.reconciled
  split <;> first | rfl | exact (h (by simp_all)).symm

theorem reconciled_state (p : Pack) : p.reconciled.state ≠ .lifted ∧ p.reconciled.state ≠ .loaded := by
  unfold Pack.reconciled
  split <;> simp_all

theorem claim_reconcile (hB : A .packs) (s : State) : Claim A s (reconcile s) := by
  refine claim_packs hB (Table.rising_change _) (Or.inl (Table.length_change _ _).le) fun hr h => ?_
  refine stackLaw_of_spot hr (Table.rising_change _ hr) (fun x => ?_) (fun e he hst => ?_) h
  · rw [spot_change, spot]
    cases hx : Table.get s.packs x with
    | none => rfl
    | some p => exact reconciled_location p (h.2.2.2 _ (Table.mem_of_get hx))
  · obtain ⟨p, -, heq⟩ := mem_change.mp he
    rw [heq] at hst
    obtain ⟨h1, h2⟩ := reconciled_state p
    exact (hst.elim h1 h2).elim

theorem claim_checkSteps (hS : A .settings) (hB : A .packs) (progress : CheckProgress) (damaged : BitVec 6) (s : State) :
    Claim A s (checkSteps progress damaged s) := by
  have h1 := claim_checkTables hS hB allTables damaged s
  have h2 := h1.trans (claim_emptyForFailed hB _)
  have h3 := h2.trans (claim_raiseRestarts _)
  cases progress with
  | checking tables => exact claim_checkTables hS hB tables damaged s
  | emptied => exact h2
  | raised => exact h3
  | reconciled => exact h3.trans (claim_reconcile hB _)

theorem claim_postRestart (s : State) : Claim A s (postRestart s) := by
  have h1 : Claim A s (post .restarted s) := claim_post _ _
  have h2 := h1.trans (claim_postIf (decide (s.failedTables ≠ 0#6)) .storeLost _)
  have h3 := h2.trans (claim_postIf s.overrunNoted .portOverrun _)
  have h4 := h3.trans (claim_postIf (s.low || s.dipNoted) .supplyDip _)
  exact h4.trans (claim_aside (by constructor <;> rfl))

theorem claim_endCheck (hS : A .settings) (hB : A .packs) (hP : A .port) (damaged : BitVec 6) (s : State) :
    Claim A s (endCheck damaged s) := by
  refine Claim.trans (((claim_checkSteps hS hB .reconciled damaged s).trans (claim_aside ?_)).trans
    ((claim_postRestart (recordFailed (checkSteps .reconciled damaged s))).trans (claim_exchange hP ?_)))
    (claim_judgeLines _)
  · constructor <;> rfl
  · constructor <;> rfl

theorem claim_stopPart (cause : StopCause) (s : State) : Claim A s (stopPart cause s) := by
  have h1 : Claim A s { s with summary := 0#19, attn := false } := by
    rw [← emptySummary_eq]
    exact (Change.attention s 0#19 s.enables).toClaim
  cases cause
  · exact h1.trans (claim_aside (by constructor <;> rfl))
  · exact h1.trans (claim_aside (by constructor <;> rfl))

end

end Sys2Proof.Proofs
end

section
/-!
PROOFS. The requests of families 4 to 6 and the events as chains of elementary changes; and so every command.
-/

namespace Sys2Proof.Proofs

open Sys2Proof.Machine Sys2Proof.Safety

section
variable {A : Part → Prop} {s t u : State}

/-! ## Family 4 -/

theorem orderOk_newOrder (truck level payload : Nat) (supervised : Bool) (lines : List LineItem) :
    orderOk (newOrder truck level payload supervised lines) := by
  refine ⟨fun l hl => ?_, Nat.zero_le _, Nat.zero_le _, List.nodup_nil, fun pr hpr => by cases hpr⟩
  obtain ⟨i, -, rfl⟩ := List.mem_map.mp hl
  exact Nat.zero_le _

/-- With a record free, the lowest free handle is free (R60). -/
theorem freeHandle_spec (h : s.orders.length < Config.orderCapacity) :
    freeHandle s ∉ s.orders.keys ∧ 1 ≤ freeHandle s ∧ freeHandle s ≤ Config.orderCapacity ∧
      ∀ n, 1 ≤ n → n < freeHandle s → n ∈ s.orders.keys := by
  obtain ⟨h1, h2, h3⟩ := lowestFree_spec s.orders.keys Config.orderCapacity 1
    (exists_free _ (by simpa [Table.keys] using h))
  exact ⟨h1, lowestFree_ge _ _ _, by unfold freeHandle; omega, h3⟩

theorem claim_checkInBlock (hC : A .orders) (truck level payload : Nat) (supervised : Bool)
    (lines : List LineItem) : Claim A s (checkInBlock truck level payload supervised lines s).state := by
  unfold checkInBlock
  split_ifs with h1 h2 h3 h4
  · exact .refl
  · exact .refl
  · exact claim_post _ _
  · exact .refl
  · have hmode : s.mode ≠ .closed := by rw [not_not.mp h2]; exact nofun
    exact (Change.newOrder s _ _ hC (Or.inr hmode) (freeHandle_spec (Nat.not_le.mp h3)).1 (Nat.not_le.mp h3)
      (orderOk_newOrder ..)).toClaim

theorem claim_readOrderBlock (handle truck : Option Nat) : Claim A s (readOrderBlock handle truck s).state := by
  unfold readOrderBlock
  split
  · exact .refl
  · split_ifs
    · split <;> exact .refl
    · exact .refl
  · split_ifs
    · split <;> exact .refl
    · exact .refl
  · exact .refl

theorem claim_setPointBlock (hC : A .orders) (handle point : Nat) :
    Claim A s (setPointBlock handle point s).state := by
  unfold setPointBlock
  split
  · exact .refl
  · split
    · exact .refl
    · split_ifs <;> try exact .refl
      exact claim_changeOrder hC (fun _ => rfl) fun _ _ ho => ho

theorem claim_setLevelBlock (hC : A .orders) (handle level : Nat) :
    Claim A s (setLevelBlock handle level s).state := by
  unfold setLevelBlock
  split_ifs
  · exact .refl
  · split
    · exact .refl
    · rename_i o ho
      show Claim A s (if o.level = level then s else relevel handle level s)
      split_ifs
      · exact .refl
      · exact (Change.relevel s handle level hC (mem_keys_iff_get.mpr ⟨o, ho⟩)).toClaim.trans (claim_clearStarved _)

/-- A chain over a list of tags, each link of which leaves the yard mode. -/
theorem work_foldl {f : State → Nat → State} (l : List Nat) (ha : Awake A s)
    (hf : ∀ u t, Awake A u → Work A u (f u t)) (hmode : ∀ u t, (f u t).mode = u.mode) :
    Work A s (l.foldl f s) ∧ Awake A (l.foldl f s) := by
  induction l generalizing s with
  | nil => exact ⟨.refl, ha⟩
  | cons t l ih =>
    obtain ⟨h1, h2⟩ := ih (ha.of_mode (hmode s t))
    exact ⟨(hf s t ha).trans h1, h2⟩

theorem work_releaseOrder (hA : A .work) (hB : A .packs) (hC : A .orders) (ha : Awake A s) (h : Nat) :
    Work A s (releaseOrder h s) ∧ Awake A (releaseOrder h s) := by
  obtain ⟨h1, ha1⟩ := work_foldl (tagsOf s .reserved h) ha
    (fun u t hu => work_releaseAtRest hA hB hC hu t (after := Pack.toStored) (fun _ => rfl) (fun _ => ⟨nofun, nofun⟩))
    (fun u t => mode_releaseAtRest t Pack.toStored u)
  obtain ⟨h2, ha2⟩ := work_foldl (tagsOf s .lifted h) ha1 (fun u t hu => work_releaseLifted hA hB hC hu t)
    (fun u t => mode_releaseLifted t u)
  exact ⟨h1.trans h2, ha2⟩

theorem work_retireOrder (hC : A .orders) (h : Nat) (s : State) : Work A s (retireOrder h s) :=
  (Change.endOrder s h hC).toWork.trans (claim_aside (by constructor <;> rfl)).toWork

theorem work_unconfirmLoaded (hB : A .packs) (h : Nat) (s : State) : Work A s (unconfirmLoaded h s) := by
  unfold unconfirmLoaded
  generalize tagsOf s .loaded h = l
  induction l generalizing s with
  | nil => exact .refl
  | cons t l ih =>
    exact (claim_changePack hB (f := Pack.toHeld .loadedUnconfirmed) (fun _ => rfl)
      fun _ _ h => by rcases h with h | h <;> cases h).toWork.trans (ih _)

theorem work_departLoaded (hB : A .packs) (h : Nat) (s : State) : Work A s (departLoaded h s) := by
  unfold departLoaded
  generalize tagsOf s .loaded h = l
  induction l generalizing s with
  | nil => exact .refl
  | cons t l ih => exact (claim_retirePack hB t).toWork.trans (ih _)

theorem claim_endOrderBlock (hA : A .work) (hB : A .packs) (hC : A .orders) (hs : closedLaw s ∨ A .rest)
    {loaded : Nat → State → State} (hl : ∀ h u, Work A u (loaded h u)) (handle : Nat) :
    Claim A s (endOrderBlock loaded handle s).state := by
  unfold endOrderBlock
  split_ifs
  · exact .refl
  · split
    · exact .refl
    · rename_i o ho
      obtain ⟨h1, -⟩ := work_releaseOrder hA hB hC (awake_of_orders hs (ne_nil_of_get ho)) handle
      exact claim_endClaim hA _ _ ((h1.trans (hl handle _)).trans (work_retireOrder hC handle _))
  · exact .refl

/-! ## The allocator -/

/-- What a passed test of either pass gives beside eligibility: the mass fits the budget; in the first pass there is
room for the tasks (R92), in the second the holder's level is the lower (R97). -/
theorem passOk_spec {pass : Pass} {o : Order} {item : LineItem} {tag : Nat} {p : Pack}
    (h : passOk pass s o item tag p = true) :
    p.mass ≤ o.budget ∧ (pass = .first → s.tasks.length + dig s tag < Config.taskCapacity) ∧
      (pass = .second → ∀ v, p.reservation = some v →
        ∃ holder, Table.get s.orders v.handle = some holder ∧ holder.level < o.level) := by
  have hfits : fitsLine s o item tag p = true → p.mass ≤ o.budget := by
    unfold fitsLine
    cases p.location with
    | none => intro hf; cases hf
    | some l =>
      simp only [Bool.and_eq_true, decide_eq_true_eq]
      exact fun hf => hf.2.2.1
  cases pass with
  | first =>
    simp only [passOk, firstPassOk, Bool.and_eq_true, decide_eq_true_eq] at h
    obtain ⟨⟨⟨⟨⟨-, hf⟩, -⟩, -⟩, -⟩, hroom⟩ := h
    refine ⟨hfits hf, fun _ => ?_, nofun⟩
    unfold freeTasks at hroom
    omega
  | second =>
    simp only [passOk, secondPassOk, Bool.and_eq_true, decide_eq_true_eq] at h
    obtain ⟨⟨⟨-, hbelow⟩, -⟩, hf⟩ := h
    refine ⟨hfits hf, nofun, fun _ v hv => ?_⟩
    unfold reservedBelow at hbelow
    rw [hv] at hbelow
    simp only [Option.bind_some, State.order] at hbelow
    cases hg : Table.get s.orders v.handle with
    | none => rw [hg] at hbelow; cases hbelow
    | some holder =>
      rw [hg] at hbelow
      exact ⟨holder, rfl, of_decide_eq_true hbelow⟩

theorem claim_commit (hA : A .work) (hB : A .packs) (hC : A .orders) (ha : Awake A s) {pass : Pass} {r : LineRef}
    {tag : Nat} {p : Pack} (hroom : pass = .first → s.tasks.length + dig s tag < Config.taskCapacity)
    (hvictim : pass = .second → ∀ v, p.reservation = some v → v.handle ≠ r.handle)
    (hok : ∀ o, Table.get s.orders r.handle = some o → orderOk o → orderOk (Raised r p.mass o)) :
    Claim A s (commit pass r tag p s) := by
  unfold commit
  refine Claim.trans ?_ (claim_observe _ _ _)
  cases pass with
  | first => exact claim_reserve hA hB hC ha (hroom rfl) hok
  | second => exact claim_takeOver hA hB hC ha (hvictim rfl) hok

/-- The line under scan, taken apart. -/
theorem scanLine_spec {r : LineRef} {o : Order} {l : OrderLine} (h : scanLine s = some (r, o, l)) :
    s.engine.line = some r ∧ Table.get s.orders r.handle = some o ∧ nth o.lines r.line = some l := by
  unfold scanLine at h
  split at h
  · cases h
  · rename_i r' hr
    split at h
    · cases h
    · rename_i o' ho
      cases hn : nth o'.lines r'.line with
      | none => rw [hn] at h; cases h
      | some l' =>
        rw [hn] at h
        cases h
        exact ⟨hr, ho, hn⟩

theorem claim_propose (hC : A .orders) {r : LineRef} {tag cost : Nat}
    (hok : ∀ o, Table.get s.orders r.handle = some o →
      o.supervised = true ∧ ∃ l, nth o.lines r.line = some l ∧ l.allocated < l.item.quantity) :
    Claim A s (propose r tag cost s) := by
  refine Claim.trans (claim_changeOrder hC (by exact fun _ => rfl) fun o ho h => ?_) (claim_post _ _)
  obtain ⟨hl, hm, hr, hd, -⟩ := h
  refine ⟨hl, hm, hr, hd, fun pr hpr => ?_⟩
  cases hpr
  exact hok o ho

theorem claim_idleEngine (s : State) : Claim A s (idleEngine s) := claim_setEngine _ _

theorem claim_finishScan (hA : A .work) (hB : A .packs) (hC : A .orders) (hs : closedLaw s ∨ A .rest)
    (c : Candidate) : Claim A s (finishScan c s) := by
  unfold finishScan
  split
  · exact claim_idleEngine s
  · rename_i r o l hline
    obtain ⟨-, ho, hl⟩ := scanLine_spec hline
    split
    · exact claim_setEngine _ _
    · rename_i p hp
      split_ifs with hvalid hsup
      · simp only [scanValid, Bool.and_eq_true, OrderLine.wants, decide_eq_true_eq] at hvalid
        obtain ⟨⟨hwants, -⟩, -⟩ := hvalid
        refine Claim.trans (claim_propose hC fun o' ho' => ?_) (claim_idleEngine _)
        rw [ho] at ho'
        cases ho'
        exact ⟨hsup, l, hl, hwants⟩
      · simp only [scanValid, Bool.and_eq_true, OrderLine.wants, decide_eq_true_eq] at hvalid
        obtain ⟨⟨hwants, hpass⟩, -⟩ := hvalid
        obtain ⟨hmass, hroom, hbelow⟩ := passOk_spec hpass
        refine Claim.trans (claim_commit hA hB hC (awake_of_orders hs (ne_nil_of_get ho)) hroom
          (fun hsec v hv he => ?_) fun o' ho' h' => ?_) (claim_idleEngine _)
        · obtain ⟨holder, hholder, hlt⟩ := hbelow hsec v hv
          rw [he, ho] at hholder
          cases hholder
          exact Nat.lt_irrefl _ hlt
        · rw [ho] at ho'
          cases ho'
          refine orderOk_raised (fun l' hl' => ?_) hmass (fun h => absurd h hsup) h'
          rw [hl] at hl'
          cases hl'
          exact hwants
      · exact claim_setEngine _ _

theorem claim_endEmptyScan (hC : A .orders) (r : LineRef) : Claim A s (endEmptyScan r s) := by
  unfold endEmptyScan
  refine Claim.trans ?_ (claim_idleEngine _)
  split_ifs
  · exact .refl
  · exact (claim_starveLine hC r).trans (claim_post _ _)

theorem claim_endPass (hA : A .work) (hB : A .packs) (hC : A .orders) (hs : closedLaw s ∨ A .rest) :
    Claim A s (endPass s) := by
  unfold endPass
  split
  · exact claim_idleEngine s
  · split
    · split_ifs
      · exact claim_setEngine _ _
      · exact claim_finishScan hA hB hC hs _
    · split_ifs
      · exact claim_setEngine _ _
      · exact claim_endEmptyScan hC _

theorem claim_resumeScan (hA : A .work) (hB : A .packs) (hC : A .orders) (hs : closedLaw s ∨ A .rest) :
    Claim A s (resumeScan s) := by
  unfold resumeScan
  split_ifs
  · split
    · exact .refl
    · exact claim_finishScan hA hB hC hs _
  · exact .refl

theorem claim_walkStep (pass : Pass) (s : State) : Claim A s (walkStep pass s) := by
  unfold walkStep
  split
  · exact .refl
  · split
    · exact .refl
    · exact claim_setEngine _ _

theorem confirmable_spec {o : Order} {pr : Proposal} {pass : Pass} {p : Pack} {l : OrderLine}
    (h : confirmable s o pr = some (pass, p, l)) :
    Table.get s.packs pr.tag = some p ∧ nth o.lines pr.line = some l ∧ l.wants = true ∧
      passOk pass s o l.item pr.tag p = true := by
  unfold confirmable at h
  split at h
  · rename_i p' l' hp hl
    split at h
    · cases h
    · split_ifs at h with hc
      cases h
      exact ⟨hp, hl, hc.1, hc.2⟩
  · cases h

theorem claim_confirm (hA : A .work) (hB : A .packs) (hC : A .orders) (ha : Awake A s) {h : Nat} {o : Order}
    (ho : Table.get s.orders h = some o) (pr : Proposal) : Claim A s (confirm h o pr s).state := by
  unfold confirm
  split
  · exact claim_emptySlot hC h
  · rename_i pass p l hc
    obtain ⟨hp, hl, hwants, hpass⟩ := confirmable_spec hc
    obtain ⟨hmass, hroom, hbelow⟩ := passOk_spec hpass
    refine (claim_emptySlot hC h).trans (claim_commit hA hB hC (by exact ha) hroom (fun hsec v hv he => ?_)
      fun o' ho' h' => ?_)
    · obtain ⟨holder, hholder, hlt⟩ := hbelow hsec v hv
      rw [show v.handle = h from he, ho] at hholder
      cases hholder
      exact Nat.lt_irrefl _ hlt
    · have ho2 : Table.get (emptySlot h s).orders h = some o' := ho'
      rw [emptySlot, changeOrder, Table.get_update_self, ho] at ho2
      cases ho2
      refine orderOk_raised (fun l' hl' => ?_) hmass (fun _ => rfl) h'
      rw [hl] at hl'
      cases hl'
      exact of_decide_eq_true hwants

theorem claim_confirmProposalBlock (hA : A .work) (hB : A .packs) (hC : A .orders) (hs : closedLaw s ∨ A .rest)
    (handle tag : Nat) : Claim A s (confirmProposalBlock handle tag s).state := by
  unfold confirmProposalBlock
  split_ifs
  · exact .refl
  · exact .refl
  · split
    · exact .refl
    · rename_i o ho
      split
      · exact .refl
      · split_ifs
        · exact claim_confirm hA hB hC (awake_of_orders hs (ne_nil_of_get ho)) ho _
        · exact .refl

/-- A tag that joins the rejected list keeps its length and its being without repetition (R71). -/
theorem addRejected_ok {tag : Nat} {l : List Nat} (hl : l.length ≤ Config.rejectedTags) (hd : l.Nodup) :
    (addRejected tag l).length ≤ Config.rejectedTags ∧ (addRejected tag l).Nodup := by
  unfold addRejected
  split_ifs with h1 h2
  · exact ⟨hl, hd⟩
  · refine ⟨by simpa using h2, ?_⟩
    rw [List.nodup_append]
    exact ⟨hd, List.nodup_singleton _, fun a ha b hb => by
      rw [List.mem_singleton.mp hb]
      rintro rfl
      exact h1 ha⟩
  · refine ⟨?_, ?_⟩
    · have h8 : Config.rejectedTags = 8 := rfl
      simp only [List.length_append, List.length_drop, List.length_singleton]
      omega
    · rw [List.nodup_append]
      exact ⟨hd.sublist (List.drop_sublist _ _), List.nodup_singleton _, fun a ha b hb => by
        rw [List.mem_singleton.mp hb]
        rintro rfl
        exact h1 (List.mem_of_mem_drop ha)⟩

theorem claim_rejectProposalBlock (hC : A .orders) (handle tag : Nat) :
    Claim A s (rejectProposalBlock handle tag s).state := by
  unfold rejectProposalBlock
  split_ifs
  · exact .refl
  · split
    · exact .refl
    · split_ifs
      · refine claim_changeOrder hC (fun _ => rfl) fun o _ h => ?_
        obtain ⟨hl, hm, hr, hd, -⟩ := h
        obtain ⟨hr', hd'⟩ := addRejected_ok hr hd
        exact ⟨hl, hm, hr', hd', fun pr hpr => by cases hpr⟩
      · exact .refl

/-! ## Family 5 -/

theorem station_mem {n : Nat} {st : Station} (h : s.station n = some st) : st ∈ s.stations := mem_of_nth h

theorem mem_of_heldTask {n : Nat} {t : Machine.Task} (h : heldTask s n = some t) : t ∈ s.tasks :=
  List.mem_of_find?_eq_some h

theorem awake_of_held (hs : closedLaw s ∨ A .rest) {n : Nat} {t : Machine.Task} (h : heldTask s n = some t) :
    Awake A s := awake_of_tasks hs (List.ne_nil_of_mem (mem_of_heldTask h))

theorem claim_withStation {n : Nat} {k : Station → Answer}
    (h : ∀ st, s.station n = some st → Claim A s (k st).state) : Claim A s (withStation n s k).state := by
  unfold withStation
  split
  · exact .refl
  · exact h _ ‹_›

theorem claim_goOnShiftBlock (hA : A .work) (n capacity : Nat) : Claim A s (goOnShiftBlock n capacity s).state := by
  refine claim_withStation fun st _ => ?_
  split_ifs with h1 h2 h3
  · exact .refl
  · exact .refl
  · exact claim_changeStation hA (Or.inl (Or.inr h2))
  · exact .refl

theorem claim_goOffShiftBlock (hA : A .work) (n : Nat) : Claim A s (goOffShiftBlock n s).state := by
  refine claim_withStation fun st _ => ?_
  split_ifs
  · exact .refl
  · refine Claim.trans (t := reopenHeld n s) ?_ (claim_changeStation hA (Or.inr fun _ _ => rfl))
    unfold reopenHeld
    split
    · exact .refl
    · exact claim_changeTask hA _ _

theorem claim_pollTaskBlock (hA : A .work) (n : Nat) : Claim A s (pollTaskBlock n s).state :=
  claim_withStation fun _ _ => claim_changeStation hA (Or.inr (by exact fun _ h => h))

theorem claim_withHeld {n task : Nat} {k : Machine.Task → Answer}
    (h : ∀ t, heldTask s n = some t → Claim A s (k t).state) : Claim A s (withHeld n task s k).state := by
  unfold withHeld
  split_ifs
  · split
    · exact .refl
    · split_ifs
      · exact h _ ‹_›
      · exact .refl
  · exact .refl

theorem claim_acceptBlock (hA : A .work) (hs : closedLaw s ∨ A .rest) (n task : Nat) :
    Claim A s (acceptBlock n task s).state := by
  refine claim_withHeld fun t ht => ?_
  have ha : Awake A s := awake_of_held hs ht
  split
  · exact (claim_changeTask hA _ _).trans (claim_changeStation hA (Or.inl (by exact ha)))
  · exact .refl
  · exact .refl
  · exact .refl

theorem claim_lapseTask (hA : A .work) (n task : Nat) : Claim A s (lapseTask n task s) := claim_changeTask hA _ _

theorem claim_declineBlock (hA : A .work) (hs : closedLaw s ∨ A .rest) (n task : Nat) :
    Claim A s (declineBlock n task s).state := by
  refine claim_withHeld fun t ht => ?_
  have ha : Awake A s := awake_of_held hs ht
  split_ifs
  · exact .refl
  · exact (claim_lapseTask hA n task).trans (claim_changeStation hA (Or.inl (by exact ha)))

theorem claim_liftPack (hB : A .packs) (tag task : Nat) : Claim A s (liftPack tag task s) :=
  claim_changePack_removed hB fun _ => rfl

theorem mode_removeFromStack (tag : Nat) (s : State) : (removeFromStack tag s).mode = s.mode := by
  obtain ⟨p, e⟩ := removeFromStack_frame tag s
  rw [e]

theorem claim_liftBy (hA : A .work) (hB : A .packs) (ha : Awake A s) (n : Nat) (t : Machine.Task)
    (suggested : Option (Nat × Nat)) (fresh : Bool) : Claim A s (liftBy n t suggested fresh s) := by
  have h1 := (claim_changeTask hA t.number (liftedTask s n suggested)).trans
    (claim_liftPack hB (s := changeTask t.number (liftedTask s n suggested) s) t.subject t.number)
  refine (h1.trans (claim_changeStation hA (Or.inl (ha.of_mode ?_)))).trans (claim_observe _ _ _)
  exact mode_removeFromStack t.subject (changeTask t.number (liftedTask s n suggested) s)

theorem claim_liftUnplanned (hA : A .work) (hB : A .packs) (ha : Awake A s)
    (hroom : s.tasks.length < Config.taskCapacity) (n tag : Nat) (p : Pack) : Claim A s (liftUnplanned n tag p s) := by
  have h1 := (claim_addTask hA ha hroom (returnTask s n tag p)).trans
    (claim_liftPack hB (s := addTask (returnTask s n tag p) s) tag (freeTaskNumber s))
  refine (h1.trans (claim_changeStation hA (Or.inl (ha.of_mode ?_)))).trans (claim_observe _ _ _)
  exact mode_removeFromStack tag (addTask (returnTask s n tag p) s)

theorem claim_liftedBlock (hA : A .work) (hB : A .packs) (hs : closedLaw s ∨ A .rest) (n tag : Nat) :
    Claim A s (liftedBlock n tag s).state := by
  refine claim_withStation fun st hst => ?_
  split_ifs with h1 h2 h3
  · exact .refl
  · exact .refl
  · have ha : Awake A s := awake_of_station hs (station_mem hst) h3
    split
    · unfold liftHeld
      split_ifs
      · exact .refl
      · exact .refl
      · exact claim_liftBy hA hB ha _ _ _ _
    · unfold liftIdle
      split
      · exact .refl
      · split
        · unfold liftLate
          split_ifs
          · exact .refl
          · exact claim_liftBy hA hB ha _ _ _ _
        · unfold liftFree
          split_ifs with h4 h5 h6
          · exact .refl
          · exact .refl
          · exact claim_post _ _
          · refine claim_liftUnplanned hA hB ha ?_ _ _ _
            unfold freeTasks at h6
            omega
  · exact .refl

theorem claim_loadPack (hB : A .packs) (tag : Nat) : Claim A s (loadPack tag s) :=
  claim_changePack_removed hB fun _ => rfl

/-- A station's drop puts it at rest in a yard that works. -/
theorem claim_stationDrops (hA : A .work) (ha : Awake A s) (n : Nat) (bay : Option Nat) :
    Claim A s (changeStation n (stationDrops bay) s) := claim_changeStation hA (Or.inl ha)

theorem mode_retireTask (n : Nat) (s : State) : (retireTask n s).mode = s.mode := mode_clearStarved _

theorem mode_loadLine (r : LineRef) (s : State) : (loadLine r s).mode = s.mode := by
  unfold loadLine postIf
  split_ifs <;> rfl

theorem claim_dropTruck (hA : A .work) (hB : A .packs) (hC : A .orders) (ha : Awake A s) (n : Nat)
    (t : Machine.Task) : Claim A s (dropTruck n t s).state := by
  unfold dropTruck
  split
  · split_ifs
    · rename_i r _ _
      refine claim_endClaim hA _ _ ?_
      refine (((claim_loadPack hB t.subject).trans (claim_loadLine hC r)).toWork.trans
        (work_retireTask hA t.number)).trans (claim_stationDrops hA (ha.of_mode ?_) n none).toWork
      rw [mode_retireTask, mode_loadLine]
      exact mode_removeFromStack _ _
    · exact .refl
  · exact .refl
  · exact .refl

theorem claim_dropStack (hA : A .work) (hB : A .packs) (hC : A .orders) (ha : Awake A s) (n : Nat)
    (t : Machine.Task) (bay stack : Nat) : Claim A s (dropStack n t bay stack s).state := by
  unfold dropStack
  split
  · exact .refl
  · rename_i hput
    have hroom := room_of_putDownCheck hput
    show Claim A s (if t.isFetch then setBack n t bay stack s else dropOnStack n t bay stack s)
    split_ifs
    · refine claim_endClaim hA _ _ ?_
      have h1 : Claim A s (putDown bay stack t.subject (fun p => { p with state := .reserved }) s) :=
        claim_putDown hB hroom fun _ _ _ _ => ⟨nofun, nofun⟩
      have h2 := (h1.trans (claim_lapseTask hA n t.number)).trans
        (claim_stationDrops hA (by exact ha) n (some bay))
      refine h2.toWork.trans ?_
      unfold judgeRained
      split_ifs
      · exact (work_judgeWetted hA hB hC (Or.inl (by exact ha)) t.subject).1
      · exact .refl
    · refine claim_endClaim hA _ _ ?_
      have h1 : Claim A s (putDown bay stack t.subject Pack.toStored s) :=
        claim_putDown hB hroom fun _ _ _ _ => ⟨nofun, nofun⟩
      refine (h1.toWork.trans (work_retireTask hA t.number)).trans
        (claim_stationDrops hA (ha.of_mode ?_) n (some bay)).toWork
      rw [mode_retireTask]
      rfl

theorem liftedTaskOf_spec {n : Nat} {t : Machine.Task} (h : liftedTaskOf s n = some t) :
    heldTask s n = some t ∧ t.state = .lifted := by
  simpa [liftedTaskOf, Option.filter_eq_some_iff] using h

theorem claim_droppedBlock (hA : A .work) (hB : A .packs) (hC : A .orders) (hs : closedLaw s ∨ A .rest) (n : Nat)
    (dest : Destination) : Claim A s (droppedBlock n dest s).state := by
  unfold droppedBlock
  split_ifs
  · exact .refl
  · exact .refl
  · split
    · exact .refl
    · rename_i t ht
      have ha := awake_of_held hs (liftedTaskOf_spec ht).1
      cases dest with
      | truck => exact claim_dropTruck hA hB hC ha n t
      | stack bay stack => exact claim_dropStack hA hB hC ha n t bay stack

theorem work_releaseMissing (hA : A .work) (hB : A .packs) (hC : A .orders) (ha : Awake A s) (t : Machine.Task) :
    Work A s (releaseMissing t s) := by
  unfold releaseMissing
  split
  · exact (work_releaseShifts hA hB ha _).trans (claim_lowerCountsOf hC _).toWork
  · exact .refl

theorem mode_releaseMissing (t : Machine.Task) (s : State) : (releaseMissing t s).mode = s.mode := by
  unfold releaseMissing
  split
  · rw [mode_lowerCountsOf, mode_releaseShifts]
  · rfl

theorem claim_losePack (hB : A .packs) (tag : Nat) : Claim A s (losePack tag s) :=
  claim_changePack_removed hB fun _ => rfl

theorem claim_reportMissingBlock (hA : A .work) (hB : A .packs) (hC : A .orders) (hs : closedLaw s ∨ A .rest)
    (n : Nat) : Claim A s (reportMissingBlock n s).state := by
  unfold reportMissingBlock
  split_ifs
  · exact .refl
  · split
    · exact .refl
    · rename_i t ht
      have ha := awake_of_held hs ht
      split_ifs
      · exact .refl
      · refine claim_endClaim hA _ _ ?_
        refine ((((work_releaseMissing hA hB hC ha t).trans (claim_losePack hB t.subject).toWork).trans
          (work_retireTask hA t.number)).trans (claim_post .packMissing _).toWork).trans
          (claim_stationDrops hA (ha.of_mode ?_) n _).toWork
        rw [mode_post, mode_retireTask]
        exact (mode_removeFromStack _ _).trans (mode_releaseMissing t s)

theorem claim_reportPositionBlock (hA : A .work) (n bay : Nat) : Claim A s (reportPositionBlock n bay s).state := by
  unfold reportPositionBlock
  split_ifs
  · exact .refl
  · exact claim_changeStation hA (Or.inr (by exact fun _ h => h))

/-! ## Family 6 -/

theorem claim_writeWatch (n : Nat) (w : Watch) (s : State) : Claim A s (writeWatch n w s) :=
  claim_aside (by constructor <;> first | rfl | exact length_changeNth _ _ _)

theorem claim_setWatchBlock (entry : Nat) (field : WatchField) (value mask : Nat) (oneShot : Bool) :
    Claim A s (setWatchBlock entry field value mask oneShot s).state := by
  unfold setWatchBlock
  split_ifs
  · exact .refl
  · exact claim_writeWatch _ _ _

theorem claim_readWatchBlock (entry : Option Nat) : Claim A s (readWatchBlock entry s).state := by
  unfold readWatchBlock
  split
  · exact .refl
  · split_ifs <;> exact .refl

theorem claim_clearWatchBlock (entry : Nat) : Claim A s (clearWatchBlock entry s).state := by
  unfold clearWatchBlock
  split_ifs
  · exact claim_writeWatch _ _ _
  · exact .refl

/-! ## The periods of the port -/

theorem claim_miso (l : List Byte) (s : State) : Claim A s { s with miso := l } :=
  claim_aside (by constructor <;> rfl)

theorem claim_takeFrame (hP : A .port) (bytes : List Byte) (s : State) : Claim A s (takeFrame bytes s) := by
  have hlast : ∀ code, Claim A s (clearLast code s) := fun code => by
    unfold clearLast
    split_ifs
    · exact claim_aside (by constructor <;> rfl)
    · exact .refl
  unfold takeFrame
  split
  · exact claim_respondAs hP _ _ _ _ _ _
  · split
    · exact (hlast _).trans (claim_respondAs hP _ _ _ _ _ _)
    · exact (hlast _).trans (claim_exchange hP (by constructor <;> rfl))

theorem claim_releasePeriod (hP : A .port) (bytes : List Byte) (s : State) : Claim A s (releasePeriod bytes s) := by
  unfold releasePeriod
  split
  · exact claim_aside (by constructor <;> rfl)
  · exact claim_takeFrame hP _ _
  · exact claim_post _ _
  · exact (claim_post _ _).trans (claim_takeFrame hP _ _)

theorem claim_readPort (hA : A .work) (hC : A .orders) (hP : A .port) (clocked lead : Nat) (supply : SupplyStatus)
    (s : State) : Claim A s (readPort clocked lead supply s) := by
  unfold readPort
  split
  · split_ifs
    · exact claim_miso _ _
    · unfold readResponse deliver
      split_ifs
      · exact claim_miso _ _
      · exact (claim_miso _ _).trans (claim_startReset hA hC hP _ _ _)
      · exact claim_exchange hP (by constructor <;> rfl)
  · exact claim_miso _ _
  · exact claim_miso _ _
  · exact claim_miso _ _

theorem claims_readPeriod (hA : A .work) (hC : A .orders) (hP : A .port) (clocked : Nat) (start : PeriodStart)
    (supply : SupplyStatus) (s : State) : Claims A s (execReadPeriod clocked start supply s) := by
  have hbytes : ∀ lead, Claim A s (readPeriodBytes clocked lead supply s) := fun lead => by
    unfold readPeriodBytes
    split_ifs
    · exact .refl
    · exact claim_readPort hA hC hP _ _ _ _
  refine claims_next ?_
  split_ifs
  · exact .refl
  · cases start with
    | beforeReset => exact claim_miso _ _
    | fresh => exact hbytes 0
    | within lead => exact hbytes lead

theorem claims_requestPeriod (hA : A .work) (hC : A .orders) (hP : A .port) (bytes : List Byte) (start : PeriodStart)
    (s : State) : Claims A s (execRequestPeriod bytes start s) := by
  have hbytes : ∀ lead, Claim A s (requestPeriodBytes bytes lead s) := fun lead => by
    unfold requestPeriodBytes
    split
    · exact .refl
    · split_ifs
      · exact claim_readPort hA hC hP _ _ _ _
      · exact (claim_miso _ _).trans (claim_releasePeriod hP _ _)
  refine claims_next ?_
  split_ifs
  · exact .refl
  · cases start with
    | beforeReset =>
      show Claim A s (loseRequest bytes s)
      unfold loseRequest
      split_ifs
      · exact claim_aside (by constructor <;> rfl)
      · exact claim_miso _ _
    | fresh => exact hbytes 0
    | within lead => exact hbytes lead

/-! ## Power, lines and the engine -/

theorem claims_powerOn (hA : A .work) (hC : A .orders) (hP : A .port) (batteryHeld : Bool)
    (supply : SupplyStatus) (s : State) : Claims A s (execPowerOn batteryHeld supply s) := by
  refine claims_next (Claim.trans (claim_exchange hP ?_) (claim_startReset hA hC hP _ _ _))
  cases batteryHeld <;> constructor <;> rfl

theorem claims_resetPin (hA : A .work) (hC : A .orders) (hP : A .port) (supply : SupplyStatus) (s : State) :
    Claims A s (execResetPin supply s) := by
  refine claims_next ?_
  split_ifs
  · exact claim_aside (by constructor <;> rfl)
  · exact Claim.trans (claim_aside (by constructor <;> rfl)) (claim_startReset hA hC hP _ _ _)

theorem claims_partStop (hS : A .settings) (hB : A .packs) (cause : StopCause) (progress : CheckProgress)
    (damaged : BitVec 6) (s : State) : Claims A s (execPartStop cause progress damaged s) := by
  refine claims_next (Claim.trans ?_ (claim_stopPart cause _))
  unfold abandonCheck
  split_ifs
  · exact claim_checkSteps hS hB _ _ _
  · exact .refl

theorem claims_startupCheckEnd (hS : A .settings) (hB : A .packs) (hP : A .port) (damaged : BitVec 6) (s : State) :
    Claims A s (execStartupCheckEnd damaged s) := by
  refine claims_next ?_
  split_ifs
  · exact claim_endCheck hS hB hP damaged s
  · exact .refl

theorem claims_supplyDip (s : State) : Claims A s (execSupplyDip s) := by
  refine claims_next ?_
  split_ifs
  · exact .refl
  · exact claim_aside (by constructor <;> rfl)
  · exact Claim.trans (claim_aside (by constructor <;> rfl)) (claim_post _ _)

theorem claims_supplyRecovery (hA : A .work) (hB : A .packs) (hC : A .orders) (hs : closedLaw s ∨ A .rest) :
    Claims A s (execSupplyRecovery s) := by
  refine claims_next ?_
  split_ifs
  · exact .refl
  · exact Claim.trans (claim_aside (by constructor <;> rfl))
      (claim_resumeScan (s := { s with supply := .sound }) hA hB hC hs)

theorem claims_pinChange (pin : Nat) (high : Bool) (s : State) : Claims A s (execPinChange pin high s) := by
  have h1 : Claim A s { s with pins := setPin s.pins pin high } := claim_aside (by constructor <;> rfl)
  refine claims_next ?_
  split_ifs
  · exact h1.trans (claim_judgeLines _)
  · exact h1

theorem claims_debounceExpiry (line : Nat) (s : State) : Claims A s (execDebounceExpiry line s) := by
  refine claims_next ?_
  split_ifs
  · exact claim_takeEdge _ _ _
  · exact .refl

theorem claims_wettingSweepStack (hA : A .work) (hB : A .packs) (hC : A .orders) (hs : closedLaw s ∨ A .rest) :
    Claims A s (execWettingSweepStack s) := by
  refine claims_next ?_
  split_ifs
  · split
    · exact .refl
    · split
      · unfold endSweep
        split_ifs <;> exact claim_aside (by constructor <;> rfl)
      · exact (claim_wetStack hA hB hC (awakeOrIdle hs) _ _).1.trans (claim_aside (by constructor <;> rfl))
  · exact .refl

theorem claims_scanStart (s : State) : Claims A s (execScanStart s) := by
  refine claims_next ?_
  split_ifs
  · split
    · exact .refl
    · exact claim_setEngine _ _
  · exact .refl

theorem claims_visit (pass : Pass) (c : Prop) [Decidable c] (s : State) :
    Claims A s (.next (if c then walkStep pass s else s)) := by
  refine claims_next ?_
  split_ifs
  · exact claim_walkStep _ _
  · exact .refl

theorem claims_passEnd (hA : A .work) (hB : A .packs) (hC : A .orders) (hs : closedLaw s ∨ A .rest) :
    Claims A s (execPassEnd s) := by
  refine claims_next ?_
  split_ifs
  · exact claim_endPass hA hB hC hs
  · exact .refl

/-! ## Tasks and timers -/

theorem claims_taskOffer (hA : A .work) (hs : closedLaw s ∨ A .rest) : Claims A s (execTaskOffer s) := by
  refine claims_next ?_
  split_ifs
  · split
    · exact .refl
    · rename_i t ht
      split
      · exact .refl
      · have hin : t ∈ s.tasks := (List.mem_filter.mp (firstBy_mem ht)).1
        have ha : Awake A s := awake_of_tasks hs (List.ne_nil_of_mem hin)
        exact (claim_changeTask hA _ _).trans (claim_changeStation hA (Or.inl (by exact ha)))
  · exact .refl

theorem dueTask_spec {n : Nat} {st : TaskState} {t : Machine.Task} (h : dueTask s n st = some t) :
    s.task n = some t ∧ t.state = st ∧ t.deadline = some 0 := by
  simpa [dueTask, Option.filter_eq_some_iff] using h

theorem awake_of_due (hs : closedLaw s ∨ A .rest) {task n : Nat} {st : TaskState}
    (h : (dueTask s task st).bind Machine.Task.station = some n) : Awake A s := by
  obtain ⟨t, ht, -⟩ := Option.bind_eq_some_iff.mp h
  exact awake_of_tasks hs (List.ne_nil_of_mem (List.mem_of_find?_eq_some (dueTask_spec ht).1))

theorem claims_offerLapse (hA : A .work) (hs : closedLaw s ∨ A .rest) (task : Nat) :
    Claims A s (execOfferLapse task s) := by
  refine claims_next ?_
  split_ifs
  · split
    · exact .refl
    · rename_i n hn
      have ha : Awake A s := awake_of_due hs hn
      exact ((claim_lapseTask hA n task).trans
        (claim_changeStation hA (Or.inl (by exact ha)))).trans (claim_postIf _ _ _)
  · exact .refl

theorem claims_taskLapse (hA : A .work) (hs : closedLaw s ∨ A .rest) (task : Nat) :
    Claims A s (execTaskLapse task s) := by
  refine claims_next ?_
  split_ifs
  · split
    · exact .refl
    · rename_i n hn
      have ha : Awake A s := awake_of_due hs hn
      exact ((claim_lapseTask hA n task).trans
        (claim_dismiss hA (by exact ha) (some n))).trans (claim_post _ _)
  · exact .refl

theorem claims_carryOverdue (hA : A .work) (task : Nat) (s : State) : Claims A s (execCarryOverdue task s) := by
  refine claims_next ?_
  split_ifs
  · exact (claim_changeTask hA _ _).trans (claim_post _ _)
  · exact .refl

theorem claims_proposalExpiry (hC : A .orders) (handle : Nat) (s : State) :
    Claims A s (execProposalExpiry handle s) := by
  refine claims_next ?_
  split_ifs
  · exact (claim_emptySlot hC handle).trans (claim_post _ _)
  · exact .refl

end

/-! ## Every command -/

/-- What a command may touch. -/
def may (c : Instr) (s : State) : Part → Prop
  | .settings => writesSettings c = true
  | .packs => writesPacks c = true
  | .work => movesWork c = true
  | .orders => movesWork c = true ∨ changesOrders c = true
  | .port => True
  | .rest => ¬ closedLaw s

theorem may_settings {c : Instr} {s : State} (h : writesSettings c = true) : may c s .settings := h

theorem may_packs {c : Instr} {s : State} (h : writesPacks c = true) : may c s .packs := h

theorem may_work {c : Instr} {s : State} (h : movesWork c = true) : may c s .work := h

theorem may_orders_of_work {c : Instr} {s : State} (h : movesWork c = true) : may c s .orders := Or.inl h

theorem may_orders {c : Instr} {s : State} (h : changesOrders c = true) : may c s .orders := Or.inr h

theorem may_port {c : Instr} {s : State} : may c s .port := trivial

/-- A block's state keeps law 10, or the command owes nothing to it. -/
theorem may_rest {c : Instr} {s u : State} (h : closedLaw s → closedLaw u) : closedLaw u ∨ may c s .rest :=
  (Classical.em (closedLaw s)).imp_left h

/-- Every command is a claim of elementary changes, each of a part of the state the command may touch. -/
theorem exec_claims (c : Instr) (s : State) : Claims (may c s) s (exec c s) := by
  cases c with
  | statusSummary => exact claims_serve may_port fun _ _ => .refl
  | getCapacities => exact claims_serve may_port fun _ _ => .refl
  | getFamilies => exact claims_serve may_port fun _ _ => .refl
  | fetchEvents => exact claims_serve may_port fun _ _ => claim_fetchEventsBlock
  | setEventEnables => exact claims_serve may_port fun _ _ => claim_setEventEnablesBlock _
  | setBay =>
    exact claims_serve may_port fun _ hu => claim_setBayBlock (may_settings rfl) (may_work rfl) (may_packs rfl) (may_orders_of_work rfl) (may_rest hu) _ _ _ _ _ _ _
  | readBay => exact claims_serve may_port fun _ _ => claim_readBayBlock _
  | setLoadingPoint => exact claims_serve may_port fun _ _ => claim_setLoadingPointBlock (may_settings rfl) _
  | setLine => exact claims_serve may_port fun _ _ => claim_setLineBlock (may_settings rfl) _
  | setTimers => exact claims_serve may_port fun _ _ => claim_setTimersBlock (may_settings rfl) _
  | setWeights => exact claims_serve may_port fun _ _ => claim_setWeightsBlock (may_settings rfl) _
  | setDay => exact claims_serve may_port fun _ _ => claim_setDayBlock (may_settings rfl) _
  | closeYard => exact claims_serve may_port fun _ _ => claim_closeYardBlock (may_work rfl)
  | openYard => exact claims_serve may_port fun _ _ => claim_opened _
  | clearYard => exact claims_next (claim_intake may_port fun _ _ => claim_takeClearYard may_port)
  | clearYardEnd =>
    refine claims_next ?_
    split_ifs
    · exact claim_respond may_port _ (claim_emptyYard (may_packs rfl) may_port)
    · exact .refl
  | setProduct => exact claims_serve may_port fun _ _ => claim_setProductBlock (may_settings rfl) _ _ _
  | readProduct => exact claims_serve may_port fun _ _ => claim_readProductBlock _
  | setSubstitutes => exact claims_serve may_port fun _ _ => claim_setSubstitutesBlock (may_settings rfl) _ _
  | receivePack => exact claims_serve may_port fun _ _ => claim_receivePackBlock (may_packs rfl) _ _ _ _ _ _ _ _ _
  | readPack => exact claims_serve may_port fun _ _ => claim_readPackBlock _
  | readStack => exact claims_serve may_port fun _ _ => claim_readStackBlock _ _
  | recordMove => exact claims_serve may_port fun _ _ => claim_recordMoveBlock (may_packs rfl) _ _ _
  | holdPack => exact claims_serve may_port fun _ hu => claim_holdPackBlock (may_work rfl) (may_packs rfl) (may_orders_of_work rfl) (may_rest hu) _
  | releasePack => exact claims_serve may_port fun _ _ => claim_releasePackBlock (may_packs rfl) _ _
  | scrapPack => exact claims_serve may_port fun _ _ => claim_scrapPackBlock (may_packs rfl) _
  | clearWetted => exact claims_serve may_port fun _ _ => claim_clearWettedBlock (may_packs rfl) _ _
  | findOldest => exact claims_serve may_port fun _ _ => claim_findOldestBlock _ _
  | checkIn => exact claims_serve may_port fun _ _ => claim_checkInBlock (may_orders rfl) _ _ _ _ _
  | readOrder => exact claims_serve may_port fun _ _ => claim_readOrderBlock _ _
  | setPoint => exact claims_serve may_port fun _ _ => claim_setPointBlock (may_orders rfl) _ _
  | setLevel => exact claims_serve may_port fun _ _ => claim_setLevelBlock (may_orders rfl) _ _
  | cancel =>
    exact claims_serve may_port fun _ hu =>
      claim_endOrderBlock (may_work rfl) (may_packs rfl) (may_orders_of_work rfl) (may_rest hu) (fun h u => work_unconfirmLoaded (may_packs rfl) h u) _
  | depart =>
    exact claims_serve may_port fun _ hu =>
      claim_endOrderBlock (may_work rfl) (may_packs rfl) (may_orders_of_work rfl) (may_rest hu) (fun h u => work_departLoaded (may_packs rfl) h u) _
  | confirmProposal =>
    exact claims_serve may_port fun _ hu => claim_confirmProposalBlock (may_work rfl) (may_packs rfl) (may_orders_of_work rfl) (may_rest hu) _ _
  | rejectProposal => exact claims_serve may_port fun _ _ => claim_rejectProposalBlock (may_orders rfl) _ _
  | goOnShift => exact claims_serve may_port fun _ _ => claim_goOnShiftBlock (may_work rfl) _ _
  | goOffShift => exact claims_serve may_port fun _ _ => claim_goOffShiftBlock (may_work rfl) _
  | pollTask => exact claims_serve may_port fun _ _ => claim_pollTaskBlock (may_work rfl) _
  | accept => exact claims_serve may_port fun _ hu => claim_acceptBlock (may_work rfl) (may_rest hu) _ _
  | decline => exact claims_serve may_port fun _ hu => claim_declineBlock (may_work rfl) (may_rest hu) _ _
  | lifted => exact claims_serve may_port fun _ hu => claim_liftedBlock (may_work rfl) (may_packs rfl) (may_rest hu) _ _
  | dropped => exact claims_serve may_port fun _ hu => claim_droppedBlock (may_work rfl) (may_packs rfl) (may_orders_of_work rfl) (may_rest hu) _ _
  | reportMissing =>
    exact claims_serve may_port fun _ hu => claim_reportMissingBlock (may_work rfl) (may_packs rfl) (may_orders_of_work rfl) (may_rest hu) _
  | reportPosition => exact claims_serve may_port fun _ _ => claim_reportPositionBlock (may_work rfl) _ _
  | setWatch => exact claims_serve may_port fun _ _ => claim_setWatchBlock _ _ _ _ _
  | readWatch => exact claims_serve may_port fun _ _ => claim_readWatchBlock _
  | clearWatch => exact claims_serve may_port fun _ _ => claim_clearWatchBlock _
  | restart => exact claims_serve may_port fun _ _ => claim_restartBlock
  | requestPeriod => exact claims_requestPeriod (may_work rfl) (may_orders_of_work rfl) may_port _ _ s
  | readPeriod => exact claims_readPeriod (may_work rfl) (may_orders_of_work rfl) may_port _ _ _ s
  | powerOn => exact claims_powerOn (may_work rfl) (may_orders_of_work rfl) may_port _ _ s
  | resetPin => exact claims_resetPin (may_work rfl) (may_orders_of_work rfl) may_port _ s
  | partStop => exact claims_partStop (may_settings rfl) (may_packs rfl) _ _ _ s
  | startupCheckEnd => exact claims_startupCheckEnd (may_settings rfl) (may_packs rfl) may_port _ s
  | supplyDip => exact claims_supplyDip s
  | supplyRecovery => exact claims_supplyRecovery (may_work rfl) (may_packs rfl) (may_orders_of_work rfl) (may_rest id)
  | pinChange => exact claims_pinChange _ _ s
  | debounceExpiry => exact claims_debounceExpiry _ s
  | wettingSweepStack => exact claims_wettingSweepStack (may_work rfl) (may_packs rfl) (may_orders_of_work rfl) (may_rest id)
  | scanStart => exact claims_scanStart s
  | firstPassVisit => exact claims_visit .first _ s
  | secondPassVisit => exact claims_visit .second _ s
  | passEnd => exact claims_passEnd (may_work rfl) (may_packs rfl) (may_orders_of_work rfl) (may_rest id)
  | taskOffer => exact claims_taskOffer (may_work rfl) (may_rest id)
  | offerLapse => exact claims_offerLapse (may_work rfl) (may_rest id) _
  | taskLapse => exact claims_taskLapse (may_work rfl) (may_rest id) _
  | carryOverdue => exact claims_carryOverdue (may_work rfl) _ s
  | proposalExpiry => exact claims_proposalExpiry (may_orders rfl) _ s

end Sys2Proof.Proofs
end

section
/-!
PROOFS. The statements on every step, read off from the claims of the commands: totality, the attention pin (R166), a
closed yard (R155, R157), unique records within capacity (R32, R33, R60, R117), the queue (R62), the stacks (R35), and
which commands may change what.
-/

namespace Sys2Proof.Proofs

open Sys2Proof.Machine Sys2Proof.Safety

/-! ## A step is a claim -/

theorem orderOk_tick {o : Order} (h : orderOk o) : orderOk o.tick := by
  obtain ⟨hl, hm, hr, hd, hp⟩ := h
  refine ⟨hl, hm, hr, hd, fun pr hpr => ?_⟩
  obtain ⟨pr0, h0, rfl⟩ := Option.map_eq_some_iff.mp hpr
  exact hp pr0 h0

theorem claim_tick {A : Part → Prop} (hA : A .work) (hC : A .orders) (s : State) : Claim A s (tick s) := by
  unfold tick
  split_ifs
  · exact (Change.orders s (fun _ o => o.tick) hC (fun _ _ => rfl) fun _ _ _ h => orderOk_tick h).toClaim.trans
      (claim_aside (by constructor <;> simp))
  · exact ((Change.tasks s Task.tick hA).toClaim.trans
      (Change.orders _ (fun _ o => o.tick) hC (fun _ _ => rfl) fun _ _ _ h => orderOk_tick h).toClaim).trans
      (claim_aside (by constructor <;> simp))
  · exact .refl

/-- A step is a claim, from a state that differs in the queue of commands alone; it owes law 10 what it found. -/
theorem step_claim {s t : State} (h : step s = .next t) :
    ∃ A q, (closedLaw s → ¬ A .rest) ∧ Claim A { s with pending := q } t := by
  unfold step at h
  split at h
  · cases h
    exact ⟨fun p => p ≠ .rest, s.pending, fun _ hr => hr rfl, claim_tick nofun nofun s⟩
  · rename_i c rest hq
    obtain ⟨u, hu, hc⟩ := exec_claims c { s with pending := rest }
    rw [hu] at h
    cases h
    exact ⟨_, rest, fun hs hr => hr hs, hc⟩

/-- A step is a chain of elementary changes, so it keeps what each of them keeps. -/
theorem step_keeps {P : State → Prop} (hq : ∀ s q, P s → P { s with pending := q })
    (hP : ∀ A q s t, Change A q s t → P s → P t) {s t : State} (h : step s = .next t) (hs : P s) : P t := by
  obtain ⟨A, q, -, hc⟩ := step_claim h
  exact hc.toWork.keeps (hP A) (hq s q hs)

/-! ## Totality -/

theorem Claim.pending {A : Part → Prop} {s t : State} (h : Claim A s t) : t.pending = s.pending :=
  h.toWork.keeps (P := fun u => u.pending = s.pending) (fun _ _ _ hc hs => hc.pending.trans hs) rfl

/-- Settles O5: every command is a claim, and a claim leaves the queue. -/
theorem everyCommandAnswersANextState : Obligations.EveryCommandAnswersANextState := fun c s =>
  have ⟨t, ht, hc⟩ := exec_claims c s
  ⟨t, ht, hc.pending⟩

/-! ## The attention pin (R166) -/

/-- Settles O6: each elementary change drives the pin with the summary or leaves both. -/
theorem theAttentionPinFollowsTheSummary : Obligations.TheAttentionPinFollowsTheSummary := by
  refine ⟨fun s t hs h => step_keeps (fun _ _ => id) (fun _ _ _ _ hc => hc.attnLaw) h hs, fun k s => ⟨?_, rfl⟩⟩
  cases k <;> rfl

/-! ## A closed yard (R155, R157) -/

/-- A claim leaves no yard CLOSING at rest: its quiet changes keep that, and its judgements restore it. -/
theorem Claim.closingLaw {A : Part → Prop} {s t : State} (h : Claim A s t) (hs : closingLaw s) : closingLaw t := by
  induction h with
  | refl => exact hs
  | step _ hc ih => exact hc.closingLaw ih
  | judge _ _ _ _ => exact closingLaw_judgeClosing _

/-- Settles O7: each elementary change keeps law 10, and a claim that retires anything ends with the judgement. -/
theorem aClosedYardIsAtRest : Obligations.AClosedYardIsAtRest := by
  intro s t hs hs' h
  obtain ⟨A, q, hrest, hc⟩ := step_claim h
  exact ⟨hc.toWork.keeps (fun _ _ _ hch => hch.closedLaw (hrest hs)) hs, hc.closingLaw hs'⟩

/-! ## Unique records within capacity -/

/-- Settles O8: each elementary change keeps the three laws, each on its own. -/
theorem recordsStayUniqueAndWithinCapacity : Obligations.RecordsStayUniqueAndWithinCapacity :=
  fun _ _ hk hc hs h =>
    ⟨step_keeps (fun _ _ => id) (fun _ _ _ _ hch => hch.keyLaw) h hk,
      step_keeps (fun _ _ => id) (fun _ _ _ _ hch => hch.capacityLaw) h hc,
      step_keeps (fun _ _ => id) (fun _ _ _ _ hch => hch.sizeLaw) h hs⟩

/-! ## The limits of orders -/

/-- Every step keeps the limits of every order (R66, R67, R71, R72). -/
theorem step_keeps_orderLaw {s t : State} (hk : keyLaw s) (ho : orderLaw s) (h : step s = .next t) : orderLaw t :=
  (step_keeps (P := fun u => keyLaw u ∧ orderLaw u) (fun _ _ => id)
    (fun _ _ _ _ hc hs => ⟨hc.keyLaw hs.1, hc.orderLaw hs.1.2 hs.2⟩) h ⟨hk, ho⟩).2

/-! ## The queue (R62) -/

/-- Settles O10: each elementary change keeps the queue's law; the position is the place in the queue. -/
theorem theQueueHoldsEveryOrderByLevel : Obligations.TheQueueHoldsEveryOrderByLevel := by
  refine ⟨fun s t _ _ hq h => step_keeps (fun _ _ => id) (fun _ _ _ _ hc => hc.queueLaw) h hq, fun h s =>
    ⟨fun o ho => ?_, fun front back hsplit hfront => queuePosition_of_split hsplit hfront⟩⟩
  rw [levelOf, State.order, ho]

/-! ## Stacks (R35) -/

/-- Law 2 reads the yard map and the pack records alone. -/
theorem stackLaw_congr {s t : State} (hy : t.yardMap = s.yardMap) (hp : t.packs = s.packs) (h : stackLaw s) :
    stackLaw t := by
  have e : stackLaw { s with yardMap := t.yardMap, packs := t.packs } = stackLaw t := rfl
  rw [← e, hy, hp]
  exact h

theorem Change.stackLaw {A : Part → Prop} {q : Bool} {s t : State} (hc : Change A q s t)
    (hr : Table.rising s.packs) (h : stackLaw s) : stackLaw t := by
  cases hc with
  | aside hs | exchange hs => exact stackLaw_congr hs.yardMap hs.packs h
  | settings _ _ _ _ _ _ _ hstack => exact hstack h
  | packs _ _ _ _ _ hstack => exact hstack hr h
  | judged =>
    obtain ⟨-, ey, -, ep, -⟩ := judgeClosing_same s
    exact stackLaw_congr ey ep h
  | _ => exact stackLaw_congr rfl rfl h

theorem Change.rising_packs {A : Part → Prop} {q : Bool} {s t : State} (hc : Change A q s t)
    (hr : Table.rising s.packs) : Table.rising t.packs := by
  cases hc with
  | aside hs | exchange hs => rw [hs.packs]; exact hr
  | packs _ _ _ hrising => exact hrising hr
  | judged => rw [(judgeClosing_same s).2.2.2.1]; exact hr
  | _ => exact hr

/-- Settles O11: each elementary change keeps law 2, by where the tags stand; and with tiers without a gap the Yard
Map's answers are read off the stack lists. -/
theorem stacksKeepTheirTiersWithoutAGap : Obligations.StacksKeepTheirTiersWithoutAGap := by
  refine ⟨fun s t hr hs h => ?_, fun s hr ht => ⟨fun tag => ⟨tierLaw_removeFromStack hr ht tag,
    fun b k f => tierLaw_putDown hr ht b k tag f⟩, fun b k => ⟨stackIs_stackList ht b k, rfl, rfl,
    holdsReserved_iff s b k, fun below e rest hsplit => ?_⟩⟩⟩
  · exact (step_keeps (P := fun u => Table.rising u.packs ∧ stackLaw u) (fun _ _ => id)
      (fun _ _ _ _ hc hu => ⟨hc.rising_packs hu.1, hc.stackLaw hu.1 hu.2⟩) h ⟨hr, hs⟩).2
  · have habove := packsAbove_of_split hr ht hsplit
    exact ⟨habove, by rw [dig, habove], by rw [movingAbove_iff, habove]⟩

/-! ## Which commands may change what -/

section
variable {A : Part → Prop} {q : Bool} {s t : State}

/-- The yard map, the products and the settings of two states are the same. -/
def SameSettings (s t : State) : Prop :=
  t.yardMap = s.yardMap ∧ t.products = s.products ∧ t.settings = s.settings ∧ t.lineSettings = s.lineSettings

theorem Change.sameSettings (hA : ¬ A .settings) (hc : Change A q s t) : SameSettings s t := by
  cases hc with
  | aside hs | exchange hs => exact ⟨hs.yardMap, hs.products, hs.settings, hs.lineSettings⟩
  | settings _ _ _ _ _ hS => exact absurd hS hA
  | judged =>
    obtain ⟨-, ey, eps, -, est, els, -⟩ := judgeClosing_same s
    exact ⟨ey, eps, est, els⟩
  | _ => exact ⟨rfl, rfl, rfl, rfl⟩

theorem Change.samePacks (hA : ¬ A .packs) (hc : Change A q s t) : t.packs = s.packs := by
  cases hc with
  | aside hs | exchange hs => exact hs.packs
  | packs _ _ hB => exact absurd hB hA
  | judged => exact (judgeClosing_same s).2.2.2.1
  | _ => rfl

theorem Change.sameWork (hA : ¬ A .work) (hc : Change A q s t) : t.tasks = s.tasks ∧ t.stations = s.stations := by
  cases hc with
  | aside hs | exchange hs => exact ⟨hs.tasks, hs.stations⟩
  | tasks _ _ hW => exact absurd hW hA
  | newTask _ _ hW => exact absurd hW hA
  | endTask _ _ hW => exact absurd hW hA
  | stations _ _ hW => exact absurd hW hA
  | judged _ hW => exact absurd hW hA
  | reset _ _ _ hW => exact absurd hW hA
  | _ => exact ⟨rfl, rfl⟩

/-- The order table with every STARVED flag clear. -/
def unflagged (t : Table Order) : Table Order := t.map fun e => (e.1, e.2.unstarved)

theorem unstarved_unstarved (o : Order) : o.unstarved.unstarved = o.unstarved := by
  simp [Order.unstarved, Function.comp_def]

theorem Change.sameOrders (hA : ¬ A .orders) (hW : ¬ A .work) (hc : Change A q s t) :
    t.queue = s.queue ∧ unflagged t.orders = unflagged s.orders := by
  cases hc with
  | aside hs | exchange hs => exact ⟨hs.queue, by rw [hs.orders]⟩
  | flags =>
    have hu : unflagged (Table.change s.orders fun _ o => o.unstarved) = unflagged s.orders := by
      simp [unflagged, Table.change, unstarved_unstarved]
    exact ⟨rfl, hu⟩
  | orders _ _ hC => exact absurd hC hA
  | newOrder _ _ _ hC => exact absurd hC hA
  | relevel _ _ _ hC => exact absurd hC hA
  | endOrder _ _ hC => exact absurd hC hA
  | judged _ hJ => exact absurd hJ hW
  | reset _ _ _ hJ => exact absurd hJ hW
  | _ => exact ⟨rfl, rfl⟩

end

/-- What each elementary change of a command leaves, the command leaves. -/
theorem exec_keeps {P : State → Prop} {c : Instr} {s t : State} (hP : ∀ q u v, Change (may c s) q u v → P u → P v)
    (h : exec c s = .next t) (hs : P s) : P t := by
  obtain ⟨u, hu, hc⟩ := exec_claims c s
  rw [hu] at h
  cases h
  exact hc.toWork.keeps hP hs

/-- Settles O19: an elementary change of the settings or of the pack records needs its permission. -/
theorem onlyTheirWritersChangeTheTables : Obligations.OnlyTheirWritersChangeTheTables := by
  intro c s t h
  refine ⟨fun hc => ?_, fun hc => ?_⟩
  · have hA : ¬ may c s .settings := by simp [may, hc]
    refine exec_keeps (P := SameSettings s) (fun q u v hch hu => ?_) h ⟨rfl, rfl, rfl, rfl⟩
    obtain ⟨h1, h2, h3, h4⟩ := hch.sameSettings hA
    obtain ⟨g1, g2, g3, g4⟩ := hu
    exact ⟨h1.trans g1, h2.trans g2, h3.trans g3, h4.trans g4⟩
  · have hA : ¬ may c s .packs := by simp [may, hc]
    exact exec_keeps (P := fun u => u.packs = s.packs) (fun q u v hch hu => (hch.samePacks hA).trans hu) h rfl

/-- Settles O20: an elementary change of the work, or of an order beyond its flags, needs its permission. -/
theorem onlyTheirMoversChangeTheWork : Obligations.OnlyTheirMoversChangeTheWork := by
  intro c s t hc h
  have hW : ¬ may c s .work := by simp [may, hc]
  have hwork : t.tasks = s.tasks ∧ t.stations = s.stations :=
    exec_keeps (P := fun u => u.tasks = s.tasks ∧ u.stations = s.stations)
      (fun q u v hch hu => ⟨(hch.sameWork hW).1.trans hu.1, (hch.sameWork hW).2.trans hu.2⟩) h ⟨rfl, rfl⟩
  refine ⟨hwork.1, hwork.2, fun ho => ?_⟩
  have hA : ¬ may c s .orders := by simp [may, hc, ho]
  exact exec_keeps (P := fun u => u.queue = s.queue ∧ unflagged u.orders = unflagged s.orders)
    (fun q u v hch hu => ⟨(hch.sameOrders hA hW).1.trans hu.1, (hch.sameOrders hA hW).2.trans hu.2⟩) h ⟨rfl, rfl⟩

end Sys2Proof.Proofs
end

section
/-!
PROOFS. The state after reset and the form of a step: the reset values (R16, R29, R56, R142, R159, R164, R180, R184), the
laws after reset, the front of the queue and the tick (R135, R145, R150).
-/

namespace Sys2Proof.Proofs

open Sys2Proof.Machine Sys2Proof.Safety

/-! ## The state after reset -/

/-- Settles O1: each record by computation, and the summary kind by kind. -/
theorem resetLeavesEveryRecordAtItsResetValue : Obligations.ResetLeavesEveryRecordAtItsResetValue := by
  have hholds : ∀ k, State.reset.holds k = decide (k = .restarted ∨ k = .storeLost) := by
    intro k
    cases k <;> rfl
  exact ⟨rfl, rfl, rfl, rfl, rfl, rfl, rfl, rfl, rfl, rfl, rfl, rfl, rfl, rfl, rfl, rfl, rfl, rfl, rfl, hholds, rfl,
    rfl, rfl, rfl, rfl, rfl, rfl, rfl, rfl, rfl, rfl, rfl, rfl, rfl, rfl, rfl, rfl, rfl⟩

theorem stackList_of_no_packs {s : State} (h : s.packs = []) (b k : Nat) : stackList s b k = [] := by
  simp [stackList, h, sortBy]

theorem bay_reset_tierLimit (b : Nat) : (State.reset.bay b).tierLimit = 6 := by
  have hbay : State.reset.bay b = (((List.range 64).map Bay.default)[b]?).getD (Bay.default b) := rfl
  rw [hbay]
  by_cases hb : b < 64 <;> simp [hb, Bay.default]

theorem stackLaw_reset : stackLaw State.reset := by
  have hempty : ∀ b k, stackList State.reset b k = [] := stackList_of_no_packs rfl
  have hlow : ∀ b k, height State.reset b k = 0 := fun b k => by simp [height, hempty]
  exact ⟨fun b k => by simp [hempty, hlow], fun b => (bay_reset_tierLimit b).le,
    fun b k => by simp [hlow], fun _ he => nomatch he⟩

theorem station_reset {n : Nat} {st : Station} (h : State.reset.station n = some st) : st = Station.default := by
  have hmem : st ∈ List.replicate 8 Station.default := mem_of_nth h
  exact (List.mem_replicate.mp hmem).2

/-- With no pack, task or order the records name nothing; every station is OFF_SHIFT. -/
theorem workLaw_reset : workLaw State.reset := by
  have hstation : ∀ n st, State.reset.station n = some st → stationAgrees State.reset n st := by
    intro n st hst
    rw [station_reset hst]
    exact ⟨iff_of_true rfl rfl, fun _ => nofun, nofun, nofun⟩
  have hplaces : placeLaw State.reset := nofun
  have hstations : stationLaw State.reset := ⟨nofun, nofun, fun n _ => hstation n⟩
  have hlinks : linkLaw State.reset := ⟨List.nodup_nil, nofun, nofun⟩
  have hdigs : digLaw State.reset := ⟨nofun, nofun, nofun⟩
  have hcounts : countLaw State.reset := ⟨nofun, nofun⟩
  exact ⟨hplaces, hstations, nofun, nofun, fun _ => ⟨hlinks, hdigs, hcounts⟩⟩

theorem sizeLaw_reset : sizeLaw State.reset := by
  refine ⟨List.length_map .., rfl, List.length_replicate, rfl, rfl, rfl, rfl, ?_⟩
  intro p (hp : p ∈ List.replicate 256 Product.default)
  rw [(List.mem_replicate.mp hp).2]
  exact Nat.zero_le _

/-- Settles O2: the tables of fixed size are computed, and every other record is empty. -/
theorem theLawsHoldAfterReset : Obligations.TheLawsHoldAfterReset := by
  have hclosed : ∀ st ∈ State.reset.stations, st.state = .offShift := by
    intro st (hst : st ∈ List.replicate 8 Station.default)
    rw [(List.mem_replicate.mp hst).2]
    rfl
  exact ⟨rfl, fun _ => ⟨rfl, rfl, hclosed⟩, nofun, ⟨.nil, .nil⟩, ⟨by decide, by decide, by decide⟩, nofun,
    ⟨.nil, fun _ => .rfl, .nil⟩, sizeLaw_reset, stackLaw_reset, workLaw_reset⟩

/-! ## The step -/

/-- Settles O3: the match of `step` on a queue that is not empty. -/
theorem aStepRunsTheFrontCommand : Obligations.AStepRunsTheFrontCommand := fun _ _ _ => rfl

/-- Settles O4: the branches of `tick` on a running part and on the halt. -/
theorem anEmptyQueueIsATick : Obligations.AnEmptyQueueIsATick := by
  intro s hq
  have hstep : step s = .next (tick s) := by simp [step, hq]
  rw [hstep]
  refine ⟨fun hrun => ?_, fun hstop => ?_⟩
  · rw [tick, if_pos hrun]
    rfl
  · rw [tick, if_neg (by simp [hstop])]

end Sys2Proof.Proofs
end

section
/-!
PROOFS. What a request answers where its owning block takes it, and families 1 and 7: RESTART (R179), the reading and
the writing forms of the yard requests (R15, R90, R94, R141, R146, R197), and SET_BAY (R12, R13, R153).
-/

namespace Sys2Proof.Proofs

open Sys2Proof.Machine Sys2Proof.Safety

/-! ## A request at its owning block (R172 step 4) -/

/-- The request is served by the block, its station field is one R172 allows, and its response is not marked. -/
def Serves (c : Instr) (block : State → Answer) : Prop :=
  (∀ s, exec c s = serve c block s) ∧ c ≠ .restart ∧
    stationAllowed (familyOf c.requestCode) c.stationField = true

section
variable {c : Instr} {block : State → Answer} {s t : State} {reply : List Byte} {status : Status}

/-- A request outside family 5 names no station. -/
theorem serves_plain (code : Nat) (he : ∀ s, exec c s = serve c block s) (hr : c ≠ .restart)
    (hc : c.requestCode = code) (hn : c.stationField = 0) (h5 : code / 16 ≠ 5) : Serves c block :=
  ⟨he, hr, allowed_plain code hc hn h5⟩

/-- A request of family 5 names its sender. -/
theorem serves_station (code : Nat) {n : Nat} (h1 : 1 ≤ n) (h8 : n ≤ 8) (he : ∀ s, exec c s = serve c block s)
    (hr : c ≠ .restart) (hc : c.requestCode = code) (hn : c.stationField = n) (h5 : code / 16 = 5) : Serves c block :=
  ⟨he, hr, allowed_station code hc hn h5 h1 h8⟩

theorem Serves.ok (h : Serves c block) (hs : atBlock c s) (hb : block s = taken reply t) :
    exec c s = okWith c reply t :=
  (h.1 s).trans (serve_taken h.2.1 hs h.2.2 hb)

theorem Serves.refused (h : Serves c block) (hs : atBlock c s) (hn : status ≠ .ok) (hb : block s = refuse status t) :
    exec c s = refusedWith c status t :=
  (h.1 s).trans (serve_refused hn hs h.2.2 hb)

end

theorem low_of_sound {s : State} (h : s.supply = .sound) : s.low = false := by simp [State.low, h]

theorem low_of_low {s : State} (h : s.supply = .low) : s.low = true := by simp [State.low, h]

/-! ## RESTART (R179) -/

theorem restart_allowed : stationAllowed (familyOf Instr.restart.requestCode) Instr.restart.stationField = true :=
  allowed_plain 0x70 rfl rfl (by decide)

/-- Settles O23: RESTART is the one request whose response is marked. -/
theorem restartMarksItsResponse : Obligations.RestartMarksItsResponse := by
  intro s hs
  have hserve : exec .restart s = .next (respond .restart (restartBlock s)) :=
    serve_of_atBlock restartBlock hs restart_allowed
  refine ⟨fun hsound => ?_, fun hlow => ?_⟩
  · rw [hserve, restartBlock, low_of_sound hsound]
    rfl
  · rw [hserve, restartBlock, low_of_low hlow]
    rfl

/-! ## Which block serves a yard request -/

theorem serves_setBay (bay row col stackCount tierLimit : Nat) (enabled covered : Bool) :
    Serves (.setBay bay enabled covered row col stackCount tierLimit)
      (setBayBlock bay enabled covered row col stackCount tierLimit) :=
  serves_plain 0x10 (fun _ => rfl) nofun rfl rfl (by decide)

theorem serves_setLoadingPoint (w : Option PointWrite) : Serves (.setLoadingPoint w) (setLoadingPointBlock w) :=
  serves_plain 0x12 (fun _ => rfl) nofun rfl rfl (by decide)

theorem serves_setLine (w : Option LineWrite) : Serves (.setLine w) (setLineBlock w) :=
  serves_plain 0x13 (fun _ => rfl) nofun rfl rfl (by decide)

theorem serves_setTimers (w : Option TimerSettings) : Serves (.setTimers w) (setTimersBlock w) :=
  serves_plain 0x14 (fun _ => rfl) nofun rfl rfl (by decide)

theorem serves_setWeights (w : Option Weights) : Serves (.setWeights w) (setWeightsBlock w) :=
  serves_plain 0x15 (fun _ => rfl) nofun rfl rfl (by decide)

theorem serves_setDay (d : Option Nat) : Serves (.setDay d) (setDayBlock d) :=
  serves_plain 0x16 (fun _ => rfl) nofun rfl rfl (by decide)

theorem serves_closeYard : Serves .closeYard closeYardBlock :=
  serves_plain 0x17 (fun _ => rfl) nofun rfl rfl (by decide)

theorem serves_openYard : Serves .openYard openYardBlock :=
  serves_plain 0x18 (fun _ => rfl) nofun rfl rfl (by decide)

/-! ## The reading forms -/

/-- A loading point that the yard map lists has the listed record (R3). -/
theorem pointAt_of_getElem? {s : State} {n : Nat} {p : Point} (h : s.yardMap.points[n]? = some p) :
    s.pointAt (n + 1) = p := by
  simp [State.pointAt, nth, h]

/-- Settles O25: without a record to write each block answers its reply. -/
theorem yardReadsChangeNothing : Obligations.YardReadsChangeNothing := fun _ =>
  ⟨fun _ _ => pointAt_of_getElem?, rfl, rfl,
    fun hs => (serves_setLoadingPoint none).ok hs rfl, fun hs => (serves_setLine none).ok hs rfl,
    fun hs => (serves_setTimers none).ok hs rfl, fun hs => (serves_setWeights none).ok hs rfl,
    fun hs => (serves_setDay none).ok hs rfl⟩

/-! ## SET_BAY (R12, R13) -/

theorem bayHoldsPack_iff (s : State) (b : Nat) : bayHoldsPack s b = true ↔ ∃ e ∈ s.packs, e.2.inBay b = true :=
  List.any_eq_true

theorem bayHoldsPack_eq_false_iff (s : State) (b : Nat) :
    bayHoldsPack s b = false ↔ ∀ e ∈ s.packs, e.2.inBay b = false := by
  simp [bayHoldsPack]

theorem placeTaken_iff (s : State) (b row col : Nat) :
    placeTaken s b row col = true ↔
      ∃ n, n < 64 ∧ n ≠ b ∧ (s.bay n).enabled = true ∧ (s.bay n).row = row ∧ (s.bay n).col = col := by
  simp [placeTaken, Config.bayCount, and_assoc]

@[simp] theorem bay_clearStarved (s : State) (b : Nat) : (clearStarved s).bay b = s.bay b := by
  rw [clearStarved_eq]
  rfl

theorem bay_writeBay_self {b : Nat} (e : Bay) {s : State} (h : b < s.yardMap.bays.length) :
    (writeBay b e s).bay b = e := by
  simp [writeBay, State.bay, List.getD, h]

section
variable {bay row col stackCount tierLimit : Nat} {enabled covered : Bool} {s : State}

/-- With its fields in range and the supply sound, SET_BAY judges the geometry and then the place (R12). -/
theorem setBayBlock_inRange (hfields : bayFieldsOk bay row col stackCount tierLimit) (hsupply : s.supply = .sound) :
    setBayBlock bay enabled covered row col stackCount tierLimit s =
      if (s.bay bay).sameGeometry row col stackCount tierLimit = false ∧ s.mode ≠ .closed then refuse .mode s
      else if (s.bay bay).sameGeometry row col stackCount tierLimit = false ∧ bayHoldsPack s bay = true then
        refuse .inUse s
      else if enabled = true ∧ placeTaken s bay row col = true then refuse .duplicate s
      else taken [] (applyBay bay ⟨enabled, covered, row, col, stackCount, tierLimit⟩ s) := by
  rw [setBayBlock, if_neg (not_not_intro hfields), low_of_sound hsupply]
  rfl

/-- With the geometry as it was, or a closed yard and an empty bay, the place alone decides (R12). -/
theorem setBayBlock_free (hfields : bayFieldsOk bay row col stackCount tierLimit) (hsupply : s.supply = .sound)
    (hfree : (s.bay bay).sameGeometry row col stackCount tierLimit = true ∨
      (s.mode = .closed ∧ bayHoldsPack s bay = false)) :
    setBayBlock bay enabled covered row col stackCount tierLimit s =
      if enabled = true ∧ placeTaken s bay row col = true then refuse .duplicate s
      else taken [] (applyBay bay ⟨enabled, covered, row, col, stackCount, tierLimit⟩ s) := by
  rw [setBayBlock_inRange hfields hsupply]
  rcases hfree with hsame | ⟨hmode, hempty⟩
  · simp [hsame]
  · simp [hmode, hempty]

end

/-- A bay that stays covered, or stays uncovered, or is uncovered in the dry, wets nothing (R153). -/
theorem applyBay_dry {b : Nat} {e : Bay} {s : State}
    (h : (s.bay b).covered = false ∨ e.covered = true ∨ s.raining = false) :
    applyBay b e s = clearStarved (writeBay b e s) := by
  refine if_neg ?_
  rintro ⟨h1, h2, h3⟩
  simp [h1, h2, h3] at h

/-- A bay uncovered in the rain is wetted stack by stack (R153). -/
theorem applyBay_wet {b : Nat} {e : Bay} {s : State} (hb : b < s.yardMap.bays.length)
    (h1 : (s.bay b).covered = true) (h2 : e.covered = false) (h3 : s.raining = true) :
    applyBay b e s = (List.range e.stackCount).foldl (fun v k => wetStack v b k) (clearStarved (writeBay b e s)) := by
  rw [applyBay, if_pos ⟨h1, h2, h3⟩, wetBay, bay_clearStarved, bay_writeBay_self e hb]

/-- Settles O26: the checks of SET_BAY in their order, and the wetting of a bay uncovered in the rain. -/
theorem setBayWritesTheEntry : Obligations.SetBayWritesTheEntry := by
  intro bay row col stackCount tierLimit enabled covered same taken s c hc hs
  subst hc
  have hserves := serves_setBay bay row col stackCount tierLimit enabled covered
  refine ⟨fun hbad => hserves.refused hs (by decide) (if_pos (by simp only [bayFieldsOk, inRange]; omega)), ?_⟩
  intro ⟨hbay, hrow, hcol, hn1, hn8, ht1, ht6⟩ hsupply hsame htaken
  have hfields : bayFieldsOk bay row col stackCount tierLimit := ⟨hbay, hrow, hcol, ⟨hn1, hn8⟩, ht1, ht6⟩
  have hgeom : (s.bay bay).sameGeometry row col stackCount tierLimit = same := hsame.symm
  have hplace : taken = true ↔ enabled = true ∧ placeTaken s bay row col = true := by
    rw [htaken, placeTaken_iff]
  refine ⟨fun hdiff hmode => ?_, fun hdiff hmode hheld => ?_, fun hfree => ?_⟩
  · refine hserves.refused hs (by decide) ?_
    rw [setBayBlock_inRange hfields hsupply, if_pos ⟨hgeom.trans hdiff, hmode⟩]
  · refine hserves.refused hs (by decide) ?_
    rw [setBayBlock_inRange hfields hsupply, if_neg (fun h => h.2 hmode),
      if_pos ⟨hgeom.trans hdiff, (bayHoldsPack_iff s bay).mpr hheld⟩]
  · have hblock := setBayBlock_free (enabled := enabled) (covered := covered) hfields hsupply
      (hfree.imp hgeom.trans (And.imp_right (bayHoldsPack_eq_false_iff s bay).mpr))
    refine ⟨fun hdup => hserves.refused hs (by decide) (hblock.trans (if_pos (hplace.mp hdup))), ?_⟩
    intro u hnew hu
    rw [if_neg (mt hplace.mpr (by simp [hnew]))] at hblock
    subst hu
    refine ⟨fun hdry => hserves.ok hs (hblock.trans ?_), fun h1 h2 h3 hlen => hserves.ok hs (hblock.trans ?_)⟩
    · rw [applyBay_dry hdry]
      rfl
    · rw [applyBay_wet (by omega) h1 h2 h3]
      rfl

/-! ## The other writing forms (R15, R90, R94, R141) -/

section
variable {s : State}

theorem setLoadingPointBlock_inRange {w : PointWrite} (hw : pointWriteOk w) (hsupply : s.supply = .sound) :
    setLoadingPointBlock (some w) s =
      if s.pointAt w.point ≠ ⟨w.row, w.col⟩ ∧ s.mode ≠ .closed then refuse .mode s
      else taken (pointsReply (writePoint w s)) (writePoint w s) := by
  simp only [setLoadingPointBlock, low_of_sound hsupply]
  rw [if_neg (not_not_intro hw)]
  rfl

theorem setTimersBlock_inRange {w : TimerSettings} (hw : timersOk w) (hsupply : s.supply = .sound) :
    setTimersBlock (some w) s = taken (timersReply (writeTimers w s)) (writeTimers w s) := by
  simp only [setTimersBlock, low_of_sound hsupply]
  rw [if_neg (not_not_intro hw)]
  rfl

theorem setWeightsBlock_inRange {w : Weights} (hw : weightsOk w) (hsupply : s.supply = .sound) :
    setWeightsBlock (some w) s = taken (weightsReply (writeWeights w s)) (writeWeights w s) := by
  simp only [setWeightsBlock, low_of_sound hsupply]
  rw [if_neg (not_not_intro hw)]
  rfl

theorem setDayBlock_later {d : Nat} (hlow : s.settings.yardDay < d) (hhigh : d ≤ 65535) (hsupply : s.supply = .sound) :
    setDayBlock (some d) s = taken (be2 d) (clearStarved (writeDay d s)) := by
  simp only [setDayBlock, low_of_sound hsupply]
  rw [if_neg (by omega)]
  rfl

end

/-- A record of a loading point is its row and its column (R3). -/
theorem point_ne_iff (p : Point) (row col : Nat) : p ≠ ⟨row, col⟩ ↔ p.row ≠ row ∨ p.col ≠ col := by
  obtain ⟨r, c⟩ := p
  rw [ne_eq, Point.mk.injEq, not_and_or]

/-- Settles O27: the checks of each block in their order, and what each write leaves. -/
theorem yardWritesWriteWhatTheyCarry : Obligations.YardWritesWriteWhatTheyCarry := by
  refine ⟨fun s => ⟨fun w hs hbad => ?_, fun w hs hbad => ?_, fun w hs hbad => ?_, ?_⟩, fun s hsupply => ?_⟩
  · exact (serves_setLoadingPoint _).refused hs (by decide) (if_pos (by simp only [pointWriteOk, inRange]; omega))
  · exact (serves_setTimers _).refused hs (by decide) (if_pos (by simp only [timersOk, inRange]; omega))
  · exact (serves_setWeights _).refused hs (by decide) (if_pos (by simp only [weightsOk]; omega))
  · intro w hs hsupply h1 h4 hrow hcol hmode hplace
    refine (serves_setLoadingPoint _).refused hs (by decide) ?_
    rw [setLoadingPointBlock_inRange ⟨⟨h1, h4⟩, hrow, hcol⟩ hsupply, if_pos ⟨(point_ne_iff _ _ _).mpr hplace, hmode⟩]
  · refine ⟨clearStarved_eq s, ?_, ?_, ?_, ?_⟩
    · intro p row col d hs h1 h4 hrow hcol hplace u hu
      have hwrite : writePoint ⟨p, row, col, d⟩ s = u := by
        rw [hu, writePoint, changeNth, if_neg (Nat.pos_iff_ne_zero.mp h1)]
      have hstays : ¬ (s.pointAt p ≠ ⟨row, col⟩ ∧ s.mode ≠ .closed) := by
        rintro ⟨hne, hopen⟩
        rcases hplace with h | ⟨h, h'⟩
        · exact hopen h
        · exact ((point_ne_iff _ _ _).mp hne).elim (· h) (· h')
      refine (serves_setLoadingPoint _).ok hs ?_
      rw [setLoadingPointBlock_inRange ⟨⟨h1, h4⟩, hrow, hcol⟩ hsupply, if_neg hstays, hwrite]
    · intro a b c d hs ha ha' hb hb' hc hc' hd hd'
      exact (serves_setTimers _).ok hs
        (setTimersBlock_inRange ⟨⟨ha, ha'⟩, ⟨hb, hb'⟩, ⟨hc, hc'⟩, hd, hd'⟩ hsupply)
    · intro a b c d hs ha hb hc hd
      exact (serves_setWeights _).ok hs (setWeightsBlock_inRange ⟨ha, hb, hc, hd⟩ hsupply)
    · intro d hs hhigh
      refine ⟨fun hlater => (serves_setDay _).ok hs ?_, fun hpast => ?_⟩
      · rw [setDayBlock_later hlater hhigh hsupply, clearStarved_eq]
        rfl
      · exact (serves_setDay _).refused hs (by decide) (if_pos (Or.inl hpast))

end Sys2Proof.Proofs
end

section
/-!
PROOFS. Family 1, lines and yard modes: SET_LINE (R146), CLOSE_YARD and OPEN_YARD (R156) with the judgement of CLOSING
(R157), and CLEAR_YARD (R54).
-/

namespace Sys2Proof.Proofs

open Sys2Proof.Machine Sys2Proof.Safety

/-! ## SET_LINE (R146) -/

theorem setLineBlock_inRange {w : LineWrite} {s : State} (hw : lineWriteOk w) (hsupply : s.supply = .sound) :
    setLineBlock (some w) s = taken (linesReply (applyLine w s)) (applyLine w s) := by
  simp only [setLineBlock, low_of_sound hsupply]
  rw [if_neg (not_not_intro hw)]
  rfl

/-- Settles O28: the two branches of the write's effect on the line. -/
theorem setLineWritesAndJudgesTheLine : Obligations.SetLineWritesAndJudgesTheLine := by
  intro k w o s u hs
  have hserves := serves_setLine (some ⟨k, w, o⟩)
  refine ⟨fun hbad => hserves.refused hs (by decide) (if_pos ?_), fun hsupply hfields hu => ?_⟩
  · rintro ⟨hline, hsource, hdebounce, hstep, hmark⟩
    rcases hbad with h | h | h | h | ⟨h, hnone⟩ | ⟨h, hsome⟩
    · exact Nat.not_le.mpr h hline
    · exact Nat.not_le.mpr h hsource
    · exact Nat.not_le.mpr h hdebounce
    · exact h hstep
    · exact absurd (hmark.mp h) (by simp [hnone])
    · exact h (hmark.mpr (Option.isSome_iff_ne_none.mpr hsome))
  · subst hu
    have hblock := setLineBlock_inRange (w := ⟨k, w, o⟩) hfields hsupply
    refine ⟨fun hoff hactive t ht => ?_, fun hother t ht => ?_⟩
    · have happly : applyLine ⟨k, w, o⟩ s = t := by
        rw [ht, applyLine, if_pos ⟨hoff, hactive⟩]
        rfl
      rw [happly] at hblock
      exact hserves.ok hs hblock
    · have happly : applyLine ⟨k, w, o⟩ s = t := by
        rw [ht, applyLine, if_neg (by rintro ⟨h1, h2⟩; simp_all)]
        rfl
      rw [happly] at hblock
      exact hserves.ok hs hblock

/-! ## The judgement of CLOSING (R157) -/

theorem judgeClosing_stays {s : State} (h : s.mode ≠ .closing ∨ s.orders ≠ [] ∨ s.tasks ≠ []) :
    judgeClosing s = s := by
  refine if_neg ?_
  rintro ⟨hmode, horders, htasks⟩
  simp [hmode, horders, htasks] at h

theorem judgeClosing_reopens {s : State} (h : s.mode = .closing ∧ s.orders = [] ∧ s.tasks = [])
    (hgate : s.settings.autoOpen = true ∧ lineActive s 0 = true) :
    judgeClosing s = post .gateArrival { s with mode := .opened } := by
  rw [judgeClosing, if_pos h]
  exact if_pos hgate

theorem judgeClosing_closes {s : State} (h : s.mode = .closing ∧ s.orders = [] ∧ s.tasks = [])
    (hgate : s.settings.autoOpen = false ∨ lineActive s 0 = false) :
    judgeClosing s = post .yardClosed { s with mode := .closed, stations := s.stations.map Station.offShift } := by
  rw [judgeClosing, if_pos h]
  refine if_neg ?_
  rintro ⟨h1, h2 : lineActive s 0 = true⟩
  simp [h1, h2] at hgate

/-- The end of a claim is the judgement on the state as it was found, but for the watches and the attention unit. -/
theorem endClaim_cases (named : Option Nat) (before : Table Pack) (s : State) :
    ((s.mode ≠ .closing ∨ s.orders ≠ [] ∨ s.tasks ≠ []) → endClaim named before s = observe named before s) ∧
      (s.mode = .closing → s.orders = [] → s.tasks = [] → s.settings.autoOpen = true → lineActive s 0 = true →
        endClaim named before s = post .gateArrival { observe named before s with mode := .opened }) ∧
      (s.mode = .closing → s.orders = [] → s.tasks = [] → (s.settings.autoOpen = false ∨ lineActive s 0 = false) →
        endClaim named before s =
          post .yardClosed
            { observe named before s with mode := .closed, stations := s.stations.map Station.offShift }) := by
  obtain ⟨w, m, a, he⟩ := observe_frame named before s
  rw [endClaim, he]
  exact ⟨fun h => judgeClosing_stays (s := { s with watches := w, summary := m, attn := a }) h,
    fun h1 h2 h3 h4 h5 =>
      judgeClosing_reopens (s := { s with watches := w, summary := m, attn := a }) ⟨h1, h2, h3⟩ ⟨h4, h5⟩,
    fun h1 h2 h3 h4 =>
      judgeClosing_closes (s := { s with watches := w, summary := m, attn := a }) ⟨h1, h2, h3⟩ h4⟩

/-! ## CLOSE_YARD and OPEN_YARD (R156) -/

theorem closeYardBlock_stays {s : State} (h : s.mode ≠ .opened) :
    closeYardBlock s = taken [byte (yardModeNumber s.mode)] s := by
  rw [closeYardBlock, if_neg h]
  rfl

theorem closeYardBlock_open {s t : State} (h : s.mode = .opened) (ht : judgeClosing { s with mode := .closing } = t) :
    closeYardBlock s = taken [byte (yardModeNumber t.mode)] t := by
  rw [closeYardBlock, if_pos h, ht]
  rfl

/-- Settles O29: the branches of the judgement, at the end of a claim and in CLOSE_YARD. -/
theorem yardModesFollowTheirRequests : Obligations.YardModesFollowTheirRequests := by
  refine ⟨fun named before s u hu => ?_, fun s => ⟨fun hs => ?_, fun hs hmode => ?_, ?_, ?_, ?_⟩⟩
  · subst hu
    exact endClaim_cases named before s
  · exact serves_openYard.ok hs rfl
  · exact serves_closeYard.ok hs (closeYardBlock_stays hmode)
  · intro hs hmode hlive
    exact serves_closeYard.ok hs (closeYardBlock_open hmode (judgeClosing_stays (Or.inr hlive)))
  · intro hs hmode horders htasks hauto hgate
    have hback : { s with mode := .opened } = s := by rw [← hmode]
    have hjudged : judgeClosing { s with mode := .closing } = post .gateArrival s := by
      rw [judgeClosing_reopens (s := { s with mode := .closing }) ⟨rfl, horders, htasks⟩ ⟨hauto, hgate⟩]
      exact congrArg (post .gateArrival) hback
    refine serves_closeYard.ok hs ?_
    rw [closeYardBlock_open hmode hjudged, mode_post, hmode]
    rfl
  · intro hs hmode horders htasks hgate
    exact serves_closeYard.ok hs (closeYardBlock_open hmode (judgeClosing_closes ⟨rfl, horders, htasks⟩ hgate))

/-! ## CLEAR_YARD (R54) -/

/-- Where every record retires, the tags whose records differ are all the tags. -/
theorem changedTags_nil {packs : Table Pack} (h : Table.rising packs) : changedTags packs [] = packs.keys := by
  refine List.Perm.eq_of_pairwise (le := (· < ·)) (fun a b _ _ h1 h2 => absurd h1 (Nat.lt_asymm h2))
    (changedTags_pairwise packs []) (List.pairwise_map.mpr h) ?_
  refine (List.perm_ext_iff_of_nodup ((changedTags_pairwise packs []).imp Nat.ne_of_lt)
    ((List.pairwise_map.mpr h).imp Nat.ne_of_lt)).mpr fun n => ?_
  rw [mem_changedTags, Table.get_nil, Option.ne_none_iff_exists']
  exact mem_keys_iff_get.symm

/-- The comparisons of a claim that retires every record: one change for each, in order of tag (R162). -/
theorem observe_retired {packs : Table Pack} (h : Table.rising packs) {u : State} (hu : u.packs = []) :
    observe none packs u = packs.foldl (fun v e => observeChange e.1 (some e.2) none v) u := by
  rw [observe, hu, changedTags_nil h]
  show List.foldl _ u (packs.map Prod.fst) = _
  rw [List.foldl_map]
  refine List.foldl_ext _ _ _ fun v e he => ?_
  rw [Table.get_of_mem h he, Table.get_nil]

theorem clearYard_allowed :
    stationAllowed (familyOf Instr.clearYard.requestCode) Instr.clearYard.stationField = true :=
  allowed_plain 0x19 rfl rfl (by decide)

theorem exec_clearYard {s : State} (hs : atBlock .clearYard s) : exec .clearYard s = .next (takeClearYard s) :=
  congrArg _ (intake_of_atBlock takeClearYard hs)

/-- Settles O30: the checks of CLEAR_YARD, and its end. -/
theorem clearYardEmptiesThePackTable : Obligations.ClearYardEmptiesThePackTable := by
  intro s
  refine ⟨fun hs hsupply hmode => ?_, fun hs hsupply hmode => ?_, fun hstop hport hclearing u hu => ?_⟩
  · rw [exec_clearYard hs, takeClearYard, low_of_sound hsupply, if_neg (by decide), if_neg (not_not_intro hmode)]
    rfl
  · rw [exec_clearYard hs, takeClearYard, low_of_sound hsupply, if_neg (by decide), if_pos hmode,
      respond_refuse _ (by decide)]
    rfl
  · subst hu
    refine ⟨?_, fun hrising => observe_retired hrising rfl⟩
    have hrun : s.running = true := by simp [State.running, hstop, hport]
    show Host.Outcome.next _ = _
    rw [if_pos ⟨hrun, hclearing⟩, respond_taken (by decide)]
    rfl

end Sys2Proof.Proofs
end

section
/-!
PROOFS. Family 2: SET_PRODUCT with its pruning (R24, R25).
-/

namespace Sys2Proof.Proofs

open Sys2Proof.Machine Sys2Proof.Safety

theorem serves_setProduct (code : Nat) (defined : Bool) (f : ProductFields) :
    Serves (.setProduct code defined f) (setProductBlock code defined f) :=
  serves_plain 0x20 (fun _ => rfl) nofun rfl rfl (by decide)

section
variable {code : Nat} {defined : Bool} {f : ProductFields} {s : State}

/-- With its fields in range and the supply sound, SET_PRODUCT is refused for a product in use that it undefines. -/
theorem setProductBlock_inUse (hcode : codeOk code) (hf : defined = true → productFieldsOk f)
    (hsupply : s.supply = .sound)
    (huse : defined = false ∧ (s.product code).defined = true ∧ productInUse s code = true) :
    setProductBlock code defined f s = refuse .inUse s := by
  rw [setProductBlock, if_neg (by tauto), low_of_sound hsupply, if_neg (by decide), if_pos huse]

/-- Otherwise the entry is written and the listings it makes unsound are pruned. -/
theorem setProductBlock_writes (hcode : codeOk code) (hf : defined = true → productFieldsOk f)
    (hsupply : s.supply = .sound)
    (huse : ¬ (defined = false ∧ (s.product code).defined = true ∧ productInUse s code = true)) {t : State}
    (ht : t = writeProduct code (productEntry (s.product code) defined f) s) :
    setProductBlock code defined f s =
      taken (be2 (listings t.products - listings (prunedProducts t code))) (clearStarved (prune code t)) := by
  subst ht
  rw [setProductBlock, if_neg (by tauto), low_of_sound hsupply, if_neg (by decide), if_neg huse]

end

theorem length_prunedProducts (s : State) (code : Nat) : (prunedProducts s code).length = s.products.length := by
  simp [prunedProducts]

/-- Each entry keeps the listings that the change cannot reach and those that are sound (R25). -/
theorem prunedProducts_getElem? {s : State} {i : Nat} {p : Product} (code : Nat) (h : s.products[i]? = some p) :
    (prunedProducts s code)[i]? =
      some { p with substitutes := p.substitutes.filter (keepsListing s code i p) } := by
  simp [prunedProducts, List.getElem?_zipIdx, h, prunedEntry]

theorem keepsListing_eq (s : State) (code i q : Nat) (p : Product) :
    keepsListing s code i p q =
      decide
        ((i ≠ code ∧ q ≠ code) ∨
          (p.defined = true ∧ (s.product q).defined = true ∧ (s.product q).fields.species = p.fields.species ∧
            (s.product q).fields.thickness = p.fields.thickness ∧ (s.product q).fields.width = p.fields.width ∧
            p.fields.grade ≤ (s.product q).fields.grade)) := by
  rw [Bool.eq_iff_iff]
  simp only [keepsListing, Bool.or_eq_true, decide_eq_true_eq, sound_iff]

/-- Settles O31: the checks of SET_PRODUCT, the entry it writes, and the pruned table entry by entry. -/
theorem setProductWritesAndPrunes : Obligations.SetProductWritesAndPrunes := by
  intro code defined f s c hc hs
  subst hc
  have hserves := serves_setProduct code defined f
  refine ⟨fun hbad => hserves.refused hs (by decide) (if_pos ?_), ?_⟩
  · simp only [productFieldsOk, inRange]
    rcases hbad with h | h | ⟨hdef, h⟩
    · exact Or.inl (by omega)
    · exact Or.inl (by omega)
    · exact Or.inr ⟨hdef, by omega⟩
  intro h1 h255 hsupply hrange
  have hf : defined = true → productFieldsOk f := fun hdef =>
    have ⟨hs, hg, ht, ht', hw, hw', ha⟩ := hrange hdef
    ⟨hs, hg, ⟨ht, ht'⟩, ⟨hw, hw'⟩, ha⟩
  refine ⟨fun hdef hwas hnamed => hserves.refused hs (by decide) ?_, fun entry before hfree hentry hbefore => ?_⟩
  · exact setProductBlock_inUse ⟨h1, h255⟩ hf hsupply ⟨hdef, hwas, (productInUse_iff s code).mpr hnamed⟩
  · have huse : ¬ (defined = false ∧ (s.product code).defined = true ∧ productInUse s code = true) := by
      rintro ⟨hdef, hwas, hnamed⟩
      obtain ⟨hpacks, horders⟩ := hfree hdef hwas
      rcases (productInUse_iff s code).mp hnamed with ⟨e, he, hcode⟩ | ⟨e, he, l, hl, hcode⟩
      · exact hpacks e he hcode
      · exact horders e he l hl hcode
    have hwritten : writeProduct code (productEntry (s.product code) defined f) s = { s with products := before } := by
      rw [hbefore, hentry]
      rfl
    generalize ht : writeProduct code (productEntry (s.product code) defined f) s = t at hwritten
    refine ⟨prunedProducts t code, ?_, fun i p hp => ?_, hserves.ok hs ?_⟩
    · rw [length_prunedProducts, hwritten]
    · rw [hwritten, prunedProducts_getElem? (s := { s with products := before }) code hp]
      exact congrArg (fun k => some { p with substitutes := p.substitutes.filter k })
        (funext fun q => keepsListing_eq { s with products := before } code i q p)
    · rw [setProductBlock_writes ⟨h1, h255⟩ hf hsupply huse ht.symm, hwritten]
      rfl

end Sys2Proof.Proofs
end

section
/-!
PROOFS. Family 0 (R165, R166, R177, R178, R191, R195, R197), and the port: a request at an idle port (R171, R174), and
what a read period clocks out (R170, R179).
-/

namespace Sys2Proof.Proofs

open Sys2Proof.Machine Sys2Proof.Safety

/-! ## Family 0 -/

theorem serves_statusSummary : Serves .statusSummary statusSummaryBlock :=
  serves_plain 0x00 (fun _ => rfl) nofun rfl rfl (by decide)

theorem serves_getCapacities : Serves .getCapacities capacitiesBlock :=
  serves_plain 0x01 (fun _ => rfl) nofun rfl rfl (by decide)

theorem serves_getFamilies : Serves .getFamilies familiesBlock :=
  serves_plain 0x02 (fun _ => rfl) nofun rfl rfl (by decide)

theorem serves_setEventEnables (set : Option (BitVec 24)) :
    Serves (.setEventEnables set) (setEventEnablesBlock set) :=
  serves_plain 0x04 (fun _ => rfl) nofun rfl rfl (by decide)

/-- The reply of STATUS_SUMMARY with its two optional fields written out (R189, R195). -/
theorem summaryReply_eq (s : State) :
    summaryReply s =
      [byte (resetCauseNumber s.cause)] ++ be2 s.restartRecord.count.toNat ++
        [byte s.failedTables.toNat, byte (supplyNumber s.supply), byte (yardModeNumber s.mode),
          markByte s.raining, bitsByte ((List.range 7).map (lineActive s))] ++
        be2 s.packs.length ++ [byte s.orders.length, byte s.tasks.length] ++
        s.stations.map (fun st => byte (stationStateNumber st.state)) ++
        [byte (engineStateNumber s.engine.state), bitsByte [s.engine.line.isSome, s.lastStatus.isSome]] ++
        (match s.engine.line with
          | none => [0#8, 0#8]
          | some r => [byte r.handle, byte r.line]) ++
        be2 s.engine.restarts.toNat ++ be3 s.summary.toNat ++ be3 s.enables.toNat ++
        match s.lastStatus with
          | none => [0#8, 0#8, 0#8]
          | some l => [byte (statusNumber l.status), byte l.code, byte l.station] := by
  have hpair : ∀ (l : List Byte) (a b : Byte), l ++ [a] ++ [b] = l ++ [a, b] := fun l a b => by simp
  rw [summaryReply, presence, hpair]
  cases s.engine.line <;> cases s.lastStatus <;> rfl

/-- A set with no kind above 18 is the enable set it is cut to (R165). -/
theorem setWidth_toNat {e : BitVec 24} (h : e.toNat < 2 ^ 19) : (e.setWidth 19).toNat = e.toNat := by
  rw [BitVec.toNat_setWidth, Nat.mod_eq_of_lt h]

/-- Settles O21: the replies as they stand, and the pin after a new enable set. -/
theorem inquiriesReadTheState : Obligations.InquiriesReadTheState := by
  refine ⟨⟨rfl, rfl, rfl, rfl, rfl, rfl⟩, fun s => ⟨fun hs => ?_, fun hs => ?_, fun hs => ?_, fun hs => ?_, ?_⟩⟩
  · exact serves_statusSummary.ok hs (congrArg (taken · s) (summaryReply_eq s))
  · exact serves_getCapacities.ok hs rfl
  · exact serves_getFamilies.ok hs rfl
  · exact (serves_setEventEnables none).ok hs rfl
  · intro e hs
    refine ⟨fun hin => (serves_setEventEnables _).ok hs ?_, fun hout => ?_⟩
    · have hblock : setEventEnablesBlock (some e) s =
          taken (setBytes (e.setWidth 19)) (driveAttn { s with enables := e.setWidth 19 }) :=
        if_neg (Nat.not_le.mpr hin)
      rw [hblock, setBytes, setWidth_toNat hin]
      rfl
    · exact (serves_setEventEnables _).refused hs (by decide) (if_pos hout)

/-! ## A request at an idle port -/

/-- The families below 8 are 0 and those that clear the last status (R175). -/
theorem clearLast_eq {code : Nat} (h : code < 128) (s : State) :
    clearLast code s = { s with lastStatus := if code / 16 = 0 then s.lastStatus else none } := by
  by_cases h0 : code / 16 = 0
  · rw [clearLast, familyOf, if_neg (by omega), if_pos h0]
  · rw [clearLast, familyOf, if_pos (by omega), if_neg h0]

/-- A row of a request is `intake` at the port, whatever its block does (R174). -/
theorem exec_intake {c : Instr} (h : c.isRequest = true) : ∃ k, ∀ s, exec c s = .next (intake c k s) := by
  cases c with
  | clearYardEnd | requestPeriod _ _ | readPeriod _ _ _ | powerOn _ _ | resetPin _ | partStop _ _ _
    | startupCheckEnd _ | supplyDip | supplyRecovery | pinChange _ _ | debounceExpiry _ | wettingSweepStack | scanStart
    | firstPassVisit | secondPassVisit | passEnd | taskOffer | offerLapse _ | taskLapse _ | carryOverdue _
    | proposalExpiry _ => cases h
  | _ => exact ⟨_, fun _ => rfl⟩

/-- Settles O16: at an idle port `intake` begins the request, and where the port executes it the block takes it. -/
theorem anIdlePortTakesAWholeExchange : Obligations.AnIdlePortTakesAWholeExchange := by
  intro c s hc hstop hport hclearing
  obtain ⟨k, hk⟩ := exec_intake hc
  have hbegun : atBlock c (beginRequest c s) := ⟨hstop, rfl, hclearing⟩
  calc exec c s = .next (k (beginRequest c s)) := by rw [hk, intake_of_idle k hstop hport]
    _ = exec c (beginRequest c s) := by rw [hk, intake_of_atBlock k hbegun]

/-! ## Read periods (R170, R179) -/

section
variable {n lead : Nat} {supply : SupplyStatus} {s : State}

theorem exec_readPeriod_fresh (hstop : s.stopped = false) (hn : 0 < n) :
    exec (.readPeriod n .fresh supply) s = .next (readPort n 0 supply s) := by
  show Host.Outcome.next _ = _
  rw [if_neg (by simp [hstop])]
  exact congrArg _ (if_neg (Nat.pos_iff_ne_zero.mp hn))

theorem exec_readPeriod_within (hstop : s.stopped = false) (hn : 0 < n) :
    exec (.readPeriod n (.within lead) supply) s = .next (readPort n lead supply s) := by
  show Host.Outcome.next _ = _
  rw [if_neg (by simp [hstop])]
  exact congrArg _ (if_neg (Nat.pos_iff_ne_zero.mp hn))

theorem exec_readPeriod_beforeReset (hstop : s.stopped = false) :
    exec (.readPeriod n .beforeReset supply) s = .next (losePeriod n s) := by
  show Host.Outcome.next _ = _
  rw [if_neg (by simp [hstop])]

theorem fillers_of_le (h : lead ≤ n) :
    fillers n lead = List.replicate lead 0xA5#8 ++ List.replicate (n - lead) 0x00#8 := by
  rw [fillers, Nat.min_eq_left h]
  rfl

theorem readPort_idle (hport : s.port = .idle) (h : lead ≤ n) :
    readPort n lead supply s =
      { s with miso := List.replicate lead 0xA5#8 ++ List.replicate (n - lead) 0x00#8 } := by
  rw [readPort, hport]
  simp [periodFillers, hport, Port.busy, fillers_of_le h]

theorem readPort_busy (hport : s.port = .starting ∨ ∃ c, s.port = .executing c) :
    readPort n lead supply s = losePeriod n s := by
  rcases hport with hport | ⟨c, hport⟩ <;> rw [readPort, hport] <;> simp [periodFillers, hport, Port.busy, losePeriod]

theorem readPort_answered {r : Response} (hport : s.port = .answered r) :
    readPort n lead supply s =
      if 0 < lead then { s with miso := fillers n lead } else readResponse r n supply s := by
  rw [readPort, hport]

end

theorem length_frame (r : Response) : r.frame.length = r.payload.length + 5 := by
  simp [Response.frame, Response.covered]

/-- Settles O17: the port's condition decides, and for a waiting response the number of bytes clocked. -/
theorem aReadPeriodDeliversTheResponse : Obligations.AReadPeriodDeliversTheResponse := by
  refine ⟨fun n start supply s hstop hn => ⟨fun hport => ⟨?_, fun lead hlead => ?_⟩, fun hport => ?_⟩, ?_⟩
  · rw [exec_readPeriod_fresh hstop hn, readPort_idle hport (Nat.zero_le n)]
    rfl
  · rw [exec_readPeriod_within hstop hn, readPort_idle hport hlead]
  · cases start with
    | fresh => exact (exec_readPeriod_fresh hstop hn).trans (congrArg _ (readPort_busy hport))
    | within lead => exact (exec_readPeriod_within hstop hn).trans (congrArg _ (readPort_busy hport))
    | beforeReset => exact exec_readPeriod_beforeReset hstop
  · intro code n status payload restart supply s body frame hstop hport hbody hframe hn
    have hread : readPort n 0 supply s = readResponse ⟨code, status, payload, restart⟩ n supply s :=
      readPort_answered hport
    have hbytes : (Response.mk code status payload restart).frame = frame := by
      rw [hframe, hbody]
      rfl
    have hlen : frame.length = payload.length + 5 := by rw [← hbytes, length_frame]
    refine ⟨fun lead hlead hle => ?_, fun hshort => ?_, fun hlong hplain => ?_, fun hlong hmarked => ?_⟩
    · rw [exec_readPeriod_within hstop hn, readPort_answered hport, if_pos hlead, fillers_of_le hle]
    · rw [exec_readPeriod_fresh hstop hn, hread, readResponse, hbytes, if_pos (by omega)]
    · rw [exec_readPeriod_fresh hstop hn, hread, readResponse, hbytes, if_neg (by omega), deliver, hbytes, hlen, hplain]
      rfl
    · rw [exec_readPeriod_fresh hstop hn, hread, readResponse, hbytes, if_neg (by omega), deliver, hbytes, hlen,
        hmarked]
      rfl

end Sys2Proof.Proofs
end

section
/-!
PROOFS. The frame that carries a request and the bytes its payload stands in (R171, R172, R189, R190, R196): what each
reader makes of the payload of its request.
-/

namespace Sys2Proof.Proofs

open Sys2Proof.Machine Sys2Proof.Safety

/-! ## Numbers and marks in bytes (R189) -/

theorem num2_bytes {n : Nat} (h : n < 65536) : num2 (n / 256 % 256) (n % 256) = n := by
  unfold num2
  omega

theorem num3_bytes {n : Nat} (h : n < 16777216) : num3 (n / 65536 % 256) (n / 256 % 256) (n % 256) = n := by
  unfold num3
  omega

theorem markOf_markByte (b : Bool) : markOf (markByte b).toNat = some b := by cases b <;> rfl

theorem markByte_toNat_eq_one (b : Bool) : ((markByte b).toNat = 1) ↔ b = true := by cases b <;> decide

theorem dryingOf_dryingByte (d : Drying) : dryingOf (dryingByte d).toNat = some d := by cases d <;> rfl

theorem watchFieldOf_watchFieldByte (f : WatchField) : watchFieldOf (watchFieldByte f).toNat = some f := by
  cases f <;> rfl

/-- Bit n of a bit set is the n-th mark. -/
theorem testBit_marks (bits : List Bool) (n : Nat) :
    (bits.foldr (fun (b : Bool) n => 2 * n + (if b then 1 else 0)) 0).testBit n = bits.getD n false := by
  induction bits generalizing n with
  | nil => simp
  | cons b bits ih =>
    generalize hrest : bits.foldr (fun (b : Bool) n => 2 * n + (if b then 1 else 0)) 0 = rest at ih
    rw [List.foldr_cons, hrest]
    cases n with
    | zero => cases b <;> simp [Nat.testBit_zero]
    | succ n =>
      have hhalf : (2 * rest + (if b then 1 else 0)) / 2 = rest := by
        cases b
        · simp
        · simp
          omega
      rw [Nat.testBit_succ, hhalf, ih, List.getD_cons_succ]

theorem getLsbD_bitsByte {bits : List Bool} (h : bits.length ≤ 8) (n : Nat) :
    (bitsByte bits).getLsbD n = bits.getD n false := by
  rw [bitsByte, byte, BitVec.getLsbD_ofNat, testBit_marks]
  by_cases hn : n < 8
  · simp [hn]
  · have hout : bits.length ≤ n := by omega
    simp [hn, hout]

/-! ## What each reader makes of the payload of its request (R196) -/

/-- The numbers a request's payload stands for. -/
def numbers (c : Instr) : List Nat := c.payload.map BitVec.toNat

/-- The bytes of a request's fields give the fields back. -/
def ReadsBack (c : Instr) : Prop :=
  c.wellFormed = true → readPayload (familyOf c.requestCode) (c.requestCode % 16) c.stationField (numbers c) = some c

theorem readsBack_of {c : Instr} (code station : Nat) (hc : c.requestCode = code) (hn : c.stationField = station)
    (read : List Nat → Option Instr) (hread : ∀ p, readPayload (familyOf code) (code % 16) station p = read p)
    (h : read (numbers c) = some c) :
    readPayload (familyOf c.requestCode) (c.requestCode % 16) c.stationField (numbers c) = some c := by
  rw [hc, hn, hread, h]

theorem readsBack_setEventEnables (set : Option (BitVec 24)) : ReadsBack (.setEventEnables set) := by
  intro _
  cases set with
  | none => rfl
  | some set =>
    refine readsBack_of 0x04 0 rfl rfl (readInquiry 4) (fun _ => rfl) ?_
    simp [numbers, Instr.payload, be3, readInquiry, num3_bytes set.isLt]

theorem readsBack_setBay (bay row col stackCount tierLimit : Nat) (enabled covered : Bool) :
    ReadsBack (.setBay bay enabled covered row col stackCount tierLimit) := by
  intro hwf
  simp only [Instr.wellFormed, fitsOne, Bool.and_eq_true, decide_eq_true_eq] at hwf
  obtain ⟨⟨⟨⟨hb, hr⟩, hc⟩, hn⟩, ht⟩ := hwf
  refine readsBack_of 0x10 0 rfl rfl readSetBay (fun _ => rfl) ?_
  simp [numbers, Instr.payload, readSetBay, markOf_markByte, hb, hr, hc, hn, ht]

theorem readsBack_readBay (bay : Nat) : ReadsBack (.readBay bay) := by
  intro hwf
  simp only [Instr.wellFormed, fitsOne, decide_eq_true_eq] at hwf
  refine readsBack_of 0x11 0 rfl rfl (readByte Instr.readBay) (fun _ => rfl) ?_
  simp [numbers, Instr.payload, readByte, hwf]

theorem readsBack_setLoadingPoint (w : Option PointWrite) : ReadsBack (.setLoadingPoint w) := by
  intro hwf
  cases w with
  | none => rfl
  | some w =>
    obtain ⟨point, row, col, d⟩ := w
    simp only [Instr.wellFormed, fitsOne, Bool.and_eq_true, decide_eq_true_eq] at hwf
    obtain ⟨⟨hp, hr⟩, hc⟩ := hwf
    refine readsBack_of 0x12 0 rfl rfl readSetPoint (fun _ => rfl) ?_
    simp [numbers, Instr.payload, readSetPoint, markOf_markByte, hp, hr, hc]

theorem readsBack_setLine (w : Option LineWrite) : ReadsBack (.setLine w) := by
  intro hwf
  cases w with
  | none => rfl
  | some w =>
    obtain ⟨line, ⟨e, a, source, debounce⟩, o⟩ := w
    simp only [Instr.wellFormed, fitsOne, fitsTwo, Bool.and_eq_true, decide_eq_true_eq] at hwf
    obtain ⟨⟨hl, hs⟩, hd⟩ := hwf
    refine readsBack_of 0x13 0 rfl rfl readSetLine (fun _ => rfl) ?_
    cases o <;>
      simp [numbers, Instr.payload, be2, readSetLine, markOf_markByte, num2_bytes, hl, hs, hd]

theorem readsBack_setTimers (w : Option TimerSettings) : ReadsBack (.setTimers w) := by
  intro hwf
  cases w with
  | none => rfl
  | some w =>
    obtain ⟨offer, lift, carry, proposal⟩ := w
    simp only [Instr.wellFormed, fitsTwo, Bool.and_eq_true, decide_eq_true_eq] at hwf
    obtain ⟨⟨⟨ho, hl⟩, hc⟩, hp⟩ := hwf
    refine readsBack_of 0x14 0 rfl rfl readSetTimers (fun _ => rfl) ?_
    simp [numbers, Instr.payload, be2, readSetTimers, num2_bytes, ho, hl, hc, hp]

theorem readsBack_setWeights (w : Option Weights) : ReadsBack (.setWeights w) := by
  intro hwf
  cases w with
  | none => rfl
  | some w =>
    obtain ⟨dig, distance, age, substitution⟩ := w
    simp only [Instr.wellFormed, fitsOne, Bool.and_eq_true, decide_eq_true_eq] at hwf
    obtain ⟨⟨⟨hd, hx⟩, ha⟩, hs⟩ := hwf
    refine readsBack_of 0x15 0 rfl rfl readSetWeights (fun _ => rfl) ?_
    simp [numbers, Instr.payload, readSetWeights, hd, hx, ha, hs]

theorem readsBack_setDay (d : Option Nat) : ReadsBack (.setDay d) := by
  intro hwf
  cases d with
  | none => rfl
  | some d =>
    simp only [Instr.wellFormed, fitsTwo, decide_eq_true_eq] at hwf
    refine readsBack_of 0x16 0 rfl rfl readSetDay (fun _ => rfl) ?_
    simp [numbers, Instr.payload, be2, readSetDay, num2_bytes, hwf]

theorem readsBack_setProduct (code : Nat) (defined : Bool) (f : ProductFields) :
    ReadsBack (.setProduct code defined f) := by
  intro hwf
  obtain ⟨species, grade, thickness, width, needsKiln, airDryDays⟩ := f
  simp only [Instr.wellFormed, ProductFields.fits, fitsOne, fitsTwo, Bool.and_eq_true, decide_eq_true_eq] at hwf
  obtain ⟨hc, ⟨⟨⟨hs, hg⟩, ht⟩, hw⟩, ha⟩ := hwf
  refine readsBack_of 0x20 0 rfl rfl readSetProduct (fun _ => rfl) ?_
  cases defined <;>
    simp [numbers, Instr.payload, be2, readSetProduct, markOf_markByte, markByte_toNat_eq_one, num2_bytes,
      hc, hs, hg, ht, hw, ha]

theorem readsBack_setSubstitutes (code : Nat) (codes : List Nat) : ReadsBack (.setSubstitutes code codes) := by
  intro hwf
  simp only [Instr.wellFormed, fitsOne, Bool.and_eq_true, decide_eq_true_eq, List.all_eq_true] at hwf
  obtain ⟨⟨hc, hlen⟩, hall⟩ := hwf
  have hcodes : codes.map (BitVec.toNat ∘ byte) = codes := by
    exact (List.map_congr_left fun q hq => Nat.mod_eq_of_lt (hall q hq)).trans (List.map_id _)
  refine readsBack_of 0x22 0 rfl rfl readSetSubstitutes (fun _ => rfl) ?_
  simp [numbers, Instr.payload, readSetSubstitutes, hc, hcodes, hlen]

theorem readsBack_receivePack (tag product length count mass bay stack : Nat) (drying : Drying) (ready : Option Nat) :
    ReadsBack (.receivePack tag product length count mass drying bay stack ready) := by
  intro hwf
  simp only [Instr.wellFormed, fitsOne, fitsTwo, fitsThree, Bool.and_eq_true, decide_eq_true_eq] at hwf
  obtain ⟨⟨⟨⟨⟨⟨⟨ht, hp⟩, hl⟩, hc⟩, hm⟩, hb⟩, hk⟩, hr⟩ := hwf
  refine readsBack_of 0x30 0 rfl rfl readReceivePack (fun _ => rfl) ?_
  cases ready with
  | none =>
    simp [numbers, Instr.payload, be2, be3, readReceivePack, dryingOf_dryingByte, num2_bytes, num3_bytes,
      ht, hp, hl, hc, hm, hb, hk]
  | some d =>
    simp only [decide_eq_true_eq] at hr
    simp [numbers, Instr.payload, be2, be3, readReceivePack, dryingOf_dryingByte, num2_bytes, num3_bytes,
      ht, hp, hl, hc, hm, hb, hk, hr]

theorem readsBack_readProduct (code : Nat) : ReadsBack (.readProduct code) := by
  intro hwf
  simp only [Instr.wellFormed, fitsOne, decide_eq_true_eq] at hwf
  refine readsBack_of 0x21 0 rfl rfl (readByte Instr.readProduct) (fun _ => rfl) ?_
  simp [numbers, Instr.payload, readByte, hwf]

theorem readsBack_readPack (tag : Nat) : ReadsBack (.readPack tag) := by
  intro hwf
  simp only [Instr.wellFormed, fitsThree, decide_eq_true_eq] at hwf
  refine readsBack_of 0x31 0 rfl rfl (readTag Instr.readPack) (fun _ => rfl) ?_
  simp [numbers, Instr.payload, be3, num3_bytes, readTag, hwf]

theorem readsBack_readStack (bay stack : Nat) : ReadsBack (.readStack bay stack) := by
  intro hwf
  simp only [Instr.wellFormed, fitsOne, Bool.and_eq_true, decide_eq_true_eq] at hwf
  obtain ⟨hb, hk⟩ := hwf
  refine readsBack_of 0x32 0 rfl rfl (readPair Instr.readStack) (fun _ => rfl) ?_
  simp [numbers, Instr.payload, readPair, hb, hk]

theorem readsBack_recordMove (tag bay stack : Nat) : ReadsBack (.recordMove tag bay stack) := by
  intro hwf
  simp only [Instr.wellFormed, fitsOne, fitsThree, Bool.and_eq_true, decide_eq_true_eq] at hwf
  obtain ⟨⟨ht, hb⟩, hk⟩ := hwf
  refine readsBack_of 0x33 0 rfl rfl readRecordMove (fun _ => rfl) ?_
  simp [numbers, Instr.payload, be3, num3_bytes, readRecordMove, ht, hb, hk]

theorem readsBack_holdPack (tag : Nat) : ReadsBack (.holdPack tag) := by
  intro hwf
  simp only [Instr.wellFormed, fitsThree, decide_eq_true_eq] at hwf
  refine readsBack_of 0x34 0 rfl rfl (readTag Instr.holdPack) (fun _ => rfl) ?_
  simp [numbers, Instr.payload, be3, num3_bytes, readTag, hwf]

theorem readsBack_releasePack (tag : Nat) (place : Option (Nat × Nat)) : ReadsBack (.releasePack tag place) := by
  intro hwf
  refine readsBack_of 0x35 0 rfl rfl readReleasePack (fun _ => rfl) ?_
  cases place with
  | none =>
    simp only [Instr.wellFormed, fitsThree, decide_eq_true_eq] at hwf
    simp [numbers, Instr.payload, be3, num3_bytes, readReleasePack, hwf]
  | some place =>
    obtain ⟨bay, stack⟩ := place
    simp only [Instr.wellFormed, fitsOne, fitsThree, Bool.and_eq_true, decide_eq_true_eq] at hwf
    obtain ⟨⟨ht, hb⟩, hk⟩ := hwf
    simp [numbers, Instr.payload, be3, num3_bytes, readReleasePack, ht, hb, hk]

theorem readsBack_scrapPack (tag : Nat) : ReadsBack (.scrapPack tag) := by
  intro hwf
  simp only [Instr.wellFormed, fitsThree, decide_eq_true_eq] at hwf
  refine readsBack_of 0x36 0 rfl rfl (readTag Instr.scrapPack) (fun _ => rfl) ?_
  simp [numbers, Instr.payload, be3, num3_bytes, readTag, hwf]

theorem readsBack_clearWetted (tag bay : Option Nat) : ReadsBack (.clearWetted tag bay) := by
  intro hwf
  refine readsBack_of 0x37 0 rfl rfl readClearWetted (fun _ => rfl) ?_
  cases tag with
  | none =>
    cases bay with
    | none => cases hwf
    | some bay =>
      simp only [Instr.wellFormed, fitsOne, decide_eq_true_eq] at hwf
      simp [numbers, Instr.payload, readClearWetted, hwf]
  | some tag =>
    cases bay with
    | none =>
      simp only [Instr.wellFormed, fitsThree, decide_eq_true_eq] at hwf
      simp [numbers, Instr.payload, be3, num3_bytes, readClearWetted, hwf]
    | some bay => cases hwf

theorem readsBack_findOldest (code : Nat) (after : Option Nat) : ReadsBack (.findOldest code after) := by
  intro hwf
  refine readsBack_of 0x38 0 rfl rfl readFindOldest (fun _ => rfl) ?_
  cases after with
  | none =>
    simp only [Instr.wellFormed, fitsOne, decide_eq_true_eq] at hwf
    simp [numbers, Instr.payload, readFindOldest, hwf]
  | some after =>
    simp only [Instr.wellFormed, fitsOne, fitsThree, Bool.and_eq_true, decide_eq_true_eq] at hwf
    obtain ⟨hc, ha⟩ := hwf
    simp [numbers, Instr.payload, be3, num3_bytes, readFindOldest, hc, ha]

/-- The eleven bytes of a line of CHECK_IN give the line back (R196). -/
theorem readLines_lineBytes {l : LineItem} (h : l.fits = true) (rest : List Nat) :
    readLines ((Sys2Proof.lineBytes l).map BitVec.toNat ++ rest) = (readLines rest).map (l :: ·) := by
  obtain ⟨product, quantity, low, high, window, substitution, digLimit⟩ := l
  simp only [LineItem.fits, fitsOne, Bool.and_eq_true, decide_eq_true_eq] at h
  obtain ⟨⟨⟨⟨⟨hp, hq⟩, hl⟩, hh⟩, hd⟩, hw⟩ := h
  cases window with
  | none =>
    simp [Sys2Proof.lineBytes, windowBytes, readLines, markOf_markByte, Nat.mod_eq_of_lt, hp, hq, hl, hh, hd,
      Option.map_eq_bind]
  | some w =>
    obtain ⟨r0, r1, c0, c1⟩ := w
    simp only [YardWindow.fits, fitsOne, Bool.and_eq_true, decide_eq_true_eq] at hw
    obtain ⟨⟨⟨h1, h2⟩, h3⟩, h4⟩ := hw
    simp [Sys2Proof.lineBytes, windowBytes, readLines, markOf_markByte, Nat.mod_eq_of_lt, hp, hq, hl, hh, hd, h1, h2,
      h3, h4, Option.map_eq_bind]

theorem readLines_flatMap {lines : List LineItem} (h : ∀ l ∈ lines, l.fits = true) :
    readLines ((lines.flatMap Sys2Proof.lineBytes).map BitVec.toNat) = some lines := by
  induction lines with
  | nil => rfl
  | cons l ls ih =>
    rw [List.flatMap_cons, List.map_append, readLines_lineBytes (h l List.mem_cons_self),
      ih fun x hx => h x (List.mem_cons_of_mem l hx)]
    rfl

theorem readsBack_checkIn (truck level payload : Nat) (supervised : Bool) (lines : List LineItem) :
    ReadsBack (.checkIn truck level payload supervised lines) := by
  intro hwf
  simp only [Instr.wellFormed, fitsOne, fitsTwo, Bool.and_eq_true, decide_eq_true_eq, List.all_eq_true] at hwf
  obtain ⟨⟨⟨⟨⟨ht, hl⟩, hp⟩, h1⟩, h4⟩, hall⟩ := hwf
  have hlines := readLines_flatMap hall
  refine readsBack_of 0x40 0 rfl rfl readCheckIn (fun _ => rfl) ?_
  simp [numbers, Instr.payload, be2, num2_bytes, readCheckIn, markOf_markByte, Nat.mod_eq_of_lt, ht, hl, hp, hlines,
    h1, h4]

theorem readsBack_readOrder (handle truck : Option Nat) : ReadsBack (.readOrder handle truck) := by
  intro hwf
  refine readsBack_of 0x41 0 rfl rfl readReadOrder (fun _ => rfl) ?_
  cases handle with
  | none =>
    cases truck with
    | none => rfl
    | some truck =>
      simp only [Instr.wellFormed, fitsTwo, decide_eq_true_eq] at hwf
      simp [numbers, Instr.payload, be2, num2_bytes, readReadOrder, hwf]
  | some handle =>
    cases truck with
    | none =>
      simp only [Instr.wellFormed, fitsOne, decide_eq_true_eq] at hwf
      simp [numbers, Instr.payload, readReadOrder, hwf]
    | some truck => cases hwf

theorem readsBack_setPoint (handle point : Nat) : ReadsBack (.setPoint handle point) := by
  intro hwf
  simp only [Instr.wellFormed, fitsOne, Bool.and_eq_true, decide_eq_true_eq] at hwf
  obtain ⟨hh, hp⟩ := hwf
  refine readsBack_of 0x42 0 rfl rfl (readPair Instr.setPoint) (fun _ => rfl) ?_
  simp [numbers, Instr.payload, readPair, hh, hp]

theorem readsBack_setLevel (handle level : Nat) : ReadsBack (.setLevel handle level) := by
  intro hwf
  simp only [Instr.wellFormed, fitsOne, Bool.and_eq_true, decide_eq_true_eq] at hwf
  obtain ⟨hh, hl⟩ := hwf
  refine readsBack_of 0x43 0 rfl rfl (readPair Instr.setLevel) (fun _ => rfl) ?_
  simp [numbers, Instr.payload, readPair, hh, hl]

theorem readsBack_cancel (handle : Nat) : ReadsBack (.cancel handle) := by
  intro hwf
  simp only [Instr.wellFormed, fitsOne, decide_eq_true_eq] at hwf
  refine readsBack_of 0x44 0 rfl rfl (readByte Instr.cancel) (fun _ => rfl) ?_
  simp [numbers, Instr.payload, readByte, hwf]

theorem readsBack_depart (handle : Nat) : ReadsBack (.depart handle) := by
  intro hwf
  simp only [Instr.wellFormed, fitsOne, decide_eq_true_eq] at hwf
  refine readsBack_of 0x45 0 rfl rfl (readByte Instr.depart) (fun _ => rfl) ?_
  simp [numbers, Instr.payload, readByte, hwf]

theorem readsBack_confirmProposal (handle tag : Nat) : ReadsBack (.confirmProposal handle tag) := by
  intro hwf
  simp only [Instr.wellFormed, fitsOne, fitsThree, Bool.and_eq_true, decide_eq_true_eq] at hwf
  obtain ⟨hh, ht⟩ := hwf
  refine readsBack_of 0x46 0 rfl rfl (readHandleTag Instr.confirmProposal) (fun _ => rfl) ?_
  simp [numbers, Instr.payload, be3, num3_bytes, readHandleTag, hh, ht]

theorem readsBack_rejectProposal (handle tag : Nat) : ReadsBack (.rejectProposal handle tag) := by
  intro hwf
  simp only [Instr.wellFormed, fitsOne, fitsThree, Bool.and_eq_true, decide_eq_true_eq] at hwf
  obtain ⟨hh, ht⟩ := hwf
  refine readsBack_of 0x47 0 rfl rfl (readHandleTag Instr.rejectProposal) (fun _ => rfl) ?_
  simp [numbers, Instr.payload, be3, num3_bytes, readHandleTag, hh, ht]

theorem readsBack_goOnShift (station capacity : Nat) : ReadsBack (.goOnShift station capacity) := by
  intro hwf
  simp only [Instr.wellFormed, fitsTwo, Bool.and_eq_true, decide_eq_true_eq] at hwf
  obtain ⟨-, hc⟩ := hwf
  refine readsBack_of 0x50 station rfl rfl (readGoOnShift station) (fun _ => rfl) ?_
  simp [numbers, Instr.payload, be2, num2_bytes, readGoOnShift, hc]

theorem readsBack_accept (station task : Nat) : ReadsBack (.accept station task) := by
  intro hwf
  simp only [Instr.wellFormed, fitsOne, Bool.and_eq_true, decide_eq_true_eq] at hwf
  obtain ⟨-, ht⟩ := hwf
  refine readsBack_of 0x53 station rfl rfl (readByte (Instr.accept station)) (fun _ => rfl) ?_
  simp [numbers, Instr.payload, readByte, ht]

theorem readsBack_decline (station task : Nat) : ReadsBack (.decline station task) := by
  intro hwf
  simp only [Instr.wellFormed, fitsOne, Bool.and_eq_true, decide_eq_true_eq] at hwf
  obtain ⟨-, ht⟩ := hwf
  refine readsBack_of 0x54 station rfl rfl (readByte (Instr.decline station)) (fun _ => rfl) ?_
  simp [numbers, Instr.payload, readByte, ht]

theorem readsBack_lifted (station tag : Nat) : ReadsBack (.lifted station tag) := by
  intro hwf
  simp only [Instr.wellFormed, fitsThree, Bool.and_eq_true, decide_eq_true_eq] at hwf
  obtain ⟨-, ht⟩ := hwf
  refine readsBack_of 0x55 station rfl rfl (readTag (Instr.lifted station)) (fun _ => rfl) ?_
  simp [numbers, Instr.payload, be3, num3_bytes, readTag, ht]

theorem readsBack_dropped (station : Nat) (dest : Destination) : ReadsBack (.dropped station dest) := by
  intro hwf
  refine readsBack_of 0x56 station rfl rfl (readDropped station) (fun _ => rfl) ?_
  cases dest with
  | truck => rfl
  | stack bay stack =>
    simp only [Instr.wellFormed, fitsOne, Bool.and_eq_true, decide_eq_true_eq] at hwf
    obtain ⟨⟨-, hb⟩, hk⟩ := hwf
    simp [numbers, Instr.payload, readDropped, hb, hk]

theorem readsBack_reportPosition (station bay : Nat) : ReadsBack (.reportPosition station bay) := by
  intro hwf
  simp only [Instr.wellFormed, fitsOne, Bool.and_eq_true, decide_eq_true_eq] at hwf
  obtain ⟨-, hb⟩ := hwf
  refine readsBack_of 0x58 station rfl rfl (readByte (Instr.reportPosition station)) (fun _ => rfl) ?_
  simp [numbers, Instr.payload, readByte, hb]

theorem readsBack_setWatch (entry value mask : Nat) (field : WatchField) (oneShot : Bool) :
    ReadsBack (.setWatch entry field value mask oneShot) := by
  intro hwf
  simp only [Instr.wellFormed, fitsOne, Bool.and_eq_true, decide_eq_true_eq] at hwf
  obtain ⟨⟨he, hv⟩, hm⟩ := hwf
  refine readsBack_of 0x60 0 rfl rfl readSetWatch (fun _ => rfl) ?_
  simp [numbers, Instr.payload, readSetWatch, markOf_markByte, watchFieldOf_watchFieldByte, he, hv, hm]

theorem readsBack_readWatch (entry : Option Nat) : ReadsBack (.readWatch entry) := by
  intro hwf
  refine readsBack_of 0x61 0 rfl rfl readReadWatch (fun _ => rfl) ?_
  cases entry with
  | none => rfl
  | some entry =>
    simp only [Instr.wellFormed, fitsOne, decide_eq_true_eq] at hwf
    simp [numbers, Instr.payload, readReadWatch, hwf]

theorem readsBack_clearWatch (entry : Nat) : ReadsBack (.clearWatch entry) := by
  intro hwf
  simp only [Instr.wellFormed, fitsOne, decide_eq_true_eq] at hwf
  refine readsBack_of 0x62 0 rfl rfl (readByte Instr.clearWatch) (fun _ => rfl) ?_
  simp [numbers, Instr.payload, readByte, hwf]

/-- Every request's payload gives the request back (R196). -/
theorem readsBack_request {c : Instr} (h : c.isRequest = true) : ReadsBack c := by
  cases c with
  | statusSummary | getCapacities | getFamilies | fetchEvents | closeYard | openYard | clearYard | restart => exact fun _ => rfl
  | goOffShift n => exact fun _ => readsBack_of 0x51 n rfl rfl (readBare (.goOffShift n)) (fun _ => rfl) rfl
  | pollTask n => exact fun _ => readsBack_of 0x52 n rfl rfl (readBare (.pollTask n)) (fun _ => rfl) rfl
  | reportMissing n => exact fun _ => readsBack_of 0x57 n rfl rfl (readBare (.reportMissing n)) (fun _ => rfl) rfl
  | setEventEnables set => exact readsBack_setEventEnables set
  | setBay b e c r k n t => exact readsBack_setBay b r k n t e c
  | readBay b => exact readsBack_readBay b
  | setLoadingPoint w => exact readsBack_setLoadingPoint w
  | setLine w => exact readsBack_setLine w
  | setTimers w => exact readsBack_setTimers w
  | setWeights w => exact readsBack_setWeights w
  | setDay d => exact readsBack_setDay d
  | setProduct c d f => exact readsBack_setProduct c d f
  | readProduct c => exact readsBack_readProduct c
  | setSubstitutes c cs => exact readsBack_setSubstitutes c cs
  | receivePack t p l c m d b k r => exact readsBack_receivePack t p l c m b k d r
  | readPack t => exact readsBack_readPack t
  | readStack b k => exact readsBack_readStack b k
  | recordMove t b k => exact readsBack_recordMove t b k
  | holdPack t => exact readsBack_holdPack t
  | releasePack t p => exact readsBack_releasePack t p
  | scrapPack t => exact readsBack_scrapPack t
  | clearWetted t b => exact readsBack_clearWetted t b
  | findOldest c a => exact readsBack_findOldest c a
  | checkIn t l p s ls => exact readsBack_checkIn t l p s ls
  | readOrder o t => exact readsBack_readOrder o t
  | setPoint o p => exact readsBack_setPoint o p
  | setLevel o l => exact readsBack_setLevel o l
  | cancel o => exact readsBack_cancel o
  | depart o => exact readsBack_depart o
  | confirmProposal o t => exact readsBack_confirmProposal o t
  | rejectProposal o t => exact readsBack_rejectProposal o t
  | goOnShift n c => exact readsBack_goOnShift n c
  | accept n t => exact readsBack_accept n t
  | decline n t => exact readsBack_decline n t
  | lifted n t => exact readsBack_lifted n t
  | dropped n d => exact readsBack_dropped n d
  | reportPosition n b => exact readsBack_reportPosition n b
  | setWatch e f v m o => exact readsBack_setWatch e v m f o
  | readWatch e => exact readsBack_readWatch e
  | clearWatch e => exact readsBack_clearWatch e
  | clearYardEnd | requestPeriod _ _ | readPeriod _ _ _ | powerOn _ _ | resetPin _ | partStop _ _ _
    | startupCheckEnd _ | supplyDip | supplyRecovery | pinChange _ _ | debounceExpiry _ | wettingSweepStack | scanStart
    | firstPassVisit | secondPassVisit | passEnd | taskOffer | offerLapse _ | taskLapse _ | carryOverdue _
    | proposalExpiry _ => cases h

end Sys2Proof.Proofs
end

section
/-!
PROOFS. The frame check and what it makes of the frame of a request (R171, R172, R173, R190), and the period that
carries a request to an idle port (R175).
-/

namespace Sys2Proof.Proofs

open Sys2Proof.Machine Sys2Proof.Safety

/-! ## The frame check (R171) -/

/-- What the check reads from a period whose payload and check are named: all of the rest but its last byte is payload. -/
theorem checkFrame_split (start code station len sum : Byte) (payload : List Byte) :
    checkFrame (start :: code :: station :: len :: (payload ++ [sum])) =
      if start = Config.requestStart ∧ len.toNat ≤ Config.requestPayload ∧ payload.length = len.toNat ∧
          sum = crc8 (code :: station :: len :: payload) then
        some ⟨code.toNat, station.toNat, payload.map BitVec.toNat⟩
      else none := by
  simp [checkFrame]

/-- The list is the five bytes around a payload, or too short. -/
theorem exists_split_of_length {bytes : List Byte} (h : 5 ≤ bytes.length) :
    ∃ start code station len sum payload, bytes = start :: code :: station :: len :: (payload ++ [sum]) := by
  match bytes, h with
  | start :: code :: station :: len :: b :: rest, _ =>
    exact ⟨start, code, station, len, _, _, by
      rw [List.dropLast_append_getLast (l := b :: rest) (List.cons_ne_nil b rest)]⟩

theorem checkFrame_short {bytes : List Byte} (h : bytes.length < 5) : checkFrame bytes = none := by
  match bytes, h with
  | [], _ => rfl
  | [_], _ => rfl
  | [_, _], _ => rfl
  | [_, _, _], _ => rfl
  | [_, _, _, _], _ => simp [checkFrame]

theorem isSome_ite_iff {p : Prop} [Decidable p] (f : Frame) : (if p then some f else none).isSome = true ↔ p := by
  by_cases hp : p <;> simp [hp]

theorem checkFrame_isSome_iff (bytes : List Byte) :
    (checkFrame bytes).isSome = true ↔
      bytes[0]? = some 0xC3#8 ∧ 5 ≤ bytes.length ∧ (bytes.getD 3 0#8).toNat ≤ 60 ∧
        bytes.length = (bytes.getD 3 0#8).toNat + 5 ∧
        bytes.getLast? = some (crc8 ((bytes.drop 1).dropLast)) := by
  by_cases hlen : 5 ≤ bytes.length
  · obtain ⟨start, code, station, len, sum, payload, rfl⟩ := exists_split_of_length hlen
    have hlast : (start :: code :: station :: len :: (payload ++ [sum])).getLast? = some sum := by
      rw [← List.cons_append, ← List.cons_append, ← List.cons_append, ← List.cons_append, List.getLast?_concat]
    have hcovered : (code :: station :: len :: (payload ++ [sum])).dropLast = code :: station :: len :: payload := by
      rw [← List.cons_append, ← List.cons_append, ← List.cons_append, List.dropLast_concat]
    rw [checkFrame_split, hlast, List.drop_one, List.tail_cons, hcovered, isSome_ite_iff]
    simp [Config.requestStart, Config.requestPayload]
  · rw [checkFrame_short (Nat.not_le.mp hlen)]
    simp [hlen]

/-- What an accepted period reads as (R190). -/
theorem checkFrame_fields {bytes : List Byte} {f : Frame} (h : checkFrame bytes = some f) :
    f.code = (bytes.getD 1 0#8).toNat ∧ f.station = (bytes.getD 2 0#8).toNat ∧
      f.payload = ((bytes.drop 4).dropLast).map BitVec.toNat := by
  have hlen : 5 ≤ bytes.length := by
    by_contra hshort
    rw [checkFrame_short (Nat.not_le.mp hshort)] at h
    cases h
  obtain ⟨start, code, station, len, sum, payload, rfl⟩ := exists_split_of_length hlen
  rw [checkFrame_split] at h
  split_ifs at h
  cases h
  simp

theorem crc8_append (bytes : List Byte) (b : Byte) : crc8 (bytes ++ [b]) = crcTake (crc8 bytes) b := by
  rw [crc8, List.foldl_concat]
  rfl

theorem crcShift_eq (r : Byte) : crcShift r = if r.getLsbD 7 = true then (r <<< 1) ^^^ 0x07#8 else r <<< 1 := by
  rw [crcShift, BitVec.msb_eq_getLsbD_last]

/-- Settles O13: the check by the five bytes around a payload, and the register byte by byte. -/
theorem theFrameCheckIsThatOfTheSpec : Obligations.TheFrameCheckIsThatOfTheSpec := by
  refine ⟨fun bytes => ⟨checkFrame_isSome_iff bytes, fun f => checkFrame_fields⟩, fun bytes b shift hshift => ⟨rfl, ?_⟩⟩
  have hsame : shift = crcShift := funext fun r => (hshift r).trans (crcShift_eq r).symm
  rw [crc8_append, hsame, crcTake]

/-! ## The frame of a request (R171, R172, R190) -/

/-- What a request keeps to on the wire. -/
theorem fits_request {c : Instr} (h : c.isRequest = true) : Laws.Fits.Statement c := by
  cases c with
  | statusSummary => exact Laws.Fits.statusSummary
  | getCapacities => exact Laws.Fits.getCapacities
  | getFamilies => exact Laws.Fits.getFamilies
  | fetchEvents => exact Laws.Fits.fetchEvents
  | setEventEnables _ => exact Laws.Fits.setEventEnables _
  | setBay _ _ _ _ _ _ _ => exact Laws.Fits.setBay _ _ _ _ _ _ _
  | readBay _ => exact Laws.Fits.readBay _
  | setLoadingPoint _ => exact Laws.Fits.setLoadingPoint _
  | setLine _ => exact Laws.Fits.setLine _
  | setTimers _ => exact Laws.Fits.setTimers _
  | setWeights _ => exact Laws.Fits.setWeights _
  | setDay _ => exact Laws.Fits.setDay _
  | closeYard => exact Laws.Fits.closeYard
  | openYard => exact Laws.Fits.openYard
  | clearYard => exact Laws.Fits.clearYard
  | setProduct _ _ _ => exact Laws.Fits.setProduct _ _ _
  | readProduct _ => exact Laws.Fits.readProduct _
  | setSubstitutes _ _ => exact Laws.Fits.setSubstitutes _ _
  | receivePack _ _ _ _ _ _ _ _ _ => exact Laws.Fits.receivePack _ _ _ _ _ _ _ _ _
  | readPack _ => exact Laws.Fits.readPack _
  | readStack _ _ => exact Laws.Fits.readStack _ _
  | recordMove _ _ _ => exact Laws.Fits.recordMove _ _ _
  | holdPack _ => exact Laws.Fits.holdPack _
  | releasePack _ _ => exact Laws.Fits.releasePack _ _
  | scrapPack _ => exact Laws.Fits.scrapPack _
  | clearWetted _ _ => exact Laws.Fits.clearWetted _ _
  | findOldest _ _ => exact Laws.Fits.findOldest _ _
  | checkIn _ _ _ _ _ => exact Laws.Fits.checkIn _ _ _ _ _
  | readOrder _ _ => exact Laws.Fits.readOrder _ _
  | setPoint _ _ => exact Laws.Fits.setPoint _ _
  | setLevel _ _ => exact Laws.Fits.setLevel _ _
  | cancel _ => exact Laws.Fits.cancel _
  | depart _ => exact Laws.Fits.depart _
  | confirmProposal _ _ => exact Laws.Fits.confirmProposal _ _
  | rejectProposal _ _ => exact Laws.Fits.rejectProposal _ _
  | goOnShift _ _ => exact Laws.Fits.goOnShift _ _
  | goOffShift _ => exact Laws.Fits.goOffShift _
  | pollTask _ => exact Laws.Fits.pollTask _
  | accept _ _ => exact Laws.Fits.accept _ _
  | decline _ _ => exact Laws.Fits.decline _ _
  | lifted _ _ => exact Laws.Fits.lifted _ _
  | dropped _ _ => exact Laws.Fits.dropped _ _
  | reportMissing _ => exact Laws.Fits.reportMissing _
  | reportPosition _ _ => exact Laws.Fits.reportPosition _ _
  | setWatch _ _ _ _ _ => exact Laws.Fits.setWatch _ _ _ _ _
  | readWatch _ => exact Laws.Fits.readWatch _
  | clearWatch _ => exact Laws.Fits.clearWatch _
  | restart => exact Laws.Fits.restart
  | clearYardEnd | requestPeriod _ _ | readPeriod _ _ _ | powerOn _ _ | resetPin _ | partStop _ _ _
    | startupCheckEnd _ | supplyDip | supplyRecovery | pinChange _ _ | debounceExpiry _ | wettingSweepStack | scanStart
    | firstPassVisit | secondPassVisit | passEnd | taskOffer | offerLapse _ | taskLapse _ | carryOverdue _
    | proposalExpiry _ => cases h

/-- The command of a request is one its family has (R176). -/
theorem command_of_code {c : Instr} {code : Nat} (h : c.requestCode? = some code) :
    code % 16 < Config.commandCounts.getD (familyOf code) 0 := by
  cases c with
  | clearYardEnd | requestPeriod _ _ | readPeriod _ _ _ | powerOn _ _ | resetPin _ | partStop _ _ _
    | startupCheckEnd _ | supplyDip | supplyRecovery | pinChange _ _ | debounceExpiry _ | wettingSweepStack | scanStart
    | firstPassVisit | secondPassVisit | passEnd | taskOffer | offerLapse _ | taskLapse _ | carryOverdue _
    | proposalExpiry _ => cases h
  | _ => cases h; decide

theorem command_of_request {c : Instr} (h : c.isRequest = true) :
    c.requestCode % 16 < Config.commandCounts.getD (familyOf c.requestCode) 0 := by
  obtain ⟨code, hcode⟩ := Option.isSome_iff_exists.mp h
  have hsame : c.requestCode = code := by rw [Instr.requestCode, hcode]; rfl
  rw [hsame]
  exact command_of_code hcode

section
variable {c : Instr}

theorem requestCode_lt (hc : c.isRequest = true) (hwf : c.wellFormed = true) : c.requestCode < 128 := by
  obtain ⟨-, hfamily, -⟩ := fits_request hc hc hwf
  rw [familyOf] at hfamily
  omega

theorem stationField_lt (hc : c.isRequest = true) (hwf : c.wellFormed = true) : c.stationField < 256 := by
  obtain ⟨-, -, hstation⟩ := fits_request hc hc hwf
  unfold stationAllowed at hstation
  split_ifs at hstation <;> simp at hstation <;> omega

/-- The frame of a request passes the check. -/
theorem checkFrame_frame (hc : c.isRequest = true) (hwf : c.wellFormed = true) :
    checkFrame c.frame = some ⟨c.requestCode, c.stationField, numbers c⟩ := by
  obtain ⟨hlen, -, -⟩ := fits_request hc hc hwf
  have hcode := requestCode_lt hc hwf
  have hstation := stationField_lt hc hwf
  have hlength : (byte c.payload.length).toNat = c.payload.length := by
    rw [BitVec.toNat_ofNat, Nat.mod_eq_of_lt (by omega)]
  rw [Instr.frame, Instr.covered, List.cons_append, List.cons_append, List.cons_append, checkFrame_split,
    if_pos ⟨rfl, hlength.trans_le hlen, hlength.symm, rfl⟩, BitVec.toNat_ofNat, BitVec.toNat_ofNat,
    Nat.mod_eq_of_lt (by omega), Nat.mod_eq_of_lt (by omega)]
  rfl

/-- The fields of a request's frame are read as the request. -/
theorem readRequest_frame (hc : c.isRequest = true) (hwf : c.wellFormed = true) :
    readRequest ⟨c.requestCode, c.stationField, numbers c⟩ = .ok c := by
  obtain ⟨-, -, hstation⟩ := fits_request hc hc hwf
  rw [readRequest, if_neg (not_not_intro (command_of_request hc)), if_neg (by simp [hstation]),
    readsBack_request hc hwf]

end

/-- Settles O12: the frame of a request read back, and the bits of a bit set. -/
theorem requestFramesDecodeBack : Obligations.RequestFramesDecodeBack := by
  refine ⟨fun c hc hwf => ?_, fun n => ⟨rfl, rfl, rfl⟩, rfl, rfl, fun bits n h => getLsbD_bitsByte h n⟩
  rw [checkFrame_frame hc hwf, Option.map_some, readRequest_frame hc hwf]

/-! ## Request periods (R171 to R175) -/

section
variable {b : Byte} {rest : List Byte} {s : State}

/-- A period whose lead byte is not 0 is released to the port with fillers clocked out. -/
theorem exec_requestPeriod_fresh (hb : b ≠ 0#8) (hstop : s.stopped = false) :
    exec (.requestPeriod (b :: rest) .fresh) s =
      .next (releasePeriod (b :: rest) { s with miso := periodFillers s (rest.length + 1) 0 }) := by
  show Host.Outcome.next _ = _
  rw [if_neg (by simp [hstop])]
  exact congrArg _ (if_neg hb)

theorem periodFillers_ready (h : s.port.busy = false) (n : Nat) :
    periodFillers s n 0 = List.replicate n 0x00#8 := by
  simp [periodFillers, h, fillers, Config.idleFiller]

theorem periodFillers_busy (h : s.port.busy = true) (n : Nat) : periodFillers s n 0 = List.replicate n 0xA5#8 := by
  simp [periodFillers, h, Config.busyFiller]

/-- At an idle port the bytes are taken as a frame, with idle filler clocked out. -/
theorem exec_requestPeriod_idle (hb : b ≠ 0#8) (hstop : s.stopped = false) (hport : s.port = .idle) :
    exec (.requestPeriod (b :: rest) .fresh) s =
      .next (takeFrame (b :: rest) { s with miso := List.replicate (rest.length + 1) 0x00#8 }) := by
  rw [exec_requestPeriod_fresh hb hstop, releasePeriod, periodFillers_ready (by simp [hport, Port.busy])]
  simp [hport]

end

/-- Settles O15: the frame of a request read back, at an idle port. -/
theorem aRequestPeriodHandsTheRequestOver : Obligations.ARequestPeriodHandsTheRequestOver := by
  intro c s hc hwf hstop hport
  have hframe : c.frame = Config.requestStart :: (c.covered ++ [crc8 c.covered]) := rfl
  have hlen : c.frame.length = (c.covered ++ [crc8 c.covered]).length + 1 := by rw [hframe, List.length_cons]
  rw [hlen, hframe, exec_requestPeriod_idle (by decide) hstop hport, ← hframe, takeFrame, checkFrame_frame hc hwf]
  show Host.Outcome.next (match readRequest ⟨c.requestCode, c.stationField, numbers c⟩ with
    | .error status => _
    | .ok c' => _) = _
  rw [readRequest_frame hc hwf]
  simp [clearLast_eq (requestCode_lt hc hwf)]

end Sys2Proof.Proofs
end

section
/-!
PROOFS. The forms a payload may have (R189, R196), and how a request period meets the port (R171, R172, R174, R175,
R180).
-/

namespace Sys2Proof.Proofs

open Sys2Proof.Machine Sys2Proof.Safety

/-! ## A payload of another length (R196) -/

section
variable {p : List Nat}

theorem readBare_none (c : Instr) (h : p.length ≠ 0) : readBare c p = none := by
  unfold readBare
  split
  · exact absurd rfl h
  · rfl

theorem readByte_none (f : Nat → Instr) (h : p.length ≠ 1) : readByte f p = none := by
  unfold readByte
  split
  · exact absurd rfl h
  · rfl

theorem readTag_none (f : Nat → Instr) (h : p.length ≠ 3) : readTag f p = none := by
  unfold readTag
  split
  · exact absurd rfl h
  · rfl

theorem readPair_none (f : Nat → Nat → Instr) (h : p.length ≠ 2) : readPair f p = none := by
  unfold readPair
  split
  · exact absurd rfl h
  · rfl

theorem readHandleTag_none (f : Nat → Nat → Instr) (h : p.length ≠ 4) : readHandleTag f p = none := by
  unfold readHandleTag
  split
  · exact absurd rfl h
  · rfl

theorem readSetBay_none (h : p.length ≠ 7) : readSetBay p = none := by
  unfold readSetBay
  split
  · exact absurd rfl h
  · rfl

theorem readSetPoint_none (h0 : p.length ≠ 0) (h4 : p.length ≠ 4) : readSetPoint p = none := by
  unfold readSetPoint
  split
  · exact absurd rfl h0
  · exact absurd rfl h4
  · rfl

theorem readSetLine_none (h0 : p.length ≠ 0) (h6 : p.length ≠ 6) (h7 : p.length ≠ 7) : readSetLine p = none := by
  unfold readSetLine
  split
  · exact absurd rfl h0
  · exact absurd rfl h6
  · exact absurd rfl h7
  · rfl

theorem readSetTimers_none (h0 : p.length ≠ 0) (h8 : p.length ≠ 8) : readSetTimers p = none := by
  unfold readSetTimers
  split
  · exact absurd rfl h0
  · exact absurd rfl h8
  · rfl

theorem readSetWeights_none (h0 : p.length ≠ 0) (h4 : p.length ≠ 4) : readSetWeights p = none := by
  unfold readSetWeights
  split
  · exact absurd rfl h0
  · exact absurd rfl h4
  · rfl

theorem readSetDay_none (h0 : p.length ≠ 0) (h2 : p.length ≠ 2) : readSetDay p = none := by
  unfold readSetDay
  split
  · exact absurd rfl h0
  · exact absurd rfl h2
  · rfl

theorem readSetProduct_none (h : p.length ≠ 11) : readSetProduct p = none := by
  unfold readSetProduct
  split
  · exact absurd rfl h
  · rfl

theorem readSetSubstitutes_none (h : p.length = 0 ∨ 4 < p.length) : readSetSubstitutes p = none := by
  unfold readSetSubstitutes
  split
  · rfl
  · rw [List.length_cons] at h
    exact if_neg (by omega)

theorem readReceivePack_none (h12 : p.length ≠ 12) (h14 : p.length ≠ 14) : readReceivePack p = none := by
  unfold readReceivePack
  split
  · exact absurd rfl h12
  · exact absurd rfl h14
  · rfl

theorem readRecordMove_none (h : p.length ≠ 5) : readRecordMove p = none := by
  unfold readRecordMove
  split
  · exact absurd rfl h
  · rfl

theorem readReleasePack_none (h3 : p.length ≠ 3) (h5 : p.length ≠ 5) : readReleasePack p = none := by
  unfold readReleasePack
  split
  · exact absurd rfl h3
  · exact absurd rfl h5
  · rfl

theorem readClearWetted_none (h1 : p.length ≠ 1) (h3 : p.length ≠ 3) : readClearWetted p = none := by
  unfold readClearWetted
  split
  · exact absurd rfl h1
  · exact absurd rfl h3
  · rfl

theorem readFindOldest_none (h1 : p.length ≠ 1) (h4 : p.length ≠ 4) : readFindOldest p = none := by
  unfold readFindOldest
  split
  · exact absurd rfl h1
  · exact absurd rfl h4
  · rfl

/-- Each line of a CHECK_IN has eleven bytes. -/
theorem length_of_readLines {lines : List LineItem} (h : readLines p = some lines) : p.length = 11 * lines.length := by
  fun_induction readLines p generalizing lines with
  | case1 =>
    cases h
    rfl
  | case2 pr pc q lo hi r0 r1 c0 c1 sub dig rest ih =>
    simp only [Option.bind_eq_bind, Option.bind_eq_some_iff, Option.pure_def, Option.some.injEq] at h
    obtain ⟨-, -, -, -, more, hmore, rfl⟩ := h
    have hlen := ih hmore
    simp only [List.length_cons]
    omega
  | case3 => cases h

theorem readCheckIn_none (h : p.length ∉ [17, 28, 39, 50]) : readCheckIn p = none := by
  unfold readCheckIn
  split
  next t1 t0 lvl p1 p0 sup rest =>
    rw [Option.eq_none_iff_forall_ne_some]
    intro c hc
    simp only [Option.bind_eq_bind, Option.bind_eq_some_iff] at hc
    obtain ⟨_, -, lines, hlines, hcount⟩ := hc
    have hlen := length_of_readLines hlines
    simp only [List.length_cons, List.mem_cons, List.not_mem_nil, or_false] at h
    rw [if_neg (by omega)] at hcount
    cases hcount
  · rfl

theorem readReadOrder_none (h : 2 < p.length) : readReadOrder p = none := by
  unfold readReadOrder
  split
  · exact absurd h (by decide)
  · exact absurd h (by simp)
  · exact absurd h (by simp)
  · rfl

theorem readGoOnShift_none (station : Nat) (h : p.length ≠ 2) : readGoOnShift station p = none := by
  unfold readGoOnShift
  split
  · exact absurd rfl h
  · rfl

theorem readDropped_none (station : Nat) (h0 : p.length ≠ 0) (h2 : p.length ≠ 2) : readDropped station p = none := by
  unfold readDropped
  split
  · exact absurd rfl h0
  · exact absurd rfl h2
  · rfl

theorem readSetWatch_none (h : p.length ≠ 5) : readSetWatch p = none := by
  unfold readSetWatch
  split
  · exact absurd rfl h
  · rfl

theorem readReadWatch_none (h0 : p.length ≠ 0) (h1 : p.length ≠ 1) : readReadWatch p = none := by
  unfold readReadWatch
  split
  · exact absurd rfl h0
  · exact absurd rfl h1
  · rfl


/-! ## The lengths of each family's payloads (R196) -/

theorem readInquiry_none {cmd : Nat} (hcmd : cmd < 5)
    (h : p.length ∉ ([[0], [0], [0], [0], [0, 3]] : List (List Nat)).getD cmd []) : readInquiry cmd p = none := by
  unfold readInquiry
  split
  case h_6 => exact absurd h (by simp)
  case h_7 => rfl
  all_goals exact absurd h (by decide)

theorem readYard_none {cmd : Nat} (hcmd : cmd < 10) (h : p.length ∉ ([[7], [1], [0, 4], [0, 6, 7], [0, 8], [0, 4], [0, 2], [0], [0], [0]] : List (List Nat)).getD cmd []) :
    readYard cmd p = none := by
  match cmd, hcmd with
  | 0, _ =>
    exact readSetBay_none (by simpa using h)
  | 1, _ =>
    exact readByte_none _ (by simpa using h)
  | 2, _ =>
    obtain ⟨h0, h4⟩ : p.length ≠ 0 ∧ p.length ≠ 4 := by simpa using h
    exact readSetPoint_none h0 h4
  | 3, _ =>
    obtain ⟨h0, h6, h7⟩ : p.length ≠ 0 ∧ p.length ≠ 6 ∧ p.length ≠ 7 := by simpa using h
    exact readSetLine_none h0 h6 h7
  | 4, _ =>
    obtain ⟨h0, h8⟩ : p.length ≠ 0 ∧ p.length ≠ 8 := by simpa using h
    exact readSetTimers_none h0 h8
  | 5, _ =>
    obtain ⟨h0, h4⟩ : p.length ≠ 0 ∧ p.length ≠ 4 := by simpa using h
    exact readSetWeights_none h0 h4
  | 6, _ =>
    obtain ⟨h0, h2⟩ : p.length ≠ 0 ∧ p.length ≠ 2 := by simpa using h
    exact readSetDay_none h0 h2
  | 7, _ =>
    exact readBare_none _ (by simpa using h)
  | 8, _ =>
    exact readBare_none _ (by simpa using h)
  | 9, _ =>
    exact readBare_none _ (by simpa using h)

theorem readProducts_none {cmd : Nat} (hcmd : cmd < 3)
    (h : p.length ∉ ([[11], [1], [1, 2, 3, 4]] : List (List Nat)).getD cmd []) : readProducts cmd p = none := by
  match cmd, hcmd with
  | 0, _ => exact readSetProduct_none (by simpa using h)
  | 1, _ => exact readByte_none _ (by simpa using h)
  | 2, _ =>
    obtain ⟨h1, h2, h3, h4⟩ : p.length ≠ 1 ∧ p.length ≠ 2 ∧ p.length ≠ 3 ∧ p.length ≠ 4 := by simpa using h
    exact readSetSubstitutes_none (by omega)

theorem readPacks_none {cmd : Nat} (hcmd : cmd < 9) (h : p.length ∉ ([[12, 14], [3], [2], [5], [3], [3, 5], [3], [1, 3], [1, 4]] : List (List Nat)).getD cmd []) :
    readPacks cmd p = none := by
  match cmd, hcmd with
  | 0, _ =>
    obtain ⟨h12, h14⟩ : p.length ≠ 12 ∧ p.length ≠ 14 := by simpa using h
    exact readReceivePack_none h12 h14
  | 1, _ =>
    exact readTag_none _ (by simpa using h)
  | 2, _ =>
    exact readPair_none _ (by simpa using h)
  | 3, _ =>
    exact readRecordMove_none (by simpa using h)
  | 4, _ =>
    exact readTag_none _ (by simpa using h)
  | 5, _ =>
    obtain ⟨h3, h5⟩ : p.length ≠ 3 ∧ p.length ≠ 5 := by simpa using h
    exact readReleasePack_none h3 h5
  | 6, _ =>
    exact readTag_none _ (by simpa using h)
  | 7, _ =>
    obtain ⟨h1, h3⟩ : p.length ≠ 1 ∧ p.length ≠ 3 := by simpa using h
    exact readClearWetted_none h1 h3
  | 8, _ =>
    obtain ⟨h1, h4⟩ : p.length ≠ 1 ∧ p.length ≠ 4 := by simpa using h
    exact readFindOldest_none h1 h4

theorem readOrders_none {cmd : Nat} (hcmd : cmd < 8) (h : p.length ∉ ([[17, 28, 39, 50], [0, 1, 2], [2], [2], [1], [1], [4], [4]] : List (List Nat)).getD cmd []) :
    readOrders cmd p = none := by
  match cmd, hcmd with
  | 0, _ =>
    exact readCheckIn_none h
  | 1, _ =>
    obtain ⟨h0, h1, h2⟩ : p.length ≠ 0 ∧ p.length ≠ 1 ∧ p.length ≠ 2 := by simpa using h
    exact readReadOrder_none (by omega)
  | 2, _ =>
    exact readPair_none _ (by simpa using h)
  | 3, _ =>
    exact readPair_none _ (by simpa using h)
  | 4, _ =>
    exact readByte_none _ (by simpa using h)
  | 5, _ =>
    exact readByte_none _ (by simpa using h)
  | 6, _ =>
    exact readHandleTag_none _ (by simpa using h)
  | 7, _ =>
    exact readHandleTag_none _ (by simpa using h)

theorem readStations_none {cmd : Nat} (station : Nat) (hcmd : cmd < 9) (h : p.length ∉ ([[2], [0], [0], [1], [1], [3], [0, 2], [0], [1]] : List (List Nat)).getD cmd []) :
    readStations cmd station p = none := by
  match cmd, hcmd with
  | 0, _ =>
    exact readGoOnShift_none _ (by simpa using h)
  | 1, _ =>
    exact readBare_none _ (by simpa using h)
  | 2, _ =>
    exact readBare_none _ (by simpa using h)
  | 3, _ =>
    exact readByte_none _ (by simpa using h)
  | 4, _ =>
    exact readByte_none _ (by simpa using h)
  | 5, _ =>
    exact readTag_none _ (by simpa using h)
  | 6, _ =>
    obtain ⟨h0, h2⟩ : p.length ≠ 0 ∧ p.length ≠ 2 := by simpa using h
    exact readDropped_none _ h0 h2
  | 7, _ =>
    exact readBare_none _ (by simpa using h)
  | 8, _ =>
    exact readByte_none _ (by simpa using h)

theorem readWatches_none {cmd : Nat} (hcmd : cmd < 3) (h : p.length ∉ ([[5], [0, 1], [1]] : List (List Nat)).getD cmd []) :
    readWatches cmd p = none := by
  match cmd, hcmd with
  | 0, _ =>
    exact readSetWatch_none (by simpa using h)
  | 1, _ =>
    obtain ⟨h0, h1⟩ : p.length ≠ 0 ∧ p.length ≠ 1 := by simpa using h
    exact readReadWatch_none h0 h1
  | 2, _ =>
    exact readByte_none _ (by simpa using h)

end

/-- A payload of a length that R196 does not list for the command is no form of it. -/
theorem readPayload_none {lengths : List (List (List Nat))} {family cmd : Nat} (station : Nat) {p : List Nat}
    (hl : lengths =
      [[[0], [0], [0], [0], [0, 3]],
        [[7], [1], [0, 4], [0, 6, 7], [0, 8], [0, 4], [0, 2], [0], [0], [0]],
        [[11], [1], [1, 2, 3, 4]],
        [[12, 14], [3], [2], [5], [3], [3, 5], [3], [1, 3], [1, 4]],
        [[17, 28, 39, 50], [0, 1, 2], [2], [2], [1], [1], [4], [4]],
        [[2], [0], [0], [1], [1], [3], [0, 2], [0], [1]],
        [[5], [0, 1], [1]],
        [[0]]])
    (hcmd : cmd < (lengths.getD family []).length) (h : p.length ∉ (lengths.getD family []).getD cmd []) :
    readPayload family cmd station p = none := by
  subst hl
  match family with
  | 0 => exact readInquiry_none hcmd h
  | 1 => exact readYard_none hcmd h
  | 2 => exact readProducts_none hcmd h
  | 3 => exact readPacks_none hcmd h
  | 4 => exact readOrders_none hcmd h
  | 5 => exact readStations_none station hcmd h
  | 6 => exact readWatches_none hcmd h
  | 7 =>
    obtain rfl : cmd = 0 := Nat.lt_one_iff.mp hcmd
    exact readBare_none .restart (by simpa using h)
  | n + 8 => exact absurd hcmd (by simp)

/-! ## Request periods (R171, R172, R174, R175, R180) -/

section
variable {b : Byte} {rest : List Byte} {s : State} {f : Frame} {status : Status}

theorem exec_requestPeriod_beforeReset (bytes : List Byte) (hstop : s.stopped = false) :
    exec (.requestPeriod bytes .beforeReset) s = .next (loseRequest bytes s) := by
  show Host.Outcome.next _ = _
  rw [if_neg (by simp [hstop])]

/-- What a refusal of the port's own leaves. -/
theorem respondAs_refused (code station : Nat) (h : status ≠ .ok) (t : State) :
    respondAs code station false status [] t =
      { t with port := .answered ⟨code, status, [], false⟩, lastStatus := some ⟨status, code, station⟩ } := if_neg h

/-- A frame is taken whatever the port's condition was, and leaves it another. -/
theorem takeFrame_port {bytes : List Byte} (port : Port) (s : State) :
    takeFrame bytes { s with port := port } = takeFrame bytes s := by
  have hrespond : ∀ (code station : Nat) (status : Status) (t : State),
      respondAs code station false status [] { t with port := port } = respondAs code station false status [] t := by
    intro code station status t
    unfold respondAs
    split_ifs <;> rfl
  have hclear : ∀ code, clearLast code { s with port := port } = { clearLast code s with port := port } := by
    intro code
    unfold clearLast
    split_ifs <;> rfl
  unfold takeFrame
  cases checkFrame bytes with
  | none => exact hrespond _ _ _ s
  | some f =>
    dsimp only
    cases readRequest f with
    | error status =>
      dsimp only
      rw [hclear, hrespond]
    | ok c =>
      dsimp only
      rw [hclear]

theorem takeFrame_bad (h : checkFrame (b :: rest) = none) :
    takeFrame (b :: rest) s =
      { s with
        port := .answered ⟨(rest.getD 0 0#8).toNat, .badFrame, [], false⟩
        lastStatus := some ⟨.badFrame, (rest.getD 0 0#8).toNat, (rest.getD 1 0#8).toNat⟩ } := by
  rw [takeFrame, h]
  exact respondAs_refused _ _ (by decide) s

/-- A good frame that spells no request is refused, and the last status set anew. -/
theorem takeFrame_refused (h : checkFrame (b :: rest) = some f) (hr : readRequest f = .error status)
    (hn : status ≠ .ok) :
    takeFrame (b :: rest) s =
      { s with
        port := .answered ⟨f.code, status, [], false⟩
        lastStatus := some ⟨status, f.code, f.station⟩ } := by
  have hclear : ∃ l, clearLast f.code s = { s with lastStatus := l } := by
    unfold clearLast
    split_ifs
    · exact ⟨_, rfl⟩
    · exact ⟨s.lastStatus, rfl⟩
  obtain ⟨l, hl⟩ := hclear
  rw [takeFrame, h]
  show (match readRequest f with
    | .error status => respondAs f.code f.station false status [] (clearLast f.code s)
    | .ok c => { clearLast f.code s with port := .executing c }) = _
  rw [hr]
  show respondAs f.code f.station false status [] (clearLast f.code s) = _
  rw [respondAs_refused _ _ hn, hl]

end

/-- Why a good frame spells no request: no such command, a station field that is not allowed, or no such form. -/
theorem readRequest_error {f : Frame} {known allowed : Bool} {status : Status}
    (hknown : known = decide (f.code % 16 < [5, 10, 3, 9, 8, 9, 3, 1].getD (f.code / 16) 0))
    (hallowed : allowed = decide (if f.code / 16 = 5 then 1 ≤ f.station ∧ f.station ≤ 8 else f.station = 0))
    (hwhy : (known = false ∧ status = .unknownRequest) ∨
      (known = true ∧ allowed = false ∧ status = .badField) ∨
      (known = true ∧ allowed = true ∧ readPayload (f.code / 16) (f.code % 16) f.station f.payload = none ∧
        status = .badField)) :
    readRequest f = .error status ∧ status ≠ .ok := by
  have hk : known = true ↔ f.code % 16 < Config.commandCounts.getD (familyOf f.code) 0 := by
    rw [hknown, decide_eq_true_eq]
    rfl
  have ha : allowed = stationAllowed (familyOf f.code) f.station := by
    rw [hallowed, stationAllowed, familyOf]
    by_cases h5 : f.code / 16 = 5 <;> simp [h5]
  rcases hwhy with ⟨h, rfl⟩ | ⟨h, h', rfl⟩ | ⟨h, h', hform, rfl⟩
  · exact ⟨if_pos (mt hk.mpr (by simp [h])), nofun⟩
  · refine ⟨?_, nofun⟩
    rw [readRequest, if_neg (not_not_intro (hk.mp h)), if_pos (ha.symm.trans h')]
  · refine ⟨?_, nofun⟩
    rw [readRequest, if_neg (not_not_intro (hk.mp h)), if_neg (by rw [← ha, h']; decide), familyOf, hform]

/-- Settles O14: the port's condition, then the frame check, then the checks of the request. -/
theorem periodsMeetThePort : Obligations.PeriodsMeetThePort := by
  refine ⟨fun b rest s hb hstop => ⟨fun hport => ?_, fun c hport => ?_, fun r hport => ?_, fun hport hbad => ?_, ?_⟩,
    fun bytes n supply s hstop => ⟨?_, fun hport => ?_, fun hport => ?_⟩,
    fun lengths family command station payload hl => readPayload_none station hl⟩
  · rw [exec_requestPeriod_fresh hb hstop, periodFillers_busy (by rw [hport]; rfl), releasePeriod]
    simp [hport]
  · rw [exec_requestPeriod_fresh hb hstop, periodFillers_busy (by rw [hport]; rfl), releasePeriod]
    simp [hport]
  · rw [exec_requestPeriod_fresh hb hstop, periodFillers_ready (by rw [hport]; rfl), releasePeriod,
      exec_requestPeriod_idle (s := { post .portOverrun s with port := .idle }) hb hstop rfl]
    show Host.Outcome.next (match s.port with
      | .starting => _
      | .idle => _
      | .executing _ => _
      | .answered _ => _) = _
    rw [hport]
    exact congrArg _ (takeFrame_port .idle (post .portOverrun _)).symm
  · rw [exec_requestPeriod_idle hb hstop hport, takeFrame_bad hbad]
  · intro f known allowed status hport hgood hknown hallowed hwhy
    obtain ⟨hread, hn⟩ := readRequest_error hknown hallowed hwhy
    rw [exec_requestPeriod_idle hb hstop hport, takeFrame_refused hgood hread hn]
  · exact exec_readPeriod_beforeReset hstop
  · rw [exec_requestPeriod_beforeReset bytes hstop, loseRequest, if_pos hport]
    rfl
  · rw [exec_requestPeriod_beforeReset bytes hstop, loseRequest, if_neg hport]
    rfl

end Sys2Proof.Proofs
end

section
/-!
PROOFS. The guard of the supply (R187): each guarded request judges its fields and then the supply, and goes no
further while that is low.
-/

namespace Sys2Proof.Proofs

open Sys2Proof.Machine Sys2Proof.Safety

/-! ## Which block serves a guarded request -/

theorem serves_setSubstitutes (code : Nat) (codes : List Nat) :
    Serves (.setSubstitutes code codes) (setSubstitutesBlock code codes) :=
  serves_plain 0x22 (fun _ => rfl) nofun rfl rfl (by decide)

theorem serves_receivePack (tag product length count mass bay stack : Nat) (drying : Drying) (ready : Option Nat) :
    Serves (.receivePack tag product length count mass drying bay stack ready)
      (receivePackBlock tag product length count mass drying bay stack ready) :=
  serves_plain 0x30 (fun _ => rfl) nofun rfl rfl (by decide)

theorem serves_recordMove (tag bay stack : Nat) : Serves (.recordMove tag bay stack) (recordMoveBlock tag bay stack) :=
  serves_plain 0x33 (fun _ => rfl) nofun rfl rfl (by decide)

theorem serves_holdPack (tag : Nat) : Serves (.holdPack tag) (holdPackBlock tag) :=
  serves_plain 0x34 (fun _ => rfl) nofun rfl rfl (by decide)

theorem serves_releasePack (tag : Nat) (place : Option (Nat × Nat)) :
    Serves (.releasePack tag place) (releasePackBlock tag place) :=
  serves_plain 0x35 (fun _ => rfl) nofun rfl rfl (by decide)

theorem serves_scrapPack (tag : Nat) : Serves (.scrapPack tag) (scrapPackBlock tag) :=
  serves_plain 0x36 (fun _ => rfl) nofun rfl rfl (by decide)

theorem serves_clearWetted (tag bay : Option Nat) : Serves (.clearWetted tag bay) (clearWettedBlock tag bay) :=
  serves_plain 0x37 (fun _ => rfl) nofun rfl rfl (by decide)

theorem serves_cancel (h : Nat) : Serves (.cancel h) (cancelBlock h) :=
  serves_plain 0x44 (fun _ => rfl) nofun rfl rfl (by decide)

theorem serves_depart (h : Nat) : Serves (.depart h) (departBlock h) :=
  serves_plain 0x45 (fun _ => rfl) nofun rfl rfl (by decide)

theorem serves_confirmProposal (h tag : Nat) : Serves (.confirmProposal h tag) (confirmProposalBlock h tag) :=
  serves_plain 0x46 (fun _ => rfl) nofun rfl rfl (by decide)

theorem serves_lifted {n : Nat} (h1 : 1 ≤ n) (h8 : n ≤ 8) (tag : Nat) : Serves (.lifted n tag) (liftedBlock n tag) :=
  serves_station 0x55 h1 h8 (fun _ => rfl) nofun rfl rfl (by decide)

theorem serves_dropped {n : Nat} (h1 : 1 ≤ n) (h8 : n ≤ 8) (dest : Destination) :
    Serves (.dropped n dest) (droppedBlock n dest) :=
  serves_station 0x56 h1 h8 (fun _ => rfl) nofun rfl rfl (by decide)

theorem serves_reportMissing {n : Nat} (h1 : 1 ≤ n) (h8 : n ≤ 8) : Serves (.reportMissing n) (reportMissingBlock n) :=
  serves_station 0x57 h1 h8 (fun _ => rfl) nofun rfl rfl (by decide)

/-- A sender that is no station is refused before its block takes the request (R172 step 2). -/
theorem exec_of_no_station {c : Instr} {block : State → Answer} {n : Nat} {s : State} (code : Nat)
    (he : ∀ s, exec c s = serve c block s) (hc : c.requestCode = code) (hn : c.stationField = n) (h5 : code / 16 = 5)
    (hout : ¬ (1 ≤ n ∧ n ≤ 8)) (hs : atBlock c s) : exec c s = refusedWith c .badField s := by
  have hno : ¬ stationAllowed (familyOf c.requestCode) c.stationField = true := by
    rw [hc, hn]
    simpa [stationAllowed, familyOf, h5] using hout
  rw [he, serve, intake_of_atBlock _ hs, takeRequest, if_neg hno, respond_refuse c (by decide)]
  rfl

/-! ## What a guarded request answers at a low supply -/

/-- What R187 asks of a request at a low supply. -/
def RefusedLow (c : Instr) (s : State) : Prop :=
  (exec c s = refusedWith c .powerLow s ∨ exec c s = refusedWith c .badField s) ∧
    (s.stations.length = 8 → fieldsPass s c → exec c s = refusedWith c .powerLow s) ∧
    (¬ fieldsPass s c → exec c s = refusedWith c .badField s)

section
variable {c : Instr} {block : State → Answer} {s : State}

theorem refusedLow_of_answers (hpass : fieldsPass s c → exec c s = refusedWith c .powerLow s)
    (hfail : ¬ fieldsPass s c → exec c s = refusedWith c .badField s) : RefusedLow c s := by
  by_cases h : fieldsPass s c
  · exact ⟨Or.inl (hpass h), fun _ => hpass, hfail⟩
  · exact ⟨Or.inr (hfail h), fun _ => hpass, hfail⟩

/-- A block that judges fields and then the supply. -/
theorem refusedLow_of_block (h : Serves c block) (hs : atBlock c s) (hpass : fieldsPass s c → block s = refuse .powerLow s)
    (hfail : ¬ fieldsPass s c → block s = refuse .badField s) : RefusedLow c s :=
  refusedLow_of_answers (fun hf => h.refused hs (by decide) (hpass hf)) fun hf => h.refused hs (by decide) (hfail hf)

end

/-- Two checks at a low supply: the fields, then the supply. -/
theorem checks_low {s : State} {p : Prop} [Decidable p] {a : Answer} (hlow : s.low = true) :
    (p → (if ¬ p then refuse .badField s else if s.low then refuse .powerLow s else a) = refuse .powerLow s) ∧
      (¬ p → (if ¬ p then refuse .badField s else if s.low then refuse .powerLow s else a) = refuse .badField s) :=
  ⟨fun h => by rw [if_neg (not_not_intro h), if_pos hlow], fun h => if_pos h⟩

/-- A block that begins with the two checks. -/
theorem refusedLow_of_checks {c : Instr} {block : State → Answer} {s : State} (p : Prop) [Decidable p] {a : Answer}
    (h : Serves c block) (hs : atBlock c s) (hlow : s.low = true) (hfields : fieldsPass s c ↔ p)
    (hb : block s = if ¬ p then refuse .badField s else if s.low then refuse .powerLow s else a) : RefusedLow c s :=
  refusedLow_of_block h hs (fun hf => hb.trans ((checks_low hlow).1 (hfields.mp hf))) fun hf =>
    hb.trans ((checks_low hlow).2 (mt hfields.mpr hf))

theorem withPack_low {s : State} {tag : Nat} {k : Pack → Answer} (hlow : s.low = true) :
    (tagOk tag → withPack tag s k = refuse .powerLow s) ∧ (¬ tagOk tag → withPack tag s k = refuse .badField s) :=
  checks_low hlow

section
variable {s : State}

theorem receiveOk_iff (s : State) (tag product length count mass bay stack : Nat) (drying : Drying)
    (ready : Option Nat) :
    receiveOk s tag product length count mass drying ready = true ↔
      fieldsPass s (.receivePack tag product length count mass drying bay stack ready) := by
  have hkiln : (decide (drying = .kiln) && ready.isSome) = false ↔ (drying = .kiln → ready = none) := by
    cases ready <;> cases drying <;> simp
  have hday : ready.getD 0 ≤ 65535 ↔ ∀ d, ready = some d → d ≤ 65535 := by cases ready <;> simp
  simp only [receiveOk, fieldsPass, inRange, Config.maxTag, Bool.and_eq_true, decide_eq_true_eq, Bool.not_eq_true',
    hkiln, hday, and_assoc]

theorem setProductBlock_low (code : Nat) (defined : Bool) (f : ProductFields) (hlow : s.low = true) :
    (fieldsPass s (.setProduct code defined f) → setProductBlock code defined f s = refuse .powerLow s) ∧
      (¬ fieldsPass s (.setProduct code defined f) → setProductBlock code defined f s = refuse .badField s) := by
  have hfields : fieldsPass s (.setProduct code defined f) ↔
      ¬ (¬ codeOk code ∨ (defined = true ∧ ¬ productFieldsOk f)) := by
    simp only [fieldsPass, codeOk, productFieldsOk, inRange]
    by_cases hdef : defined = true
    · simp only [hdef, true_and, forall_const]
      omega
    · simp [hdef]
  rw [hfields, not_not]
  exact ⟨fun h => by rw [setProductBlock, if_neg h, if_pos hlow], fun h => if_pos h⟩

theorem setSubstitutesBlock_low (code : Nat) (codes : List Nat) (hlow : s.low = true) :
    (fieldsPass s (.setSubstitutes code codes) → setSubstitutesBlock code codes s = refuse .powerLow s) ∧
      (¬ fieldsPass s (.setSubstitutes code codes) → setSubstitutesBlock code codes s = refuse .badField s) := by
  have hfields : fieldsPass s (.setSubstitutes code codes) ↔
      ¬ (¬ codeOk code ∨ 3 < codes.length ∨ ¬ ∀ q ∈ codes, codeOk q) := by
    simp only [fieldsPass, not_or, not_not, Nat.not_lt, and_assoc]
  rw [hfields, not_not]
  exact ⟨fun h => by rw [setSubstitutesBlock, if_neg h, if_pos hlow], fun h => if_pos h⟩

theorem setDayBlock_low (d : Nat) (hlow : s.low = true) :
    (fieldsPass s (.setDay (some d)) → setDayBlock (some d) s = refuse .powerLow s) ∧
      (¬ fieldsPass s (.setDay (some d)) → setDayBlock (some d) s = refuse .badField s) := by
  have hfields : fieldsPass s (.setDay (some d)) ↔ ¬ (d ≤ s.settings.yardDay ∨ 65535 < d) := by
    simp only [fieldsPass]
    omega
  rw [hfields, not_not]
  refine ⟨fun h => ?_, fun h => if_pos h⟩
  show (if d ≤ s.settings.yardDay ∨ 65535 < d then _ else _) = _
  rw [if_neg h, if_pos hlow]

theorem receivePackBlock_low (tag product length count mass bay stack : Nat) (drying : Drying) (ready : Option Nat)
    (hlow : s.low = true) :
    (fieldsPass s (.receivePack tag product length count mass drying bay stack ready) →
        receivePackBlock tag product length count mass drying bay stack ready s = refuse .powerLow s) ∧
      (¬ fieldsPass s (.receivePack tag product length count mass drying bay stack ready) →
        receivePackBlock tag product length count mass drying bay stack ready s = refuse .badField s) := by
  rw [← receiveOk_iff]
  refine ⟨fun h => ?_, fun h => if_pos (Bool.eq_false_iff.mpr h)⟩
  rw [receivePackBlock, if_neg (by simp [h]), if_pos hlow]

theorem refusedLow_clearWetted (tag bay : Option Nat) (hs : atBlock (.clearWetted tag bay) s) (hlow : s.low = true) :
    RefusedLow (.clearWetted tag bay) s := by
  have hserves := serves_clearWetted tag bay
  cases tag with
  | none =>
    cases bay with
    | none => exact refusedLow_of_block hserves hs False.elim fun _ => rfl
    | some b =>
      refine refusedLow_of_block hserves hs (fun h => ?_) fun h => if_pos (Nat.not_le.mp h)
      show (if 63 < b then _ else _) = _
      rw [if_neg (Nat.not_lt.mpr h), if_pos hlow]
  | some t =>
    cases bay with
    | none => exact refusedLow_of_block hserves hs (withPack_low hlow).1 (withPack_low hlow).2
    | some b => exact refusedLow_of_block hserves hs False.elim fun _ => rfl

theorem refusedLow_restart (hs : atBlock .restart s) (hlow : s.low = true) : RefusedLow .restart s := by
  have hblock : restartBlock s = refuse .powerLow s := if_pos hlow
  exact refusedLow_of_answers (fun _ => serve_refused (by decide) hs restart_allowed hblock) fun h => (h trivial).elim

theorem refusedLow_clearYard (hs : atBlock .clearYard s) (hlow : s.low = true) : RefusedLow .clearYard s := by
  refine refusedLow_of_answers (fun _ => ?_) fun h => (h trivial).elim
  rw [exec_clearYard hs, takeClearYard, if_pos hlow, respond_refuse _ (by decide)]
  rfl

theorem withStation_some {n : Nat} {st : Station} (h : s.station n = some st) (k : Station → Answer) :
    withStation n s k = k st := by
  simp [withStation, h]

/-- A sender without a station record is refused where its number is one of the eight and the records are not. -/
theorem refusedLow_lifted (n tag : Nat) (hs : atBlock (.lifted n tag) s) (hlow : s.low = true) :
    RefusedLow (.lifted n tag) s := by
  by_cases hn : 1 ≤ n ∧ n ≤ 8
  · obtain ⟨h1, h8⟩ := hn
    have hserves := serves_lifted h1 h8 tag
    cases hst : s.station n with
    | none =>
      have hblock : liftedBlock n tag s = refuse .badField s := by rw [liftedBlock, withStation, hst]
      have hbad := hserves.refused hs (by decide) hblock
      refine ⟨Or.inr hbad, fun hlen => ?_, fun _ => hbad⟩
      have hin : n - 1 < s.stations.length := by omega
      rw [State.station, nth, if_neg (by omega), List.getElem?_eq_getElem hin] at hst
      cases hst
    | some st =>
      refine refusedLow_of_checks (tagOk tag) (a := if st.state = .offShift then refuse .wrongState s
        else match heldTask s n with
          | some t => liftHeld n tag t s
          | none => liftIdle n tag s) hserves hs hlow ⟨fun h => h.2.2, fun h => ⟨h1, h8, h⟩⟩ ?_
      exact withStation_some hst _
  · exact refusedLow_of_answers (fun h => (hn ⟨h.1, h.2.1⟩).elim) fun _ =>
      exec_of_no_station 0x55 (fun _ => rfl) rfl rfl (by decide) hn hs

theorem destinationOk_iff (s : State) (dest : Destination) :
    destinationOk s dest = true ↔
      ∀ bay stack, dest = .stack bay stack → bay ≤ 63 ∧ stack < (s.bay bay).stackCount := by
  cases dest <;> simp [destinationOk]

theorem refusedLow_dropped (n : Nat) (dest : Destination) (hs : atBlock (.dropped n dest) s) (hlow : s.low = true) :
    RefusedLow (.dropped n dest) s := by
  by_cases hn : 1 ≤ n ∧ n ≤ 8
  · obtain ⟨h1, h8⟩ := hn
    have hfields : fieldsPass s (.dropped n dest) ↔ destinationOk s dest = true := by
      rw [destinationOk_iff]
      exact ⟨fun h => h.2.2, fun h => ⟨h1, h8, h⟩⟩
    refine refusedLow_of_block (serves_dropped h1 h8 dest) hs (fun h => ?_) fun h =>
      if_pos (Bool.eq_false_iff.mpr (mt hfields.mpr h))
    rw [droppedBlock, if_neg (by rw [hfields.mp h]; decide), if_pos hlow]
  · exact refusedLow_of_answers (fun h => (hn ⟨h.1, h.2.1⟩).elim) fun _ =>
      exec_of_no_station 0x56 (fun _ => rfl) rfl rfl (by decide) hn hs

theorem refusedLow_reportMissing (n : Nat) (hs : atBlock (.reportMissing n) s) (hlow : s.low = true) :
    RefusedLow (.reportMissing n) s := by
  by_cases hn : 1 ≤ n ∧ n ≤ 8
  · exact refusedLow_of_block (serves_reportMissing hn.1 hn.2) hs (fun _ => if_pos hlow) fun h => (h hn).elim
  · exact refusedLow_of_answers (fun h => (hn h).elim) fun _ =>
      exec_of_no_station 0x57 (fun _ => rfl) rfl rfl (by decide) hn hs

end

/-- Settles O18: the checks of each guarded request up to the supply's. -/
theorem aLowSupplyRefusesRetainedChanges : Obligations.ALowSupplyRefusesRetainedChanges := by
  intro c s hguard hs hsupply
  have hlow := low_of_low hsupply
  show RefusedLow c s
  cases c with
  | setBay b e c r k n t =>
    exact refusedLow_of_checks (bayFieldsOk b r k n t) (serves_setBay b r k n t e c) hs hlow
      (by simp only [fieldsPass, bayFieldsOk, inRange, and_assoc]) rfl
  | setLoadingPoint w =>
    cases w with
    | none => cases hguard
    | some w =>
      exact refusedLow_of_checks (pointWriteOk w) (serves_setLoadingPoint (some w)) hs hlow
        (by simp only [fieldsPass, and_assoc]) rfl
  | setLine w =>
    cases w with
    | none => cases hguard
    | some w => exact refusedLow_of_checks (lineWriteOk w) (serves_setLine (some w)) hs hlow Iff.rfl rfl
  | setTimers w =>
    cases w with
    | none => cases hguard
    | some w =>
      exact refusedLow_of_checks (timersOk w) (serves_setTimers (some w)) hs hlow
        (by simp only [fieldsPass, and_assoc]) rfl
  | setWeights w =>
    cases w with
    | none => cases hguard
    | some w => exact refusedLow_of_checks (weightsOk w) (serves_setWeights (some w)) hs hlow Iff.rfl rfl
  | setDay d =>
    cases d with
    | none => cases hguard
    | some d =>
      have ⟨h1, h2⟩ := setDayBlock_low d hlow
      exact refusedLow_of_block (serves_setDay (some d)) hs h1 h2
  | clearYard => exact refusedLow_clearYard hs hlow
  | setProduct code d f =>
    have ⟨h1, h2⟩ := setProductBlock_low code d f hlow
    exact refusedLow_of_block (serves_setProduct code d f) hs h1 h2
  | setSubstitutes code codes =>
    have ⟨h1, h2⟩ := setSubstitutesBlock_low code codes hlow
    exact refusedLow_of_block (serves_setSubstitutes code codes) hs h1 h2
  | receivePack t p l c m d b k r =>
    have ⟨h1, h2⟩ := receivePackBlock_low t p l c m b k d r hlow
    exact refusedLow_of_block (serves_receivePack t p l c m b k d r) hs h1 h2
  | recordMove t b k =>
    exact refusedLow_of_block (serves_recordMove t b k) hs (withPack_low hlow).1 (withPack_low hlow).2
  | holdPack t => exact refusedLow_of_block (serves_holdPack t) hs (withPack_low hlow).1 (withPack_low hlow).2
  | releasePack t p => exact refusedLow_of_block (serves_releasePack t p) hs (withPack_low hlow).1 (withPack_low hlow).2
  | scrapPack t => exact refusedLow_of_block (serves_scrapPack t) hs (withPack_low hlow).1 (withPack_low hlow).2
  | clearWetted t b => exact refusedLow_clearWetted t b hs hlow
  | cancel h => exact refusedLow_of_checks (handleOk h) (serves_cancel h) hs hlow Iff.rfl rfl
  | depart h => exact refusedLow_of_checks (handleOk h) (serves_depart h) hs hlow Iff.rfl rfl
  | confirmProposal h t =>
    have hfields : fieldsPass s (.confirmProposal h t) ↔ ¬ (¬ handleOk h ∨ ¬ tagOk t) := by
      simp only [fieldsPass, not_or, not_not, tagOk, and_assoc, Config.maxTag]
    refine refusedLow_of_block (serves_confirmProposal h t) hs (fun hf => ?_) fun hf =>
      if_pos (not_not.mp (mt hfields.mpr hf))
    rw [confirmProposalBlock, if_neg (hfields.mp hf), if_pos hlow]
  | lifted n t => exact refusedLow_lifted n t hs hlow
  | dropped n d => exact refusedLow_dropped n d hs hlow
  | reportMissing n => exact refusedLow_reportMissing n hs hlow
  | restart => exact refusedLow_restart hs hlow
  | _ => cases hguard

end Sys2Proof.Proofs
end

section
/-!
PROOFS. Family 3: what a removal and a put-down write (R7 to R9), RECEIVE_PACK (R43, R44) and RECORD_MOVE (R48, R49).
-/

namespace Sys2Proof.Proofs

open Sys2Proof.Machine Sys2Proof.Safety

/-! ## Removals and put-downs (R7 to R9) -/

theorem removeFromStack_located {s : State} {tag : Nat} {p : Pack} {l : Location} (hp : Table.get s.packs tag = some p)
    (hl : p.location = some l) :
    removeFromStack tag s =
      { s with
        packs :=
          s.packs.map fun e =>
            (e.1,
              if e.1 = tag then { e.2 with location := none }
              else
                match e.2.location with
                | none => e.2
                | some m =>
                  if m.bay = l.bay ∧ m.stack = l.stack ∧ l.tier < m.tier then
                    { e.2 with location := some ⟨m.bay, m.stack, m.tier - 1⟩ }
                  else e.2) } := by
  have hcleared : ∀ q : Pack, { q.settle l with location := none } = { q with location := none } := by
    intro q
    unfold Pack.settle
    split
    · rfl
    · split_ifs <;> rfl
  have hplace : (Table.get s.packs tag).bind Pack.location = some l := by rw [hp, Option.bind_some, hl]
  have hpacks : Table.update (Table.change s.packs fun _ p => p.settle l) tag (fun p => { p with location := none }) =
      s.packs.map fun e => (e.1, if e.1 = tag then { e.2 with location := none } else e.2.settle l) := by
    rw [Table.update, Table.change, Table.change, List.map_map]
    exact List.map_congr_left fun e _ => Prod.ext rfl (if_congr Iff.rfl (hcleared e.2) rfl)
  rw [removeFromStack, hplace]
  exact congrArg (fun t => { s with packs := t }) hpacks

theorem removeFromStack_unlocated {s : State} {tag : Nat} (h : ∀ p, Table.get s.packs tag = some p → p.location = none) :
    removeFromStack tag s = s := by
  have hplace : (Table.get s.packs tag).bind Pack.location = none := by
    cases hp : Table.get s.packs tag with
    | none => rfl
    | some p => exact h p hp
  rw [removeFromStack, hplace]

theorem inStack_iff (b k : Nat) (p : Pack) : p.inStack b k = true ↔ ∃ i, p.location = some ⟨b, k, i⟩ := by
  unfold Pack.inStack
  cases hl : p.location with
  | none => simp
  | some l =>
    obtain ⟨b', k', i⟩ := l
    simp

theorem height_eq_filter (s : State) (b k : Nat) : height s b k = (s.packs.filter fun e => e.2.inStack b k).length :=
  (sortBy_perm _ _).length_eq

/-- A stack's height, by any test that tells its packs (R5). -/
theorem height_eq_of_among {s : State} {b k : Nat} {among : Nat × Pack → Bool}
    (h : ∀ e, among e = true ↔ ∃ i, e.2.location = some ⟨b, k, i⟩) : height s b k = (s.packs.filter among).length := by
  have hsame : (fun e : Nat × Pack => e.2.inStack b k) = among :=
    funext fun e => Bool.eq_iff_iff.mpr ((inStack_iff b k e.2).trans (h e).symm)
  rw [height_eq_filter, hsame]

/-- The place a pack put down has, as a reply gives it. -/
theorem packPlace_of_get {s : State} {tag : Nat} {p : Pack} {l : Location} (hp : Table.get s.packs tag = some p)
    (hl : p.location = some l) : packPlace s tag = [byte l.bay, byte l.stack, byte l.tier] := by
  rw [packPlace, hp, Option.bind_some, hl]
  rfl

theorem packPlace_observe (named : Option Nat) (before : Table Pack) (s : State) (tag : Nat) :
    packPlace (observe named before s) tag = packPlace s tag := by
  rw [packPlace, observe_packs]
  rfl

@[simp] theorem packs_clearStarved (s : State) : (clearStarved s).packs = s.packs := by rw [clearStarved_eq]

theorem packPlace_clearStarved (s : State) (tag : Nat) : packPlace (clearStarved s) tag = packPlace s tag := by
  rw [packPlace, packs_clearStarved]
  rfl

theorem packPlace_putDown {s : State} {tag : Nat} {p : Pack} (hp : Table.get s.packs tag = some p) (b k : Nat)
    (f : Pack → Pack) :
    packPlace (putDown b k tag f s) tag = [byte b, byte k, byte (height (removeFromStack tag s) b k)] := by
  obtain ⟨q, hq⟩ := removeFromStack_get hp
  refine packPlace_of_get ?_ rfl (l := ⟨b, k, height (removeFromStack tag s) b k⟩) (p := { f q with
    location := some ⟨b, k, height (removeFromStack tag s) b k⟩
    wetted := q.wetted || rainsOn s b })
  rw [packs_putDown, Table.get_update_self, hq]
  rfl

/-! ## RECEIVE_PACK (R43, R44) -/

theorem putDownRefused_ne_ok {s : State} {b k : Nat} {disabled status : Status} (hd : disabled ≠ .ok)
    (h : putDownRefused s b k disabled status) : status ≠ .ok := by
  rcases h with ⟨-, rfl⟩ | ⟨-, -, ⟨-, rfl⟩ | ⟨-, -, rfl⟩ | ⟨-, -, -, rfl⟩⟩
  · decide
  · exact hd
  · decide
  · decide

theorem has_of_get {α : Type} {t : Table α} {k : Nat} {v : α} (h : Table.get t k = some v) : Table.has t k = true := by
  rw [Table.has, h]
  rfl

theorem has_of_get_none {α : Type} {t : Table α} {k : Nat} (h : Table.get t k = none) : Table.has t k = false := by
  rw [Table.has, h]
  rfl

section
variable {tag product length count mass bay stack : Nat} {drying : Drying} {ready : Option Nat} {s : State}

theorem receivePackBlock_inRange
    (hfields : fieldsPass s (.receivePack tag product length count mass drying bay stack ready))
    (hsupply : s.supply = .sound) :
    receivePackBlock tag product length count mass drying bay stack ready s =
      if Table.has s.packs tag = true then refuse .duplicate s
      else if 2048 ≤ s.packs.length then refuse .tableFull (post .tableFull s)
      else
        match putDownCheck s bay stack .badField with
        | some status => refuse status s
        | none =>
          taken (receiveReply tag (bornPack s product length count mass drying bay stack ready))
            (bear tag (bornPack s product length count mass drying bay stack ready) s) := by
  have hok := (receiveOk_iff s tag product length count mass bay stack drying ready).mpr hfields
  rw [receivePackBlock, if_neg (by simp [hok]), if_neg (by simp [low_of_sound hsupply])] <;> rfl

/-- With a free tag and room in the table the put-down decides (R43). -/
theorem receivePackBlock_room
    (hfields : fieldsPass s (.receivePack tag product length count mass drying bay stack ready))
    (hsupply : s.supply = .sound) (hfree : Table.get s.packs tag = none) (hroom : s.packs.length < 2048) :
    receivePackBlock tag product length count mass drying bay stack ready s =
      match putDownCheck s bay stack .badField with
      | some status => refuse status s
      | none =>
        taken (receiveReply tag (bornPack s product length count mass drying bay stack ready))
          (bear tag (bornPack s product length count mass drying bay stack ready) s) := by
  rw [receivePackBlock_inRange hfields hsupply, if_neg (by simp [has_of_get_none hfree]), if_neg (Nat.not_le.mpr hroom)]

end

theorem receiveReply_eq {tag day b k i : Nat} {p : Pack} (hday : p.received = day) (hl : p.location = some ⟨b, k, i⟩) :
    receiveReply tag p =
      [bitsByte [p.ready.isSome]] ++ be3 tag ++ be2 day ++ be2 (p.ready.getD 0) ++ [byte i, markByte p.wetted] := by
  have htier : p.tier = i := by rw [Pack.tier, hl]
  rw [receiveReply, hday, htier]
  cases p.ready <;> rfl

/-- Settles O33: the checks of RECEIVE_PACK in their order. -/
theorem receivePackCreatesTheRecord : Obligations.ReceivePackCreatesTheRecord := by
  intro tag product length count mass bay stack drying ready s p c hc hs
  subst hc
  have hserves := serves_receivePack tag product length count mass bay stack drying ready
  refine ⟨fun hbad => hserves.refused hs (by decide) (if_pos ?_), ?_⟩
  · rw [← Bool.not_eq_true, receiveOk_iff s tag product length count mass bay stack drying ready]
    rintro ⟨ht, ht', hl, hl', hc, hc', hm, hm', hp, hp', hdef, hkiln, -⟩
    rcases hbad with h | h | h | h | h | h | h | h | h | h | h | ⟨h, hready⟩
    case inr.inr.inr.inr.inr.inr.inr.inr.inr.inr.inl => simp [hdef] at h
    case inr.inr.inr.inr.inr.inr.inr.inr.inr.inr.inr => exact hready (hkiln h)
    all_goals omega
  · rintro ⟨ht, ht', hl, hl', hc, hc', hm, hm', hp, hp'⟩ hdef hkiln hday hsupply hpack
    have hfields : fieldsPass s (.receivePack tag product length count mass drying bay stack ready) :=
      ⟨ht, ht', hl, hl', hc, hc', hm, hm', hp, hp', hdef, hkiln, hday⟩
    have hborn : bornPack s product length count mass drying bay stack ready = p := by
      rw [hpack]
      cases drying <;> rfl
    refine ⟨fun q hq => hserves.refused hs (by decide) ?_, fun status hfree hroom hput => ?_, fun hfree hroom hput => ?_,
      fun hfree hfull => hserves.refused hs (by decide) ?_⟩
    · rw [receivePackBlock_inRange hfields hsupply, if_pos (has_of_get hq)]
    · refine hserves.refused hs (putDownRefused_ne_ok (by decide) hput) ?_
      rw [receivePackBlock_room hfields hsupply hfree hroom, putDownCheck_refused hput]
    · refine hserves.ok hs ?_
      rw [receivePackBlock_room hfields hsupply hfree hroom, putDownCheck_taken hput, hborn]
      have hreply : receiveReply tag p = _ :=
        receiveReply_eq (day := s.settings.yardDay) (by rw [hpack]) (by rw [hpack])
      exact congrArg (taken · _) hreply
    · rw [receivePackBlock_inRange hfields hsupply, if_neg (by simp [has_of_get_none hfree]), if_pos hfull]

/-! ## RECORD_MOVE (R48, R49) -/

section
variable {tag : Nat} {s : State} {k : Pack → Answer}

theorem withPack_badField (h : tag = 0 ∨ 16777215 < tag) : withPack tag s k = refuse .badField s :=
  if_pos (by rintro ⟨h1, h2 : tag ≤ 16777215⟩; omega)

theorem withPack_notFound (htag : tagOk tag) (hsupply : s.supply = .sound) (hp : Table.get s.packs tag = none) :
    withPack tag s k = refuse .notFound s := by
  rw [withPack, if_neg (not_not_intro htag), if_neg (by simp [low_of_sound hsupply]), hp]

theorem withPack_live {p : Pack} (htag : tagOk tag) (hsupply : s.supply = .sound) (hp : Table.get s.packs tag = some p) :
    withPack tag s k = k p := by
  rw [withPack, if_neg (not_not_intro htag), if_neg (by simp [low_of_sound hsupply]), hp]

theorem onTop_eq {p : Pack} {l : Location} (hl : p.location = some l) :
    onTop s tag p = decide (topPack s l.bay l.stack = some tag) := by
  rw [onTop, hl]

theorem applyMove_off {bay stack : Nat} {p : Pack} {l : Location} (hl : p.location = some l)
    (hoff : ¬ (l.bay = bay ∧ l.stack = stack)) :
    applyMove tag bay stack p s = observe (some tag) s.packs (putDown bay stack tag id s) := by
  rw [applyMove, Pack.inStack, hl]
  exact if_neg (by simpa using hoff)

theorem applyMove_own {bay stack : Nat} {p : Pack} {l : Location} (hl : p.location = some l) (hb : l.bay = bay)
    (hk : l.stack = stack) : applyMove tag bay stack p s = s := by
  rw [applyMove, Pack.inStack, hl]
  exact if_pos (by simp [hb, hk])

/-- A pack that may move and stands on top of its stack moves as R6 says of its new place (R48). -/
theorem recordMoveBlock_top {bay stack : Nat} {p : Pack} {l : Location} (htag : tagOk tag)
    (hsupply : s.supply = .sound) (hp : Table.get s.packs tag = some p)
    (hstate : p.state = .stored ∨ (p.state = .held ∧ p.hold = some .damaged)) (hl : p.location = some l) :
    recordMoveBlock tag bay stack s =
      if topPack s l.bay l.stack ≠ some tag then refuse .notOnTop s
      else
        match putDownCheck s bay stack .mode with
        | some status => refuse status s
        | none => taken (packPlace (applyMove tag bay stack p s) tag) (applyMove tag bay stack p s) := by
  have hbusy : ¬ (p.state = .reserved ∨ p.state = .moving ∨ p.state = .lifted) := by
    rcases hstate with h | ⟨h, -⟩ <;> simp [h]
  have hgone : ¬ (p.state = .loaded ∨ (p.state = .held ∧ p.hold ≠ some .damaged)) := by
    rcases hstate with h | ⟨h, h'⟩ <;> simp_all
  rw [recordMoveBlock, withPack_live htag hsupply hp, if_neg hbusy, if_neg hgone, onTop_eq hl]
  simp only [decide_eq_false_iff_not] <;> rfl

end

/-- Settles O35: what a removal and a put-down write, and the checks of RECORD_MOVE in their order. -/
theorem recordMoveMovesATopPack : Obligations.RecordMoveMovesATopPack := by
  refine ⟨fun tag s => ⟨fun p l => removeFromStack_located, removeFromStack_unlocated, ?_⟩, ?_⟩
  · intro b k f u among hu hamong
    rw [putDown, ← hu, height_eq_of_among hamong, Table.update, Table.change]
    subst hu
    obtain ⟨packs, hpacks⟩ := removeFromStack_frame tag s
    rw [hpacks]
    refine congrArg (fun t => { s with packs := t }) (List.map_congr_left fun e _ => Prod.ext rfl ?_)
    rfl
  · intro tag bay stack s p l c hc hs ht ht' hsupply hp
    subst hc
    have hserves := serves_recordMove tag bay stack
    have htag : tagOk tag := ⟨ht, ht'⟩
    have hlive := fun k => withPack_live (k := k) htag hsupply hp
    refine ⟨fun hbusy => hserves.refused hs (by decide) ((hlive _).trans (if_pos hbusy)),
      fun hgone => hserves.refused hs (by decide) ((hlive _).trans ?_), fun hstate hl => ?_⟩
    · rw [if_neg (by rcases hgone with h | ⟨h, -⟩ <;> simp [h]), if_pos hgone]
    · have hblock := recordMoveBlock_top (bay := bay) (stack := stack) htag hsupply hp hstate hl
      refine ⟨fun hburied => hserves.refused hs (by decide) (hblock.trans (if_pos hburied)), fun htop => ?_⟩
      rw [if_neg (not_not_intro htop)] at hblock
      refine ⟨fun status hput => ?_, fun hput hoff => ?_, fun hput hb hk => ?_⟩
      · rw [putDownCheck_refused hput] at hblock
        exact hserves.refused hs (putDownRefused_ne_ok (by decide) hput) hblock
      · rw [putDownCheck_taken hput, applyMove_off hl hoff, packPlace_observe, packPlace_putDown hp] at hblock
        exact hserves.ok hs hblock
      · rw [putDownCheck_taken hput, applyMove_own hl hb hk, packPlace_of_get hp hl] at hblock
        exact hserves.ok hs hblock

end Sys2Proof.Proofs
end

section
/-!
PROOFS. Family 3: HOLD_PACK, RELEASE_PACK and SCRAP_PACK (R50 to R52), and CLEAR_WETTED (R53).
-/

namespace Sys2Proof.Proofs

open Sys2Proof.Machine Sys2Proof.Safety

/-! ## HOLD_PACK, RELEASE_PACK and SCRAP_PACK (R50 to R52) -/

theorem fetchUntaken_iff (s : State) (tag : Nat) :
    fetchUntaken s tag = true ↔
      ∃ f, s.tasks.find? (fun t => decide (t.subject = tag) && t.isFetch) = some f ∧
        (f.state = .opened ∨ f.state = .offered) := by
  unfold fetchUntaken fetchOf
  cases s.tasks.find? fun t => decide (t.subject = tag) && t.isFetch with
  | none => simp
  | some f => simp

/-- The four requests on a pack that begin with the same checks (R48, R50 to R52). -/
theorem serves_withPack {tag bay stack : Nat} {place : Option (Nat × Nat)} {c : Instr}
    (hc : c = .holdPack tag ∨ c = .releasePack tag place ∨ c = .scrapPack tag ∨ c = .recordMove tag bay stack) :
    ∃ k : State → Pack → Answer, Serves c fun s => withPack tag s (k s) := by
  rcases hc with rfl | rfl | rfl | rfl
  · exact ⟨_, serves_holdPack tag⟩
  · exact ⟨_, serves_releasePack tag place⟩
  · exact ⟨_, serves_scrapPack tag⟩
  · exact ⟨_, serves_recordMove tag bay stack⟩

theorem packPlace_eq {s : State} {tag : Nat} {p : Pack} (hp : Table.get s.packs tag = some p) :
    packPlace s tag =
      match p.location with
      | none => [0#8, 0#8, 0#8]
      | some l => [byte l.bay, byte l.stack, byte l.tier] := by
  rw [packPlace, hp, Option.bind_some]
  cases p.location <;> rfl

theorem packPlace_releaseInPlace {s : State} {tag : Nat} {p : Pack} (hp : Table.get s.packs tag = some p) :
    packPlace (releaseInPlace tag s) tag = packPlace s tag := by
  have hget : Table.get (changePack tag Pack.toStored s).packs tag = some p.toStored := by
    rw [packs_changePack, Table.get_update_self, hp]
    rfl
  rw [releaseInPlace, packPlace_observe, packPlace_clearStarved, packPlace, packPlace, hget, hp]
  rfl

theorem packPlace_releaseOnto {s : State} {tag : Nat} {p : Pack} (hp : Table.get s.packs tag = some p) (b k : Nat) :
    packPlace (releaseOnto tag b k s) tag = [byte b, byte k, byte (height (removeFromStack tag s) b k)] := by
  rw [releaseOnto, packPlace_observe, packPlace_clearStarved, packPlace_putDown hp]

theorem retirePack_eq (tag : Nat) (s : State) :
    retirePack tag s = { removeFromStack tag s with packs := Table.erase (removeFromStack tag s).packs tag } := by
  obtain ⟨packs, hpacks⟩ := removeFromStack_frame tag s
  rw [retirePack, hpacks]

/-- Settles O36: the state of the record, and for a release its hold reason and the place. -/
theorem packsAreHeldReleasedAndScrapped : Obligations.PacksAreHeldReleasedAndScrapped := by
  refine ⟨fun p why => ⟨rfl, rfl⟩, fun tag s => fetchUntaken_iff s tag, fun tag bay stack place s c hc hs => ?_, ?_⟩
  · obtain ⟨k, hserves⟩ := serves_withPack hc
    exact ⟨fun hbad => hserves.refused hs (by decide) (withPack_badField hbad), fun h1 h2 hsupply hp =>
      hserves.refused hs (by decide) (withPack_notFound ⟨h1, h2⟩ hsupply hp)⟩
  intro tag s p h1 h2 hsupply hp
  have hlive : ∀ k, withPack tag s k = k p := fun k => withPack_live ⟨h1, h2⟩ hsupply hp
  refine ⟨fun hs hst => ?_, fun hs hst hfetch => ?_, fun hs hst hfetch => ?_, fun hs hst hwhy => ?_,
    fun bay stack hs hst hwhy => ⟨fun status hput => ?_, fun hput => ?_⟩, fun place hs hst => ?_,
    fun place hs hst hwhy => ?_, fun hs hst hst' => ?_, fun hs hst => ?_⟩
  · exact (serves_holdPack tag).ok hs ((hlive _).trans (if_pos hst))
  · refine (serves_holdPack tag).ok hs ((hlive _).trans ?_)
    rw [if_neg (by simp [hst]), if_pos ⟨hst, hfetch⟩]
  · refine (serves_holdPack tag).refused hs (by decide) ((hlive _).trans ?_)
    rw [if_neg hst, if_neg (by rintro ⟨h, h'⟩; simp [h, h'] at hfetch)]
  · refine (serves_releasePack tag none).ok hs ((hlive _).trans ?_)
    rw [if_neg (not_not_intro hst), if_pos hwhy]
    exact congrArg (taken · (releaseInPlace tag s)) ((packPlace_releaseInPlace hp).trans (packPlace_eq hp))
  · refine (serves_releasePack tag _).refused hs (putDownRefused_ne_ok (by decide) hput) ((hlive _).trans ?_)
    rw [if_neg (not_not_intro hst), if_neg hwhy]
    simp only [putDownCheck_refused hput]
  · refine (serves_releasePack tag _).ok hs ((hlive _).trans ?_)
    rw [if_neg (not_not_intro hst), if_neg hwhy]
    simp only [putDownCheck_taken hput]
    rw [packPlace_releaseOnto hp]
    rfl
  · exact (serves_releasePack tag place).refused hs (by decide) ((hlive _).trans (if_pos hst))
  · refine (serves_releasePack tag place).refused hs (by decide) ((hlive _).trans ?_)
    rw [if_neg (not_not_intro hst)]
    rcases hwhy with ⟨hwhy, hplace⟩ | ⟨hwhy, rfl⟩
    · obtain ⟨bk, rfl⟩ := Option.ne_none_iff_exists'.mp hplace
      exact if_pos hwhy
    · exact if_neg hwhy
  · exact (serves_scrapPack tag).refused hs (by decide) ((hlive _).trans (if_neg (by simp [hst, hst'])))
  · rw [← retirePack_eq]
    exact (serves_scrapPack tag).ok hs ((hlive _).trans (if_pos hst))

/-! ## CLEAR_WETTED (R53) -/

/-- The marks that a CLEAR_WETTED picks are cleared, and STARVED flags with them where one was set. -/
theorem clearMarks_eq (named : Option Nat) (which : Nat → Pack → Bool) {s u : State} {n : Nat}
    (hn : n = wetCount which s) (hu : u = observe named s.packs (dryPacks which s)) :
    clearMarks named which s = taken [byte n] (if n = 0 then u else clearStarved u) := by
  rw [clearMarks, hn, hu]

/-- The block of a CLEAR_WETTED in range clears the marks of the packs it picks. -/
theorem clearWettedBlock_clears {which : Nat → Pack → Bool} {tag bay : Option Nat} {s : State}
    (hsupply : s.supply = .sound)
    (hpick : (∃ t p, tag = some t ∧ bay = none ∧ 1 ≤ t ∧ t ≤ 16777215 ∧ Table.get s.packs t = some p ∧
        which = fun v _ => decide (v = t)) ∨
      (∃ b, tag = none ∧ bay = some b ∧ b ≤ 63 ∧ which = fun _ p => p.inBay b)) :
    clearWettedBlock tag bay s = clearMarks tag which s := by
  rcases hpick with ⟨t, p, rfl, rfl, h1, h2, hp, rfl⟩ | ⟨b, rfl, rfl, hb, rfl⟩
  · exact withPack_live ⟨h1, h2⟩ hsupply hp
  · show (if 63 < b then _ else _) = _
    rw [if_neg (Nat.not_lt.mpr hb), if_neg (by simp [low_of_sound hsupply])]

/-- Settles O37: the refusals, and the marks cleared. -/
theorem clearWettedClearsMarks : Obligations.ClearWettedClearsMarks := by
  refine ⟨fun tag bay s c hc hs => ?_, fun which tag bay s u n hs hsupply hpick hn hu => ?_⟩
  · subst hc
    have hserves := serves_clearWetted tag bay
    refine ⟨fun hbad => hserves.refused hs (by decide) ?_, fun t htag hbay h1 h2 hsupply hp =>
      hserves.refused hs (by decide) ?_⟩
    · rcases hbad with hboth | ⟨t, rfl, ht⟩ | ⟨b, rfl, hb⟩
      · cases tag with
        | none =>
          cases bay with
          | none => rfl
          | some b => cases hboth
        | some t =>
          cases bay with
          | none => cases hboth
          | some b => rfl
      · cases bay with
        | none => exact withPack_badField ht
        | some b => rfl
      · cases tag with
        | none => exact if_pos hb
        | some t => rfl
    · subst htag hbay
      exact withPack_notFound ⟨h1, h2⟩ hsupply hp
  · have hblock := (clearWettedBlock_clears hsupply hpick).trans (clearMarks_eq tag which hn hu)
    refine ⟨fun h0 => (serves_clearWetted tag bay).ok hs (hblock.trans ?_), fun hpos =>
      (serves_clearWetted tag bay).ok hs (hblock.trans ?_)⟩
    · subst h0
      rfl
    · rw [if_neg (Nat.pos_iff_ne_zero.mp hpos)]

end Sys2Proof.Proofs
end

section
/-!
PROOFS. Family 4: CHECK_IN (R60, R62, R63, R64) and READ_ORDER (R65, R68, R193).
-/

namespace Sys2Proof.Proofs

open Sys2Proof.Machine Sys2Proof.Safety

/-! ## CHECK_IN (R63, R64) -/

theorem serves_checkIn (truck level payload : Nat) (supervised : Bool) (lines : List LineItem) :
    Serves (.checkIn truck level payload supervised lines) (checkInBlock truck level payload supervised lines) :=
  serves_plain 0x40 (fun _ => rfl) nofun rfl rfl (by decide)

/-- What R63 check 1 asks of a line. -/
def LineOk (s : State) (l : LineItem) : Prop :=
  1 ≤ l.quantity ∧ l.quantity ≤ 24 ∧ 10 ≤ l.low ∧ l.low ≤ l.high ∧ l.high ≤ 90 ∧ l.digLimit ≤ 5 ∧ 1 ≤ l.product ∧
    l.product ≤ 255 ∧ (s.product l.product).defined = true ∧
    ∀ w, l.window = some w → w.rowMin ≤ w.rowMax ∧ w.rowMax ≤ 15 ∧ w.colMin ≤ w.colMax ∧ w.colMax ≤ 15

theorem optWindowOk_iff (o : Option YardWindow) : optWindowOk o = true ↔ ∀ w, o = some w → windowOk w := by
  cases o <;> simp [optWindowOk]

theorem lineOk_iff (s : State) (l : LineItem) :
    (lineItemOk l && (s.product l.product).defined) = true ↔ LineOk s l := by
  simp only [lineItemOk, Bool.and_eq_true, decide_eq_true_eq, optWindowOk_iff, codeOk, inRange]
  constructor
  · rintro ⟨⟨⟨⟨hp, hp'⟩, ⟨hq, hq'⟩, ⟨hl, hl'⟩, ⟨hh, hh'⟩, hle, hd⟩, hw⟩, hdef⟩
    exact ⟨hq, hq', hl, hle, hh', hd, hp, hp', hdef, hw⟩
  · rintro ⟨hq, hq', hl, hle, hh', hd, hp, hp', hdef, hw⟩
    exact ⟨⟨⟨⟨hp, hp'⟩, ⟨hq, hq'⟩, ⟨hl, by omega⟩, ⟨by omega, hh'⟩, hle, hd⟩, hw⟩, hdef⟩

theorem checkInOk_iff (s : State) (truck level payload : Nat) (lines : List LineItem) :
    checkInOk s truck level payload lines = true ↔
      (1 ≤ truck ∧ truck ≤ 65535 ∧ level ≤ 3 ∧ 1000 ≤ payload ∧ payload ≤ 40000 ∧ 1 ≤ lines.length ∧
        lines.length ≤ 4 ∧ (lines.map LineItem.quantity).sum ≤ 24) ∧ ∀ l ∈ lines, LineOk s l := by
  rw [checkInOk, Bool.and_eq_true, decide_eq_true_eq, List.all_eq_true]
  simp only [lineOk_iff, inRange, Config.linesPerOrder, Config.packsPerOrder, and_assoc]

theorem truckLive_iff (s : State) (truck : Nat) : truckLive s truck = true ↔ ∃ e ∈ s.orders, e.2.truck = truck := by
  simp [truckLive]

section
variable {truck level payload : Nat} {supervised : Bool} {lines : List LineItem} {s : State}

theorem checkInBlock_inRange (hok : checkInOk s truck level payload lines = true) :
    checkInBlock truck level payload supervised lines s =
      if s.mode ≠ .opened then refuse .mode s
      else if 32 ≤ s.orders.length then refuse .tableFull (post .tableFull s)
      else if truckLive s truck = true then refuse .duplicate s
      else
        taken
          [byte (freeHandle s),
            byte (queuePosition (addOrder (freeHandle s) (newOrder truck level payload supervised lines) s)
              (freeHandle s))]
          (addOrder (freeHandle s) (newOrder truck level payload supervised lines) s) := by
  rw [checkInBlock, if_neg (by simp [hok])]
  rfl

/-- The new order stands behind every order of its level (R62, R64). -/
theorem addOrder_split (o : Order) (hq : queueLaw s) {h : Nat} (hfree : h ∉ s.orders.keys) :
    ∃ front back,
      s.queue = front ++ back ∧ (∀ x ∈ front, o.level ≤ levelOf s x) ∧
        (∀ x, back.head? = some x → levelOf s x < o.level) ∧
        addOrder h o s = { s with orders := Table.put s.orders h o, queue := front ++ h :: back } ∧
        queuePosition (addOrder h o s) h = front.length + 1 := by
  obtain ⟨front, back, hsplit, hfront, hback, hjoin⟩ := joinQueue_split s h o.level s.queue
  obtain ⟨-, hlive, -⟩ := hq
  have hout : h ∉ front := fun hmem => hfree ((hlive h).mp (hsplit ▸ List.mem_append_left back hmem))
  have hadded : addOrder h o s = { s with orders := Table.put s.orders h o, queue := front ++ h :: back } := by
    rw [addOrder, hjoin]
  refine ⟨front, back, hsplit, hfront, hback, hadded, queuePosition_of_split (back := back) ?_ hout⟩
  rw [hadded]

end

/-- Settles O38: the checks of CHECK_IN in their order, then the lowest free handle and the tail of the level. -/
theorem checkInCreatesTheOrder : Obligations.CheckInCreatesTheOrder := by
  intro truck level payload supervised lines s c hc hs
  subst hc
  have hserves := serves_checkIn truck level payload supervised lines
  refine ⟨fun hbad => hserves.refused hs (by decide) (if_pos ?_), ?_⟩
  · rw [← Bool.not_eq_true, checkInOk_iff]
    rintro ⟨⟨ht, ht', hlv, hp, hp', h1, h4, hsum⟩, hlines⟩
    rcases hbad with h | h | h | h | h | h | h | h | ⟨l, hl, h⟩
    case inr.inr.inr.inr.inr.inl => simp [h] at h1
    case inr.inr.inr.inr.inr.inr.inr.inr =>
      obtain ⟨hq, hq', hlo, hle, hhi, hd, hc, hc', hdef, hw⟩ := hlines l hl
      rcases h with h | h | h | h | h | h | h | h | h | h | h | ⟨w, hsome, h⟩
      case inr.inr.inr.inr.inr.inr.inr.inr.inr.inr.inl => simp [hdef] at h
      case inr.inr.inr.inr.inr.inr.inr.inr.inr.inr.inr =>
        obtain ⟨hr, hr', hk, hk'⟩ := hw w hsome
        omega
      all_goals omega
    all_goals omega
  · rintro ⟨ht, ht', hlv, hp, hp'⟩ h1 h4 hsum hlines
    have hok : checkInOk s truck level payload lines = true :=
      (checkInOk_iff s truck level payload lines).mpr ⟨⟨ht, ht', hlv, hp, hp', h1, h4, hsum⟩, hlines⟩
    have hblock := checkInBlock_inRange (supervised := supervised) hok
    refine ⟨fun hmode => hserves.refused hs (by decide) (hblock.trans (if_pos hmode)), fun hmode hfull => ?_,
      fun hmode hroom hlive => ?_, fun hmode hroom hlive hq => ?_⟩ <;> rw [if_neg (not_not_intro hmode)] at hblock
    · exact hserves.refused hs (by decide) (hblock.trans (if_pos hfull))
    · rw [if_neg (Nat.not_le.mpr hroom), if_pos ((truckLive_iff s truck).mpr hlive)] at hblock
      exact hserves.refused hs (by decide) hblock
    · have hnew : ¬ truckLive s truck = true := fun h => by
        obtain ⟨e, he, htruck⟩ := (truckLive_iff s truck).mp h
        exact hlive e he htruck
      rw [if_neg (Nat.not_le.mpr hroom), if_neg hnew] at hblock
      obtain ⟨hfree, hlow, hhigh, hlowest⟩ := freeHandle_spec hroom
      obtain ⟨front, back, hsplit, hfront, hback, hadded, hposition⟩ :=
        addOrder_split (newOrder truck level payload supervised lines) hq hfree
      rw [hposition, hadded] at hblock
      exact ⟨freeHandle s, front, back, hlow, hhigh, hfree, hlowest, hsplit, hfront, hback, hserves.ok hs hblock⟩

/-! ## READ_ORDER (R65) -/

theorem serves_readOrder (handle truck : Option Nat) : Serves (.readOrder handle truck) (readOrderBlock handle truck) :=
  serves_plain 0x41 (fun _ => rfl) nofun rfl rfl (by decide)

theorem readOrderBlock_handle {h : Nat} (hh : handleOk h) (s : State) :
    readOrderBlock (some h) none s =
      match s.order h with
      | none => refuse .notFound s
      | some o => taken (orderReply s h o) s := by
  rw [readOrderBlock, if_neg (not_not_intro hh)] <;> rfl

theorem readOrderBlock_truck {r : Nat} (h1 : 1 ≤ r) (h2 : r ≤ 65535) (s : State) :
    readOrderBlock none (some r) s =
      match s.orders.find? fun e => decide (e.2.truck = r) with
      | none => refuse .notFound s
      | some e => taken (orderReply s e.1 e.2) s := by
  rw [readOrderBlock, if_neg (not_not_intro ⟨h1, h2⟩)] <;> rfl

/-- The deck line by a division of the order's lines (R68). -/
theorem deckLine_eq {o : Order} {deck : Option Nat}
    (h : ((∀ l ∈ o.lines, l.item.quantity ≤ l.loaded) ∧ deck = none) ∨
      ∃ full l rest, o.lines = full ++ l :: rest ∧ (∀ m ∈ full, m.item.quantity ≤ m.loaded) ∧
        l.loaded < l.item.quantity ∧ deck = some (full.length + 1)) : o.deckLine = deck := by
  rw [Order.deckLine]
  rcases h with ⟨hfull, rfl⟩ | ⟨full, l, rest, hlines, hfull, hl, rfl⟩
  · have hnone : o.lines.findIdx? (fun l => decide (l.loaded < l.item.quantity)) = none :=
      List.findIdx?_eq_none_iff.mpr fun l hl => decide_eq_false (Nat.not_lt.mpr (hfull l hl))
    rw [hnone, Option.map_none]
  · have hnone : full.findIdx? (fun l => decide (l.loaded < l.item.quantity)) = none :=
      List.findIdx?_eq_none_iff.mpr fun m hm => decide_eq_false (Nat.not_lt.mpr (hfull m hm))
    rw [hlines, List.findIdx?_append, hnone, List.findIdx?_cons, decide_eq_true hl]
    simp

theorem orZeros_one (o : Option Nat) : orZeros 1 be1 o = [byte (o.getD 0)] := by cases o <;> rfl

theorem length_flatMap_of_const {α : Type} {f : α → List Byte} {n : Nat} (h : ∀ a, (f a).length = n) (l : List α) :
    (l.flatMap f).length = n * l.length := by
  rw [List.length_flatMap]
  simp [h, Nat.mul_comm]

theorem length_orderLineReply (e : OrderLine × Nat) : (orderLineReply e).length = 15 := by
  obtain ⟨⟨⟨product, quantity, low, high, window, substitution, digLimit⟩, allocated, loaded, starved⟩, n⟩ := e
  cases window <;> rfl

theorem length_orderReply (s : State) (h : Nat) (o : Order) :
    (orderReply s h o).length = 26 + 3 * o.rejected.length + 15 * o.lines.length := by
  have hproposal : (orZeros 8 proposalReply o.proposal).length = 8 := by cases o.proposal <;> rfl
  simp only [orderReply, presence, be2, orZeros_one, List.length_append, List.length_cons, List.length_nil, hproposal,
    length_flatMap_of_const length_be3, length_flatMap_of_const length_orderLineReply, List.length_zipIdx]
  omega

theorem orderLineReply_eq (e : OrderLine × Nat) :
    orderLineReply e =
      [bitsByte [e.1.item.window.isSome], byte (e.2 + 1), byte e.1.item.product, byte e.1.item.quantity,
          byte e.1.item.low, byte e.1.item.high] ++
        (match e.1.item.window with
          | none => [0#8, 0#8, 0#8, 0#8]
          | some w => [byte w.rowMin, byte w.rowMax, byte w.colMin, byte w.colMax]) ++
        [markByte e.1.item.substitution, byte e.1.item.digLimit, byte e.1.allocated, byte e.1.loaded,
          markByte e.1.starved] := by
  obtain ⟨⟨⟨product, quantity, low, high, window, substitution, digLimit⟩, allocated, loaded, starved⟩, n⟩ := e
  cases window <;> rfl

/-- The reply of READ_ORDER for one order with its optional fields written out (R193). -/
theorem orderReply_eq {s : State} {h : Nat} {o : Order} {deck : Option Nat} {front back : List Nat}
    (hqueue : s.queue = front ++ h :: back) (hfront : h ∉ front) (hdeck : o.deckLine = deck) :
    orderReply s h o =
      [bitsByte [o.point.isSome, o.proposal.isSome, deck.isSome], byte h] ++ be2 o.truck ++
        [byte o.level, byte (orderStateNumber o.state), byte (o.point.getD 0)] ++ be2 o.payload ++
        [markByte o.supervised] ++ be2 o.committed ++ be2 (o.payload - o.committed) ++
        [byte (front.length + 1), byte (deck.getD 0)] ++
        (match o.proposal with
          | none => List.replicate 8 0#8
          | some p => [byte p.line] ++ be3 p.tag ++ be2 p.cost ++ be2 ((p.left + 99) / 100)) ++
        [byte o.rejected.length] ++ o.rejected.flatMap be3 ++ [byte o.lines.length] ++
        o.lines.zipIdx.flatMap orderLineReply := by
  rw [orderReply, queuePosition_of_split hqueue hfront, hdeck, orZeros_one, orZeros_one, presence]
  simp only [List.append_assoc, List.cons_append, List.nil_append]
  cases o.proposal <;> rfl

/-- Settles O39: the reply field by field, and how an order is found. -/
theorem readOrderChangesNothing : Obligations.ReadOrderChangesNothing := by
  refine ⟨rfl, fun s => ⟨fun hs => ?_, fun handle truck c hc hs => ?_⟩, ?_⟩
  · exact (serves_readOrder none none).ok hs rfl
  · subst hc
    have hserves := serves_readOrder handle truck
    refine ⟨fun hbad => hserves.refused hs (by decide) ?_, fun hnone => hserves.refused hs (by decide) ?_⟩
    · rcases hbad with ⟨hh, ht⟩ | ⟨h, rfl, hh⟩ | ⟨r, rfl, hr⟩
      · obtain ⟨h, rfl⟩ := Option.isSome_iff_exists.mp hh
        obtain ⟨r, rfl⟩ := Option.isSome_iff_exists.mp ht
        rfl
      · cases truck with
        | none => exact if_pos (by rintro ⟨h1, h2⟩; omega)
        | some r => rfl
      · cases handle with
        | none => exact if_pos (by rintro ⟨h1, h2⟩; omega)
        | some h => rfl
    · rcases hnone with ⟨h, rfl, rfl, h1, h2, ho⟩ | ⟨r, rfl, rfl, h1, h2, ho⟩
      · rw [readOrderBlock_handle ⟨h1, h2⟩, State.order, ho]
      · have hfind : s.orders.find? (fun e => decide (e.2.truck = r)) = none :=
          List.find?_eq_none.mpr fun e he => by simpa using ho e he
        rw [readOrderBlock_truck h1 h2, hfind]
  · intro h o s deck front back reply hqueue hfront hdeck hreply
    have hsame : orderReply s h o = reply := by
      rw [hreply, orderReply_eq hqueue hfront (deckLine_eq hdeck)]
      exact congrArg (_ ++ ·) (congrArg (o.lines.zipIdx.flatMap ·) (funext orderLineReply_eq))
    refine ⟨by rw [← hsame, length_orderReply], fun hs h1 h2 ho => ?_, fun before after hs h1 h2 horders hbefore => ?_⟩
    · refine (serves_readOrder _ _).ok hs ?_
      rw [readOrderBlock_handle ⟨h1, h2⟩, State.order, ho, ← hsame]
    · have hfind : s.orders.find? (fun e => decide (e.2.truck = o.truck)) = some (h, o) := by
        rw [horders, List.find?_append, List.find?_eq_none.mpr fun e he => by simpa using hbefore e he]
        simp
      refine (serves_readOrder _ _).ok hs ?_
      rw [readOrderBlock_truck h1 h2, hfind, ← hsame]

end Sys2Proof.Proofs
end

section
/-!
PROOFS. Family 4: CANCEL and DEPART with the release of reservations (R76 to R79, R99, R139).
-/

namespace Sys2Proof.Proofs

open Sys2Proof.Machine Sys2Proof.Safety

/-! ## What the release of a reservation writes (R139) -/

/-- The station records after a station is dismissed. -/
def dismissed (station : Option Nat) (stations : List Station) : List Station :=
  match station with
  | none => stations
  | some n => changeNth stations n fun st => { st with state := .idle, notice := true }

/-- The engine with the clear-seen mark that a clearing of the STARVED flags sets (R88). -/
def seen (e : Engine) : Engine := if e.state = .idle then e else { e with clearSeen := true }

theorem seen_seen (e : Engine) : seen (seen e) = seen e := by
  unfold seen
  by_cases h : e.state = .idle <;> simp [h]

theorem dismiss_eq (station : Option Nat) (s : State) :
    dismiss station s = { s with stations := dismissed station s.stations } := by
  cases station <;> rfl

theorem withdraw_eq (t : Task) (s : State) :
    withdraw t s =
      { s with
        tasks := s.tasks.filter fun u => decide (u.number ≠ t.number)
        stations := dismissed t.station s.stations
        orders := s.orders.map fun e => (e.1, e.2.unstarved)
        engine := seen s.engine } := by
  rw [withdraw, dismiss_eq, retireTask, clearStarved_eq]
  rfl

theorem withdrawShift_eq (s : State) (t : Task) :
    withdrawShift s t =
      { s with
        packs := Table.update s.packs t.subject Pack.toStored
        tasks := s.tasks.filter fun u => decide (u.number ≠ t.number)
        stations := dismissed t.station s.stations
        orders := s.orders.map fun e => (e.1, e.2.unstarved)
        engine := seen s.engine } := by
  rw [withdrawShift, withdraw_eq]
  rfl

theorem dismissed_getElem? {stations : List Station} {i : Nat} {st : Station} (station : Option Nat)
    (h : stations[i]? = some st) :
    (dismissed station stations)[i]? =
      some (if station = some (i + 1) then { st with state := .idle, notice := true } else st) := by
  cases station with
  | none => simpa [dismissed] using h
  | some n =>
    show (changeNth stations n _)[i]? = _
    cases n with
    | zero => simpa [changeNth] using h
    | succ n =>
      rw [changeNth, if_neg (by omega), Nat.add_sub_cancel, List.getElem?_modify, h]
      by_cases hn : n = i <;> simp [hn]

theorem toStored_toStored (p : Pack) : p.toStored.toStored = p.toStored := rfl

theorem map_unstarved_idem (t : Table Order) :
    (t.map fun e => (e.1, e.2.unstarved)).map (fun e => (e.1, e.2.unstarved)) = t.map fun e => (e.1, e.2.unstarved) := by
  rw [List.map_map]
  exact List.map_congr_left fun e _ => Prod.ext rfl (unstarved_unstarved e.2)

theorem tasks_foldl_withdrawShift (gone : List Task) (s : State) :
    (gone.foldl withdrawShift s).tasks = s.tasks.filter fun t => decide (t.number ∉ gone.map Task.number) := by
  induction gone generalizing s with
  | nil => simp
  | cons t gone ih =>
    have hstep : (withdrawShift s t).tasks = s.tasks.filter fun u => decide (u.number ≠ t.number) := by
      rw [withdrawShift_eq]
    rw [List.foldl_cons, ih, hstep, List.filter_filter]
    refine List.filter_congr fun u _ => Bool.eq_iff_iff.mpr ?_
    simp only [Bool.and_eq_true, decide_eq_true_eq, List.map_cons, List.mem_cons, not_or, ne_eq]
    exact and_comm

theorem packs_foldl_withdrawShift (gone : List Task) (s : State) :
    (gone.foldl withdrawShift s).packs =
      s.packs.map fun e => (e.1, if e.1 ∈ gone.map Task.subject then e.2.toStored else e.2) := by
  induction gone generalizing s with
  | nil => simp
  | cons t gone ih =>
    have hstep : (withdrawShift s t).packs =
        s.packs.map fun e => (e.1, if e.1 = t.subject then e.2.toStored else e.2) := by
      rw [withdrawShift_eq]
      rfl
    rw [List.foldl_cons, ih, hstep, List.map_map]
    refine List.map_congr_left fun e _ => Prod.ext rfl ?_
    simp only [Function.comp_apply, List.map_cons, List.mem_cons]
    by_cases h1 : e.1 = t.subject
    · rw [if_pos h1, if_pos (Or.inl h1), toStored_toStored, ite_self]
    · rw [if_neg h1]
      exact if_congr (or_iff_right h1).symm rfl rfl

theorem stations_foldl_withdrawShift (gone : List Task) (s : State) {i : Nat} {st : Station}
    (h : s.stations[i]? = some st) :
    (gone.foldl withdrawShift s).stations[i]? =
      some (if some (i + 1) ∈ gone.map Task.station then { st with state := .idle, notice := true } else st) := by
  induction gone generalizing s st with
  | nil => simpa using h
  | cons t gone ih =>
    have hstep : (withdrawShift s t).stations = dismissed t.station s.stations := by rw [withdrawShift_eq]
    rw [List.foldl_cons, ih _ (hstep ▸ dismissed_getElem? t.station h)]
    simp only [List.map_cons, List.mem_cons, Option.some.injEq]
    by_cases h1 : t.station = some (i + 1)
    · rw [if_pos h1, if_pos (Or.inl h1.symm)]
      exact ite_self _
    · rw [if_neg h1]
      exact if_congr (or_iff_right (Ne.symm h1)).symm rfl rfl

theorem flags_foldl_withdrawShift (gone : List Task) (s : State) (h : gone ≠ []) :
    (gone.foldl withdrawShift s).orders = s.orders.map (fun e => (e.1, e.2.unstarved)) ∧
      (gone.foldl withdrawShift s).engine = seen s.engine := by
  induction gone generalizing s with
  | nil => exact absurd rfl h
  | cons t gone ih =>
    have horders : (withdrawShift s t).orders = s.orders.map fun e => (e.1, e.2.unstarved) := by rw [withdrawShift_eq]
    have hengine : (withdrawShift s t).engine = seen s.engine := by rw [withdrawShift_eq]
    rw [List.foldl_cons]
    by_cases hg : gone = []
    · subst hg
      exact ⟨horders, hengine⟩
    · obtain ⟨h1, h2⟩ := ih (withdrawShift s t) hg
      rw [h1, h2, horders, hengine, map_unstarved_idem, seen_seen]
      exact ⟨rfl, rfl⟩

/-- The release of a pack at rest, record by record. -/
theorem releaseAtRest_eq {tag : Nat} {p : Pack} {r : LineRef} {f : Task} (after : Pack → Pack) {s v : State}
    (hp : Table.get s.packs tag = some p) (hr : p.reservation = some r) (hv : v = releaseShifts tag s)
    (hf : fetchOf v tag = some f) :
    releaseAtRest tag after s = changePack tag after (lowerCounts r p.mass (withdraw f v)) := by
  subst hv
  simp [releaseAtRest, hp, hf, lowerCountsOf, hr]

/-- The release of a LIFTED pack, record by record. -/
theorem releaseLifted_eq {tag n : Nat} {p : Pack} {r : LineRef} {f : Task} {s v : State}
    (hp : Table.get s.packs tag = some p) (hr : p.reservation = some r) (hv : v = releaseShifts tag s)
    (hf : fetchOf v tag = some f) (hn : f.station = some n) :
    releaseLifted tag s =
      changePack tag (fun q => { q with reservation := none })
        (lowerCounts r p.mass
          (changeStation n (fun st => { st with notice := true })
            (changeTask f.number
              (fun u => { u with kind := .giveBack, suggested := suggestFromStation v (some n) }) v))) := by
  subst hv
  simp [releaseLifted, hp, hf, lowerCountsOf, hr, hn]

/-! ## CANCEL and DEPART (R77, R78) -/

theorem orders_endClaim (named : Option Nat) (before : Table Pack) (s : State) :
    (endClaim named before s).orders = s.orders ∧ (endClaim named before s).queue = s.queue := by
  obtain ⟨w, m, a, he⟩ := observe_frame named before s
  obtain ⟨-, -, -, -, -, -, horders, hqueue, -⟩ := judgeClosing_same (observe named before s)
  rw [endClaim, horders, hqueue, he]
  exact ⟨rfl, rfl⟩

/-- The checks that CANCEL and DEPART share. -/
theorem serves_endOrder {h : Nat} {c : Instr} (hc : c = .cancel h ∨ c = .depart h) :
    ∃ loaded, Serves c (endOrderBlock loaded h) := by
  rcases hc with rfl | rfl
  · exact ⟨_, serves_cancel h⟩
  · exact ⟨_, serves_depart h⟩

theorem endOrderBlock_unknown {h : Nat} {s : State} (loaded : Nat → State → State) (hh : handleOk h)
    (hsupply : s.supply = .sound) (ho : Table.get s.orders h = none) :
    endOrderBlock loaded h s = refuse .notFound s := by
  rw [endOrderBlock, if_neg (not_not_intro hh), if_neg (by simp [low_of_sound hsupply]), State.order, ho]

theorem endOrderBlock_live {h : Nat} {o : Order} {s : State} (loaded : Nat → State → State) (hh : handleOk h)
    (hsupply : s.supply = .sound) (ho : Table.get s.orders h = some o) :
    endOrderBlock loaded h s = taken (endCounts s h) (endOrder loaded h s) := by
  rw [endOrderBlock, if_neg (not_not_intro hh), if_neg (by simp [low_of_sound hsupply]), State.order, ho]

theorem retireOrder_eq (h : Nat) (v : State) :
    retireOrder h v =
      { v with
        orders := Table.erase v.orders h
        queue := v.queue.filter fun x => decide (x ≠ h)
        engine :=
          if v.engine.line.map LineRef.handle = some h then ⟨.idle, none, none, none, false, v.engine.restarts⟩
          else v.engine } := by
  rw [retireOrder, scansOrder]
  simp only [decide_eq_true_eq]
  rfl

/-- Settles O41: the checks, the claim of the end of an order, and the two kinds of release. -/
theorem cancelAndDepartEndTheOrder : Obligations.CancelAndDepartEndTheOrder := by
  refine ⟨fun h s c hc hs => ?_, fun h o s u retired h1 h2 hsupply ho hu hretired => ?_,
    fun tag s v gone hgone hv => ?_, fun tag p r f after lower s v hp hr hv hf hlower => ⟨?_, fun n hn => ?_⟩⟩
  · obtain ⟨loaded, hserves⟩ := serves_endOrder hc
    refine ⟨fun hbad => hserves.refused hs (by decide) (if_pos ?_), fun h1 h2 hsupply ho =>
      hserves.refused hs (by decide) (endOrderBlock_unknown loaded ⟨h1, h2⟩ hsupply ho)⟩
    rintro ⟨hlow, hhigh⟩
    omega
  · have hend : ∀ loaded : Nat → State → State, endOrder loaded h s = retired (loaded h u) := by
      intro loaded
      rw [endOrder, retireOrder_eq, hretired, releaseOrder, ← hu]
    refine ⟨fun st => rfl, fun hs => ?_, fun hs => ?_, fun v => ?_⟩
    · refine (serves_cancel h).ok hs ((endOrderBlock_live unconfirmLoaded ⟨h1, h2⟩ hsupply ho).trans ?_)
      rw [hend]
      rfl
    · refine (serves_depart h).ok hs ((endOrderBlock_live departLoaded ⟨h1, h2⟩ hsupply ho).trans ?_)
      rw [hend]
      rfl
    · subst hretired
      obtain ⟨horders, hqueue⟩ := orders_endClaim none s.packs (retireOrder h v)
      rw [retireOrder_eq] at horders hqueue
      dsimp only
      rw [horders, hqueue]
      exact ⟨Table.get_erase_self _ _, by simp⟩
  · have hfold : v = gone.foldl withdrawShift s := by
      rw [hv, hgone]
      rfl
    rw [hfold]
    refine ⟨tasks_foldl_withdrawShift gone s, packs_foldl_withdrawShift gone s,
      fun i st => stations_foldl_withdrawShift gone s, fun hnone => ?_, flags_foldl_withdrawShift gone s⟩
    rw [hnone]
    rfl
  · rw [releaseAtRest_eq after hp hr hv hf, withdraw_eq, hlower]
    cases f.station <;> rfl
  · rw [releaseLifted_eq hp hr hv hf hn, hlower]
    rfl

end Sys2Proof.Proofs
end

section
/-!
PROOFS. Family 4: CONFIRM_PROPOSAL, REJECT_PROPOSAL and PROPOSAL_EXPIRY (R71, R108 to R111).
-/

namespace Sys2Proof.Proofs

open Sys2Proof.Machine Sys2Proof.Safety

theorem serves_rejectProposal (h tag : Nat) : Serves (.rejectProposal h tag) (rejectProposalBlock h tag) :=
  serves_plain 0x47 (fun _ => rfl) nofun rfl rfl (by decide)

section
variable {h tag : Nat} {o : Order} {pr : Proposal} {s : State}

theorem confirmProposalBlock_unknown (hh : handleOk h) (htag : tagOk tag) (hsupply : s.supply = .sound)
    (ho : Table.get s.orders h = none) : confirmProposalBlock h tag s = refuse .notFound s := by
  rw [confirmProposalBlock, if_neg (by tauto), if_neg (by simp [low_of_sound hsupply]), State.order, ho]

theorem confirmProposalBlock_other (hh : handleOk h) (htag : tagOk tag) (hsupply : s.supply = .sound)
    (ho : Table.get s.orders h = some o) (hpr : ∀ pr, o.proposal = some pr → pr.tag ≠ tag) :
    confirmProposalBlock h tag s = refuse .wrongState s := by
  rw [confirmProposalBlock, if_neg (by tauto), if_neg (by simp [low_of_sound hsupply]), State.order, ho]
  cases hslot : o.proposal with
  | none => simp [hslot]
  | some pr => simp [hslot, hpr pr hslot]

theorem confirmProposalBlock_named (hh : handleOk h) (htag : tagOk tag) (hsupply : s.supply = .sound)
    (ho : Table.get s.orders h = some o) (hpr : o.proposal = some pr) (hsame : pr.tag = tag) :
    confirmProposalBlock h tag s = confirm h o pr s := by
  rw [confirmProposalBlock, if_neg (by tauto), if_neg (by simp [low_of_sound hsupply]), State.order, ho]
  simp [hpr, hsame]

theorem rejectProposalBlock_unknown (hh : handleOk h) (htag : tagOk tag) (ho : Table.get s.orders h = none) :
    rejectProposalBlock h tag s = refuse .notFound s := by
  rw [rejectProposalBlock, if_neg (by tauto), State.order, ho]

theorem rejectProposalBlock_live (hh : handleOk h) (htag : tagOk tag) (ho : Table.get s.orders h = some o) :
    rejectProposalBlock h tag s =
      if o.proposal.map Proposal.tag = some tag then taken [] (rejectTag h tag s) else refuse .wrongState s := by
  rw [rejectProposalBlock, if_neg (by tauto), State.order, ho]

/-- A confirmed pack that passes the validation of its pass is committed (R109). -/
theorem confirm_commits {pass : Pass} {p : Pack} {l : OrderLine} (hp : Table.get s.packs pr.tag = some p)
    (hl : nth o.lines pr.line = some l) (hwants : l.allocated < l.item.quantity) (hpass : passFor p = some pass)
    (hok : passOk pass s o l.item pr.tag p = true) :
    confirm h o pr s =
      taken (be3 pr.tag ++ be2 (packCost s o l.item pr.tag p))
        (commit pass ⟨h, pr.line⟩ pr.tag p (emptySlot h s)) := by
  have hconfirmable : confirmable s o pr = some (pass, p, l) := by
    simp [confirmable, hp, hl, hpass, hok, OrderLine.wants, hwants]
  rw [confirm, hconfirmable]

/-- A confirmed pack that does not pass is stale (R109). -/
theorem confirm_stale
    (hno : ∀ p l, Table.get s.packs pr.tag = some p → nth o.lines pr.line = some l → l.allocated < l.item.quantity →
      ¬ (p.state = .stored ∧ firstPassOk s o l.item pr.tag p = true) ∧
        ¬ (p.state = .reserved ∧ secondPassOk s o l.item pr.tag p = true)) :
    confirm h o pr s = refuse .stale (emptySlot h s) := by
  have hnone : confirmable s o pr = none := by
    cases hc : confirmable s o pr with
    | none => rfl
    | some c =>
      obtain ⟨pass, p, l⟩ := c
      unfold confirmable at hc
      split at hc
      case h_2 => cases hc
      case h_1 hp hl =>
        split at hc
        · cases hc
        · next hpass =>
          split_ifs at hc with hwants
          cases hc
          obtain ⟨hfirst, hsecond⟩ := hno _ _ hp hl (of_decide_eq_true hwants.1)
          cases hstate : p.state <;> simp only [passFor, hstate, reduceCtorEq, Option.some.injEq] at hpass
          · subst hpass
            exact absurd ⟨hstate, hwants.2⟩ hfirst
          · subst hpass
            exact absurd ⟨hstate, hwants.2⟩ hsecond
  rw [confirm, hnone]

end

theorem exec_proposalExpiry_due {h : Nat} {o : Order} {pr : Proposal} {s : State} (hrun : s.running = true)
    (ho : Table.get s.orders h = some o) (hpr : o.proposal = some pr) (hdue : pr.left = 0) :
    exec (.proposalExpiry h) s = .next (post .proposalExpired (emptySlot h s)) := by
  refine congrArg Host.Outcome.next (if_pos ⟨hrun, ?_⟩)
  simp [proposalDue, State.order, ho, hpr, hdue]

/-- Settles O42: the checks of both requests in their order, and the three outcomes of a confirmation. -/
theorem proposalsAreAnswered : Obligations.ProposalsAreAnswered := by
  refine ⟨fun h tag s c hc hs => ⟨fun hbad => ?_, fun h1 h2 ht ht' hsupply => ?_⟩,
    fun h tag o pr s u h1 h2 ht ht' ho hpr hsame hu => ?_⟩
  · have hout : ¬ handleOk h ∨ ¬ tagOk tag := by
      simp only [handleOk, tagOk, inRange, Config.maxTag]
      omega
    rcases hc with rfl | rfl
    · exact (serves_confirmProposal h tag).refused hs (by decide) (if_pos hout)
    · exact (serves_rejectProposal h tag).refused hs (by decide) (if_pos hout)
  · rcases hc with rfl | rfl
    · have hsound : s.supply = .sound := hsupply.resolve_left (by simp)
      exact ⟨fun ho => (serves_confirmProposal h tag).refused hs (by decide)
          (confirmProposalBlock_unknown ⟨h1, h2⟩ ⟨ht, ht'⟩ hsound ho),
        fun o ho hpr => (serves_confirmProposal h tag).refused hs (by decide)
          (confirmProposalBlock_other ⟨h1, h2⟩ ⟨ht, ht'⟩ hsound ho hpr)⟩
    · refine ⟨fun ho => (serves_rejectProposal h tag).refused hs (by decide)
          (rejectProposalBlock_unknown ⟨h1, h2⟩ ⟨ht, ht'⟩ ho),
        fun o ho hpr => (serves_rejectProposal h tag).refused hs (by decide) ?_⟩
      rw [rejectProposalBlock_live ⟨h1, h2⟩ ⟨ht, ht'⟩ ho, if_neg]
      intro hnamed
      obtain ⟨pr, hslot, htag⟩ := Option.map_eq_some_iff.mp hnamed
      exact hpr pr hslot htag
  · subst hsame
    have hempty : u = emptySlot h s := hu
    rw [hempty]
    have hblock := fun hsupply =>
      confirmProposalBlock_named (s := s) ⟨h1, h2⟩ ⟨ht, ht'⟩ hsupply ho hpr rfl
    refine ⟨fun p l hs hsupply hp hl hwants hstate hok => (serves_confirmProposal h pr.tag).ok hs ?_,
      fun p l hs hsupply hp hl hwants hstate hok => (serves_confirmProposal h pr.tag).ok hs ?_,
      fun hs hsupply hno => (serves_confirmProposal h pr.tag).refused hs (by decide) ?_,
      fun hs => (serves_rejectProposal h pr.tag).ok hs ?_, fun hrun hdue => exec_proposalExpiry_due hrun ho hpr hdue⟩
    · rw [hblock hsupply, confirm_commits (pass := .first) hp hl hwants (by rw [passFor, hstate]) hok]
      rfl
    · rw [hblock hsupply, confirm_commits (pass := .second) hp hl hwants (by rw [passFor, hstate]) hok]
      rfl
    · rw [hblock hsupply, confirm_stale hno]
    · rw [rejectProposalBlock_live ⟨h1, h2⟩ ⟨ht, ht'⟩ ho, if_pos (by rw [hpr]; rfl)]
      rfl

end Sys2Proof.Proofs
end

section
/-!
PROOFS. Stations coming, going and reporting (R125 to R127, R134), and offers accepted and declined (R128, R129).
-/

namespace Sys2Proof.Proofs

open Sys2Proof.Machine Sys2Proof.Safety

/-! ## Which block serves a station request -/

section
variable {n : Nat} (h1 : 1 ≤ n) (h8 : n ≤ 8)
include h1 h8

theorem serves_goOnShift (capacity : Nat) : Serves (.goOnShift n capacity) (goOnShiftBlock n capacity) :=
  serves_station 0x50 h1 h8 (fun _ => rfl) nofun rfl rfl (by decide)

theorem serves_goOffShift : Serves (.goOffShift n) (goOffShiftBlock n) :=
  serves_station 0x51 h1 h8 (fun _ => rfl) nofun rfl rfl (by decide)

theorem serves_pollTask : Serves (.pollTask n) (pollTaskBlock n) :=
  serves_station 0x52 h1 h8 (fun _ => rfl) nofun rfl rfl (by decide)

theorem serves_accept (task : Nat) : Serves (.accept n task) (acceptBlock n task) :=
  serves_station 0x53 h1 h8 (fun _ => rfl) nofun rfl rfl (by decide)

theorem serves_decline (task : Nat) : Serves (.decline n task) (declineBlock n task) :=
  serves_station 0x54 h1 h8 (fun _ => rfl) nofun rfl rfl (by decide)

theorem serves_reportPosition (bay : Nat) : Serves (.reportPosition n bay) (reportPositionBlock n bay) :=
  serves_station 0x58 h1 h8 (fun _ => rfl) nofun rfl rfl (by decide)

end

/-! ## Station records by their place in the list -/

theorem station_of_getElem? {s : State} {n : Nat} {st : Station} (h1 : 1 ≤ n) (h : s.stations[n - 1]? = some st) :
    s.station n = some st := by
  rw [State.station, nth, if_neg (by omega), h]

theorem changeNth_of_pos {α : Type} {n : Nat} (h1 : 1 ≤ n) (l : List α) (f : α → α) :
    changeNth l n f = l.modify (n - 1) f := if_neg (by omega)

theorem changeStation_eq {n : Nat} (h1 : 1 ≤ n) (f : Station → Station) (s : State) :
    changeStation n f s = { s with stations := s.stations.modify (n - 1) f } :=
  congrArg (fun l => { s with stations := l }) (changeNth_of_pos h1 s.stations f)

/-! ## GO_ON_SHIFT and GO_OFF_SHIFT (R125, R126) -/

section
variable {n capacity : Nat} {st : Station} {s : State}

theorem goOnShiftBlock_inRange (h : s.station n = some st) (hlow : 500 ≤ capacity) (hhigh : capacity ≤ 6000) :
    goOnShiftBlock n capacity s =
      if s.mode = .closed then refuse .mode s
      else if st.state ≠ .offShift then refuse .wrongState s
      else
        taken [] (changeStation n (fun u => { u with state := .idle, capacity := some capacity, lapses := 0 }) s) := by
  rw [goOnShiftBlock, withStation_some h, if_neg (not_not_intro ⟨hlow, hhigh⟩)]

theorem goOnShiftBlock_badField (h : s.station n = some st) (hout : capacity < 500 ∨ 6000 < capacity) :
    goOnShiftBlock n capacity s = refuse .badField s := by
  rw [goOnShiftBlock, withStation_some h, if_pos (by simp only [inRange]; omega)]

theorem holdsLifted_of_none (h : heldTask s n = none) : holdsLifted s n = false := by
  rw [holdsLifted, h]

theorem holdsLifted_of_some {t : Machine.Task} (h : heldTask s n = some t) :
    holdsLifted s n = decide (t.state = .lifted) := by
  rw [holdsLifted, h]

theorem goOffShiftBlock_free (h : s.station n = some st) (hl : holdsLifted s n = false) :
    goOffShiftBlock n s = taken [] (changeStation n Station.offShift (reopenHeld n s)) := by
  rw [goOffShiftBlock, withStation_some h, if_neg (by simp [hl])]

theorem goOffShiftBlock_lifted (h : s.station n = some st) (hl : holdsLifted s n = true) :
    goOffShiftBlock n s = refuse .wrongState s := by
  rw [goOffShiftBlock, withStation_some h, if_pos hl]

theorem reopenHeld_of_none (h : heldTask s n = none) : reopenHeld n s = s := by
  rw [reopenHeld, h]

theorem reopenHeld_of_some {t : Machine.Task} (h : heldTask s n = some t) :
    reopenHeld n s = changeTask t.number (Task.toOpen t.lapsed) s := by
  rw [reopenHeld, h]

end

/-! ## POLL_TASK (R127, R194) -/

theorem length_heldReply (s : State) (st : Station) (t : Machine.Task) : (heldReply s st t).length = 21 := by
  have hdest : (orZeros 2 destinationBytes t.suggested).length = 2 := length_orZeros (n := 2) (fun _ => rfl) _
  have htimer (o : Option Nat) : (orZeros 2 timerBytes o).length = 2 := length_orZeros (n := 2) (fun _ => rfl) o
  have hone (o : Option Nat) : (orZeros 1 be1 o).length = 1 := length_orZeros (n := 1) (fun _ => rfl) o
  simp [heldReply, presence, hdest, htimer, hone]

theorem orZeros_timer (o : Option Nat) : orZeros 2 timerBytes o = be2 ((o.getD 0 + 99) / 100) := by
  cases o <;> rfl

theorem subjectPlace_of_get {s : State} {t : Machine.Task} {p : Pack} (h : Table.get s.packs t.subject = some p) :
    subjectPlace s t = p.location := by
  rw [subjectPlace, h]
  rfl

theorem subjectMass_of_get {s : State} {t : Machine.Task} {p : Pack} (h : Table.get s.packs t.subject = some p) :
    subjectMass s t = p.mass := by
  rw [subjectMass, h]

/-- The handle and the loading point POLL_TASK gives with a task: those of the order a FETCH serves. -/
theorem served_eq {s : State} {t : Machine.Task} {handle point : Option Nat}
    (h : (∃ r o, t.kind = .fetch r ∧ handle = some r.handle ∧ Table.get s.orders r.handle = some o ∧ point = o.point) ∨
      (t.isFetch = false ∧ handle = none ∧ point = none)) :
    t.fetchHandle = handle ∧ servedPoint s t = point := by
  rcases h with ⟨r, o, hkind, rfl, ho, rfl⟩ | ⟨hno, rfl, rfl⟩
  · have hf : t.fetchHandle = some r.handle := by rw [Task.fetchHandle, hkind]
    refine ⟨hf, ?_⟩
    rw [servedPoint, hf]
    simp [State.order, ho]
  · have hf : t.fetchHandle = none := by
      cases hk : t.kind with
      | fetch r => simp [Task.isFetch, hk] at hno
      | shift tag => simp [Task.fetchHandle, hk]
      | giveBack => simp [Task.fetchHandle, hk]
    refine ⟨hf, ?_⟩
    rw [servedPoint, hf]
    rfl

theorem heldReply_eq {s : State} {st : Station} {t : Machine.Task} {p : Pack} {handle point : Option Nat}
    (hp : Table.get s.packs t.subject = some p) (hh : t.fetchHandle = handle) (hpt : servedPoint s t = point) :
    heldReply s st t =
      [bitsByte
          [st.notice, true, p.location.isSome, t.suggested.isSome, t.deadline.isSome, t.alarm.isSome,
            handle.isSome, point.isSome],
        byte (stationStateNumber st.state), byte t.number, byte (taskKindNumber t.kind),
        byte (taskStateNumber t.state)] ++ be3 t.subject ++ be2 p.mass ++ orZeros 3 locationBytes p.location ++
        orZeros 2 destinationBytes t.suggested ++
        be2 ((t.deadline.getD 0 + 99) / 100) ++ be2 ((t.alarm.getD 0 + 99) / 100) ++
        [byte (handle.getD 0), byte (point.getD 0)] := by
  rw [heldReply, subjectPlace_of_get hp, subjectMass_of_get hp, hh, hpt, orZeros_timer, orZeros_timer, orZeros_one,
    orZeros_one, presence]
  simp only [List.append_assoc, List.cons_append, List.nil_append]

theorem orZeros_destination (o : Option (Nat × Nat)) :
    orZeros 2 destinationBytes o =
      match o with
      | none => [0#8, 0#8]
      | some place => [byte place.1, byte place.2] := by
  cases o <;> rfl

theorem pollReply_of_none {s : State} {n : Nat} {st : Station} (h : heldTask s n = none) :
    pollReply s n st = [bitsByte [st.notice], byte (stationStateNumber st.state)] ++ List.replicate 19 0#8 := by
  rw [pollReply, h]
  rfl

theorem pollReply_of_some {s : State} {n : Nat} {st : Station} {t : Machine.Task} (h : heldTask s n = some t) :
    pollReply s n st = heldReply s st t := by
  rw [pollReply, h]

theorem length_pollReply (s : State) (n : Nat) (st : Station) : (pollReply s n st).length = 21 := by
  cases h : heldTask s n with
  | none => rw [pollReply_of_none h]; rfl
  | some t => rw [pollReply_of_some h, length_heldReply]

/-- Settles O44: the checks of each request in their order, and the reply of POLL_TASK field by field. -/
theorem stationsComeGoPollAndReport : Obligations.StationsComeGoPollAndReport := by
  intro n st s held h1 h8 hst hheld
  have hrec := station_of_getElem? h1 hst
  have hheld' : heldTask s n = held := hheld.symm
  refine ⟨?_, ?_, ?_, ?_, ?_, ?_, ?_, ?_, ?_, ?_⟩
  · intro capacity hs hlow hhigh hmode hoff
    refine (serves_goOnShift h1 h8 capacity).ok hs ?_
    rw [goOnShiftBlock_inRange hrec hlow hhigh, if_neg hmode, if_neg (not_not_intro hoff), changeStation_eq h1]
  · intro capacity hs hlow hhigh hmode
    refine (serves_goOnShift h1 h8 capacity).refused hs (by decide) ?_
    rw [goOnShiftBlock_inRange hrec hlow hhigh, if_pos hmode]
  · intro capacity hs hout
    exact (serves_goOnShift h1 h8 capacity).refused hs (by decide) (goOnShiftBlock_badField hrec hout)
  · intro capacity hs hlow hhigh hmode hon
    refine (serves_goOnShift h1 h8 capacity).refused hs (by decide) ?_
    rw [goOnShiftBlock_inRange hrec hlow hhigh, if_neg hmode, if_pos hon]
  · intro hs hnone
    have hfree := hheld'.trans hnone
    refine (serves_goOffShift h1 h8).ok hs ?_
    rw [goOffShiftBlock_free hrec (holdsLifted_of_none hfree), reopenHeld_of_none hfree, changeStation_eq h1]
    rfl
  · intro t hs hsome hstate
    have hholds := hheld'.trans hsome
    refine (serves_goOffShift h1 h8).ok hs ?_
    rw [goOffShiftBlock_free hrec ((holdsLifted_of_some hholds).trans (decide_eq_false hstate)),
      reopenHeld_of_some hholds, changeStation_eq h1]
    rfl
  · intro t hs hsome hstate
    exact (serves_goOffShift h1 h8).refused hs (by decide)
      (goOffShiftBlock_lifted hrec ((holdsLifted_of_some (hheld'.trans hsome)).trans (decide_eq_true hstate)))
  · intro reply hs hreply
    have heq : pollReply s n st = reply := by
      rcases hreply with ⟨hnone, rfl⟩ | ⟨t, p, handle, point, hsome, hp, hserved, rfl⟩
      · exact pollReply_of_none (hheld'.trans hnone)
      · obtain ⟨hh, hpt⟩ := served_eq hserved
        rw [pollReply_of_some (hheld'.trans hsome), heldReply_eq hp hh hpt, orZeros_destination]
        cases p.location <;> rfl
    refine ⟨heq ▸ length_pollReply s n st, (serves_pollTask h1 h8).ok hs ?_⟩
    rw [pollTaskBlock, withStation_some hrec, changeStation_eq h1, heq]
  · intro bay hs hbay
    refine (serves_reportPosition h1 h8 bay).ok hs ?_
    rw [reportPositionBlock, if_neg (by omega), changeStation_eq h1]
  · intro bay hs hbay
    exact (serves_reportPosition h1 h8 bay).refused hs (by decide) (if_pos hbay)

/-! ## ACCEPT and DECLINE (R128, R129) -/

section
variable {n task : Nat} {s : State} {k : Machine.Task → Answer}

theorem withHeld_badField (h : task = 0 ∨ 48 < task) : withHeld n task s k = refuse .badField s :=
  if_pos (by simp only [taskOk, inRange]; omega)

theorem withHeld_holds {t : Machine.Task} (hok : taskOk task) (h : heldTask s n = some t) (hn : t.number = task) :
    withHeld n task s k = k t := by
  rw [withHeld, if_neg (not_not_intro hok), h]
  exact if_pos hn

theorem withHeld_withdrawn (hok : taskOk task) (h : ∀ t, heldTask s n = some t → t.number ≠ task) :
    withHeld n task s k = refuse .taskWithdrawn s := by
  rw [withHeld, if_neg (not_not_intro hok)]
  cases hheld : heldTask s n with
  | none => rfl
  | some t => exact if_neg (h t hheld)

end

/-- Settles O45: the held task decides both requests, by its number and its state. -/
theorem offersAreAcceptedAndDeclined : Obligations.OffersAreAcceptedAndDeclined := by
  intro n task s held h1 h8 hheld
  have hheld' : heldTask s n = held := hheld.symm
  have haccept := serves_accept h1 h8 task
  have hdecline := serves_decline h1 h8 task
  refine ⟨?_, fun hlow hhigh => ?_⟩
  · rintro c (rfl | rfl) hs
    · refine ⟨fun hout => haccept.refused hs (by decide) (withHeld_badField hout), ?_⟩
      intro t hlow hhigh hsome hn hstate
      refine haccept.refused hs (by decide) ?_
      rw [acceptBlock, withHeld_holds ⟨hlow, hhigh⟩ (hheld'.trans hsome) hn, hstate]
    · refine ⟨fun hout => hdecline.refused hs (by decide) (withHeld_badField hout), ?_⟩
      intro t hlow hhigh hsome hn hstate
      refine hdecline.refused hs (by decide) ?_
      rw [declineBlock, withHeld_holds ⟨hlow, hhigh⟩ (hheld'.trans hsome) hn, if_pos hstate]
  · have hok : taskOk task := ⟨hlow, hhigh⟩
    refine ⟨?_, ?_, ?_, ?_, ?_⟩
    · intro t hs hsome hn hstate
      refine haccept.ok hs ?_
      rw [acceptBlock, withHeld_holds hok (hheld'.trans hsome) hn, hstate]
      exact congrArg (taken []) (changeStation_eq h1 _ _)
    · intro t hs hsome hn hstate
      refine haccept.ok hs ?_
      rw [acceptBlock, withHeld_holds hok (hheld'.trans hsome) hn, hstate]
    · intro hs hother
      exact haccept.refused hs (by decide) (withHeld_withdrawn hok fun t ht => hother t (hheld'.symm.trans ht))
    · intro t hs hsome hn hstate
      refine hdecline.ok hs ?_
      rw [declineBlock, withHeld_holds hok (hheld'.trans hsome) hn, if_neg hstate, changeStation_eq h1]
      rfl
    · intro hs hother
      exact hdecline.refused hs (by decide) (withHeld_withdrawn hok fun t ht => hother t (hheld'.symm.trans ht))

end Sys2Proof.Proofs
end

section
/-!
PROOFS. LIFTED (R130, R131): the lift of the held task's subject, the late lift and the unplanned lift.
-/

namespace Sys2Proof.Proofs

open Sys2Proof.Machine Sys2Proof.Safety

/-! ## What a lift writes -/

/-- A removal reads and writes the pack records alone (R8). -/
theorem packs_removeFromStack_congr {s t : State} (tag : Nat) (h : t.packs = s.packs) :
    (removeFromStack tag t).packs = (removeFromStack tag s).packs := by
  unfold removeFromStack
  rw [h]
  split
  · exact h
  · rfl

theorem removeFromStack_eq {s t : State} (tag : Nat) (h : t.packs = s.packs) :
    removeFromStack tag t = { t with packs := (removeFromStack tag s).packs } := by
  obtain ⟨packs, hpacks⟩ := removeFromStack_frame tag t
  rw [← packs_removeFromStack_congr tag h, hpacks]

theorem liftPack_eq {s t : State} (tag task : Nat) (h : t.packs = s.packs) :
    liftPack tag task t =
      { t with
        packs :=
          Table.update (removeFromStack tag s).packs tag fun p => { p with state := .lifted, task := some task } } := by
  rw [liftPack, removeFromStack_eq tag h]
  rfl

/-- The claim of a lift of any kind: the subject off its stack, its station busy, over the tasks the lift leaves. -/
theorem observe_lift {s t : State} {n tag task bay : Nat} {place : Option Location} (h1 : 1 ≤ n)
    (hp : t.packs = s.packs) (hst : t.stations = s.stations) (fresh : Bool) (hplace : place.map Location.bay = some bay) :
    observe (some tag) s.packs (changeStation n (stationLifts place fresh) (liftPack tag task t)) =
      observe (some tag) s.packs
        { t with
          packs :=
            Table.update (removeFromStack tag s).packs tag fun q => { q with state := .lifted, task := some task }
          stations :=
            s.stations.modify (n - 1) fun v =>
              { v with state := .busy, lastBay := some bay, lapses := if fresh then 0 else v.lapses } } := by
  rw [changeStation_eq h1, liftPack_eq tag task hp]
  unfold stationLifts
  rw [hplace, hst]

/-- The lift by a task (R131). -/
theorem liftBy_eq {s : State} {n tag : Nat} {t : Machine.Task} {p : Pack} {l : Location} (h1 : 1 ≤ n)
    (htag : t.subject = tag) (hp : Table.get s.packs tag = some p) (hl : p.location = some l)
    (suggested : Option (Nat × Nat)) (fresh : Bool) :
    liftBy n t suggested fresh s =
      observe (some tag) s.packs
        { removeFromStack tag s with
          packs :=
            Table.update (removeFromStack tag s).packs tag fun q =>
              { q with state := .lifted, task := some t.number }
          tasks :=
            s.tasks.map fun u => if u.number = t.number then liftedTask s n suggested u else u
          stations :=
            s.stations.modify (n - 1) fun v =>
              { v with state := .busy, lastBay := some l.bay, lapses := if fresh then 0 else v.lapses } } := by
  subst htag
  have hplace : (subjectPlace s t).map Location.bay = some l.bay := by rw [subjectPlace_of_get hp, hl]; rfl
  refine (observe_lift (s := s) (t := changeTask t.number (liftedTask s n suggested) s) h1 rfl rfl fresh hplace).trans ?_
  rw [removeFromStack_eq (t := s) t.subject rfl]
  rfl

theorem freeTaskNumber_eq {s : State} {k : Nat} (hroom : s.tasks.length < 48) (h1 : 1 ≤ k)
    (hfree : k ∉ s.tasks.map Task.number) (hless : ∀ m, 1 ≤ m → m < k → m ∈ s.tasks.map Task.number) :
    freeTaskNumber s = k := by
  obtain ⟨h1', -, hfree', hless'⟩ := freeTaskNumber_spec hroom
  rcases Nat.lt_trichotomy (freeTaskNumber s) k with h | h | h
  · exact absurd (hless _ h1' h) hfree'
  · exact h
  · exact absurd (hless' k h1 h) hfree

/-- The unplanned lift (R131). -/
theorem liftUnplanned_eq {s : State} {n tag k : Nat} {p : Pack} {l : Location} (h1 : 1 ≤ n)
    (hl : p.location = some l) (hk : freeTaskNumber s = k) :
    liftUnplanned n tag p s =
      observe (some tag) s.packs
        { removeFromStack tag s with
          packs :=
            Table.update (removeFromStack tag s).packs tag fun q => { q with state := .lifted, task := some k }
          tasks := s.tasks ++ [returnTask s n tag p]
          stations :=
            s.stations.modify (n - 1) fun v => { v with state := .busy, lastBay := some l.bay, lapses := 0 } } := by
  subst hk
  have hplace : p.location.map Location.bay = some l.bay := by rw [hl]; rfl
  refine (observe_lift (s := s) (t := addTask (returnTask s n tag p) s) h1 rfl rfl true hplace).trans ?_
  rw [removeFromStack_eq (t := s) tag rfl]
  rfl

theorem returnTask_eq {s : State} {n tag k : Nat} {p : Pack} {l : Location} (hl : p.location = some l)
    (hk : freeTaskNumber s = k) :
    returnTask s n tag p =
      ⟨k, .giveBack, tag, .lifted, some n, suggest s l.bay (some l), none, none, some (s.settings.timers.carry * 100)⟩ := by
  rw [returnTask, hl, hk]
  rfl

/-! ## Which lift it is (R130) -/

section
variable {n tag : Nat} {st : Station} {s : State}

theorem liftedBlock_held {t : Machine.Task} (hst : s.station n = some st) (htag : tagOk tag) (hsupply : s.supply = .sound)
    (hon : st.state ≠ .offShift) (hheld : heldTask s n = some t) : liftedBlock n tag s = liftHeld n tag t s := by
  rw [liftedBlock, withStation_some hst, if_neg (not_not_intro htag), if_neg (by simp [low_of_sound hsupply]),
    if_neg hon, hheld]

theorem liftedBlock_idle (hst : s.station n = some st) (htag : tagOk tag) (hsupply : s.supply = .sound)
    (hon : st.state ≠ .offShift) (hheld : heldTask s n = none) : liftedBlock n tag s = liftIdle n tag s := by
  rw [liftedBlock, withStation_some hst, if_neg (not_not_intro htag), if_neg (by simp [low_of_sound hsupply]),
    if_neg hon, hheld]

theorem openTaskOn_eq_none (h : ∀ u ∈ s.tasks, u.subject = tag → u.state ≠ .opened) : openTaskOn s tag = none := by
  rw [openTaskOn, List.find?_eq_none]
  intro u hu
  simpa using h u hu

theorem liftIdle_free {p : Pack} (hp : Table.get s.packs tag = some p)
    (hnone : ∀ u ∈ s.tasks, u.subject = tag → u.state ≠ .opened) : liftIdle n tag s = liftFree n tag p s := by
  rw [liftIdle, hp, openTaskOn_eq_none hnone]

theorem liftIdle_late {p : Pack} {t : Machine.Task} (hp : Table.get s.packs tag = some p)
    (ht : s.tasks.find? (fun u => decide (u.subject = tag ∧ u.state = .opened)) = some t) :
    liftIdle n tag s = liftLate n tag t s := by
  have hopen : openTaskOn s tag = some t := ht
  rw [liftIdle, hp, hopen]

theorem subject_of_find {t : Machine.Task}
    (ht : s.tasks.find? (fun u => decide (u.subject = tag ∧ u.state = .opened)) = some t) : t.subject = tag := by
  have h := List.find?_some ht
  simp only [decide_eq_true_eq] at h
  exact h.1

end

/-- Settles O46: which lift it is decides the answer, and `liftBy_eq` and `liftUnplanned_eq` what it leaves. -/
theorem liftsTakeThePackOffItsStack : Obligations.LiftsTakeThePackOffItsStack := by
  intro n tag st p s held h1 h8 hs hst hheld
  have hserves := serves_lifted h1 h8 tag
  have hrec := station_of_getElem? h1 hst
  have hheld' : heldTask s n = held := hheld.symm
  refine ⟨fun hout => ?_, fun hlow hhigh hsupply hoff => ?_, fun hlow hhigh hsupply hon hfree hp => ?_,
    fun hlow hhigh hsupply hon hp => ?_⟩
  · refine hserves.refused hs (by decide) ?_
    rw [liftedBlock, withStation_some hrec, if_pos (by rintro ⟨h1, h2 : tag ≤ 16777215⟩; omega)]
  · refine hserves.refused hs (by decide) ?_
    rw [liftedBlock, withStation_some hrec, if_neg (not_not_intro ⟨hlow, hhigh⟩),
      if_neg (by simp [low_of_sound hsupply]), if_pos hoff]
  · refine hserves.refused hs (by decide) ?_
    rw [liftedBlock_idle hrec ⟨hlow, hhigh⟩ hsupply hon (hheld'.trans hfree), liftIdle, hp]
  have hidle : held = none → liftedBlock n tag s = liftIdle n tag s := fun h =>
    liftedBlock_idle hrec ⟨hlow, hhigh⟩ hsupply hon (hheld'.trans h)
  have hholds : ∀ {t}, held = some t → liftedBlock n tag s = liftHeld n tag t s := fun h =>
    liftedBlock_held hrec ⟨hlow, hhigh⟩ hsupply hon (hheld'.trans h)
  have hnoOpen : (∀ u ∈ s.tasks, u.subject ≠ tag) → ∀ u ∈ s.tasks, u.subject = tag → u.state ≠ .opened :=
    fun h u hu hsub => (h u hu hsub).elim
  refine ⟨?_, ?_, ?_, ?_, ?_, ?_, ?_, ?_, ?_⟩
  · intro hfree hnone hstate hdig
    refine hserves.refused hs (by decide) ?_
    rw [hidle hfree, liftIdle_free hp (hnoOpen hnone), liftFree, if_neg (not_not_intro hstate), if_pos hdig]
  · intro hfree hnone hstate
    refine hserves.refused hs (by decide) ?_
    rw [hidle hfree, liftIdle_free hp hnone, liftFree, if_pos hstate]
  · intro t l hsome hsub hstate hl
    refine hserves.ok hs ?_
    rw [hholds hsome, liftHeld, if_neg (not_not_intro hsub), if_neg hstate, liftBy_eq h1 hsub hp hl]
    rfl
  · intro t hsome hsub hstate
    refine hserves.ok hs ?_
    rw [hholds hsome, liftHeld, if_neg (not_not_intro hsub), if_pos hstate]
  · intro t hsome hsub
    refine hserves.refused hs (by decide) ?_
    rw [hholds hsome, liftHeld, if_pos hsub]
  · intro t l hfree ht hgo hl
    refine hserves.ok hs ?_
    rw [hidle hfree, liftIdle_late hp ht, liftLate, if_neg (by rcases hgo with h | h <;> simp [h]),
      liftBy_eq h1 (subject_of_find ht) hp hl]
    rfl
  · intro t hfree ht hfetch hmoving
    refine hserves.refused hs (by decide) ?_
    rw [hidle hfree, liftIdle_late hp ht, liftLate, if_pos ⟨hfetch, hmoving⟩]
  · intro l k hfree hnone hstate hl hdig hroom hk hk48 hkfree hkless
    have hnum := freeTaskNumber_eq hroom hk hkfree hkless
    refine hserves.ok hs ?_
    rw [hidle hfree, liftIdle_free hp (hnoOpen hnone), liftFree, if_neg (not_not_intro hstate),
      if_neg (not_not_intro hdig), if_neg (by simp only [freeTasks, Config.taskCapacity]; omega),
      liftUnplanned_eq h1 hl hnum, returnTask_eq hl hnum]
  · intro hfree hnone hstate hdig hfull
    refine hserves.refused hs (by decide) ?_
    rw [hidle hfree, liftIdle_free hp (hnoOpen hnone), liftFree, if_neg (not_not_intro hstate),
      if_neg (not_not_intro hdig), if_pos (by simp only [freeTasks, Config.taskCapacity]; omega)]

end Sys2Proof.Proofs
end

section
/-!
PROOFS. DROPPED (R132): the drop on the truck, the drop on a stack, and the FETCH subject set back; and the loading of
the served line (R69).
-/

namespace Sys2Proof.Proofs

open Sys2Proof.Machine Sys2Proof.Safety

/-! ## The loading of a line (R69) -/

theorem loadOne_eq (n : Nat) (o : Order) :
    o.loadOne n =
      { o with
        lines := changeNth o.lines n fun l => { l with loaded := l.loaded + 1 }
        state :=
          if (changeNth o.lines n fun l => { l with loaded := l.loaded + 1 }).all
              (fun l => decide (l.loaded = l.item.quantity)) = true then .complete
          else o.state } := by
  have hall : (changeNth o.lines n fun l => { l with loaded := l.loaded + 1 }).all OrderLine.full =
      (changeNth o.lines n fun l => { l with loaded := l.loaded + 1 }).all
        (fun l => decide (l.loaded = l.item.quantity)) := rfl
  simp only [Order.loadOne, Order.changeLine, hall]
  split_ifs <;> rfl

theorem completes_of_get {s : State} {r : LineRef} {o : Order} (ho : Table.get s.orders r.handle = some o) :
    completes s r =
      (changeNth o.lines r.line fun l => { l with loaded := l.loaded + 1 }).all
        (fun l => decide (l.loaded = l.item.quantity)) := by
  have hlines : (o.loadOne r.line).lines = changeNth o.lines r.line fun l => { l with loaded := l.loaded + 1 } := by
    rw [loadOne_eq]
  rw [completes, State.order, ho]
  simp only [hlines]
  rfl

theorem completes_iff {s : State} {r : LineRef} {o u : Order} (ho : Table.get s.orders r.handle = some o)
    (hu : u = { o with lines := changeNth o.lines r.line fun l => { l with loaded := l.loaded + 1 } }) :
    completes s r = true ↔ ∀ l ∈ u.lines, l.loaded = l.item.quantity := by
  rw [completes_of_get ho, hu]
  simp

theorem orders_loadLine (r : LineRef) (s : State) :
    (loadLine r s).orders = Table.update s.orders r.handle (Order.loadOne r.line) := by
  unfold loadLine postIf
  split <;> rfl

theorem get_orders_loadLine {s : State} {r : LineRef} {o : Order} (ho : Table.get s.orders r.handle = some o) :
    Table.get (loadLine r s).orders r.handle = some (o.loadOne r.line) := by
  rw [orders_loadLine, Table.get_update_self, ho]
  rfl

/-- The last pack of an order makes it COMPLETE (R69). -/
theorem loadLine_completes {s : State} {r : LineRef} {o u : Order} (ho : Table.get s.orders r.handle = some o)
    (hu : u = { o with lines := changeNth o.lines r.line fun l => { l with loaded := l.loaded + 1 } })
    (hall : ∀ l ∈ u.lines, l.loaded = l.item.quantity) :
    loadLine r s =
      post .orderComplete
        { s with
          orders :=
            Table.update s.orders r.handle fun v =>
              { v with
                lines := changeNth v.lines r.line fun l => { l with loaded := l.loaded + 1 }
                state :=
                  if (changeNth v.lines r.line fun l => { l with loaded := l.loaded + 1 }).all
                      (fun l => decide (l.loaded = l.item.quantity)) = true then .complete
                  else v.state } } ∧
      Table.get (loadLine r s).orders r.handle = some { u with state := .complete } := by
  have hc := (completes_iff ho hu).mpr hall
  refine ⟨?_, ?_⟩
  · rw [loadLine, hc, postIf, if_pos rfl, changeOrder, ← funext (loadOne_eq r.line)]
  · rw [get_orders_loadLine ho, loadOne_eq, if_pos ((completes_of_get ho).symm.trans hc), hu]

/-- An order with packs to load still stays in its state (R69). -/
theorem loadLine_short {s : State} {r : LineRef} {o u : Order} (ho : Table.get s.orders r.handle = some o)
    (hu : u = { o with lines := changeNth o.lines r.line fun l => { l with loaded := l.loaded + 1 } })
    (hnot : ∃ l ∈ u.lines, l.loaded ≠ l.item.quantity) :
    (∃ orders, loadLine r s = { s with orders := orders }) ∧ Table.get (loadLine r s).orders r.handle = some u := by
  have hc : ¬ completes s r = true := by
    rw [completes_iff ho hu]
    obtain ⟨l, hl, hne⟩ := hnot
    exact fun hall => hne (hall l hl)
  refine ⟨⟨Table.update s.orders r.handle (Order.loadOne r.line), if_neg hc⟩, ?_⟩
  rw [get_orders_loadLine ho, loadOne_eq, if_neg (by rwa [← completes_of_get ho]), hu]

theorem orders_loadLine_other (s : State) {r : LineRef} {h : Nat} (hne : h ≠ r.handle) :
    Table.get (loadLine r s).orders h = Table.get s.orders h := by
  rw [orders_loadLine, Table.get_update_other _ _ hne]

/-- The loading of a line touches the orders and the event summary alone. -/
theorem loadLine_frame (r : LineRef) (s : State) :
    ∃ o m a, loadLine r s = { s with orders := o, summary := m, attn := a } := by
  unfold loadLine postIf
  split
  · exact ⟨_, _, _, rfl⟩
  · exact ⟨_, s.summary, s.attn, rfl⟩

theorem loadLine_loadPack (r : LineRef) (tag : Nat) (s : State) :
    loadLine r (loadPack tag s) =
      { loadLine r s with
        packs :=
          Table.update (removeFromStack tag s).packs tag fun q => { q with state := .loaded, task := none } } := by
  have hload : loadPack tag s =
      { s with packs := Table.update (removeFromStack tag s).packs tag fun q => { q with state := .loaded, task := none } } := by
    rw [loadPack, removeFromStack_eq (t := s) tag rfl]
    rfl
  have hsame : completes (loadPack tag s) r = completes s r := by
    rw [hload]
    rfl
  rw [loadLine, loadLine, hsame, hload]
  cases completes s r <;> rfl

/-! ## What a drop leaves -/

theorem dropOnTruck_eq {n : Nat} (h1 : 1 ≤ n) (t : Machine.Task) (r : LineRef) (s : State) :
    dropOnTruck n t r s =
      endClaim (some t.subject) s.packs
        (clearStarved
          { loadLine r s with
            packs :=
              Table.update (removeFromStack t.subject s).packs t.subject fun q =>
                { q with state := .loaded, task := none }
            tasks := s.tasks.filter fun u => decide (u.number ≠ t.number)
            stations := s.stations.modify (n - 1) fun st => { st with state := .idle } }) := by
  obtain ⟨o, m, a, hframe⟩ := loadLine_frame r s
  refine congrArg (endClaim (some t.subject) s.packs) ?_
  rw [changeStation_eq h1, retireTask, loadLine_loadPack, hframe, clearStarved_eq, clearStarved_eq]
  rfl

theorem dropOnStack_eq {n : Nat} (h1 : 1 ≤ n) (t : Machine.Task) (bay stack : Nat) (s : State) :
    dropOnStack n t bay stack s =
      endClaim (some t.subject) s.packs
        (clearStarved
          { putDown bay stack t.subject Pack.toStored s with
            tasks := s.tasks.filter fun u => decide (u.number ≠ t.number)
            stations := s.stations.modify (n - 1) fun st => { st with state := .idle, lastBay := some bay } }) := by
  refine congrArg (endClaim (some t.subject) s.packs) ?_
  rw [changeStation_eq h1, retireTask, clearStarved_eq, clearStarved_eq]
  rfl

theorem setBack_eq {n : Nat} (h1 : 1 ≤ n) (t : Machine.Task) (bay stack : Nat) (s : State) :
    setBack n t bay stack s =
      endClaim (some t.subject) s.packs
        (judgeRained bay t.subject
          { putDown bay stack t.subject (fun q => { q with state := .reserved }) s with
            tasks := s.tasks.map fun u => if u.number = t.number then u.toOpen (some n) else u
            stations := s.stations.modify (n - 1) fun st => { st with state := .idle, lastBay := some bay } }) := by
  rw [setBack, changeStation_eq h1]
  rfl

/-! ## The checks of DROPPED (R132) -/

section
variable {n : Nat} {s : State}

theorem liftedTaskOf_of_held {t : Machine.Task} (ht : heldTask s n = some t) (hstate : t.state = .lifted) :
    liftedTaskOf s n = some t := by
  rw [liftedTaskOf, ht]
  exact Option.filter_some_pos (decide_eq_true hstate)

theorem liftedTaskOf_eq_none (h : ∀ u ∈ s.tasks, u.station = some n → u.state ≠ .lifted) : liftedTaskOf s n = none := by
  rw [Option.eq_none_iff_forall_ne_some]
  intro t ht
  obtain ⟨hheld, hlifted⟩ := liftedTaskOf_spec ht
  exact h t (mem_of_heldTask hheld) (by simpa using List.find?_some hheld) hlifted

theorem droppedBlock_badField {bay stack : Nat} (h : 63 < bay ∨ (s.bay bay).stackCount ≤ stack) :
    droppedBlock n (.stack bay stack) s = refuse .badField s :=
  if_pos (decide_eq_false (by omega))

theorem droppedBlock_empty {dest : Destination} (hdest : destinationOk s dest = true) (hsupply : s.supply = .sound)
    (hnone : liftedTaskOf s n = none) : droppedBlock n dest s = refuse .wrongState s := by
  rw [droppedBlock, if_neg (by simp [hdest]), if_neg (by simp [low_of_sound hsupply]), hnone]

theorem droppedBlock_truck {t : Machine.Task} (hsupply : s.supply = .sound) (ht : liftedTaskOf s n = some t) :
    droppedBlock n .truck s = dropTruck n t s := by
  rw [droppedBlock, if_neg (by simp [destinationOk]), if_neg (by simp [low_of_sound hsupply]), ht]

theorem droppedBlock_stack {t : Machine.Task} {bay stack : Nat} (hthere : bay ≤ 63 ∧ stack < (s.bay bay).stackCount)
    (hsupply : s.supply = .sound) (ht : liftedTaskOf s n = some t) :
    droppedBlock n (.stack bay stack) s = dropStack n t bay stack s := by
  rw [droppedBlock, if_neg (by simp [destinationOk, hthere]), if_neg (by simp [low_of_sound hsupply]), ht]

theorem dropTruck_fetch {t : Machine.Task} {r : LineRef} (hkind : t.kind = .fetch r) :
    dropTruck n t s = if truckThere s r.handle = true then taken [] (dropOnTruck n t r s) else refuse .noTruck s := by
  rw [dropTruck, hkind]

theorem dropTruck_other {t : Machine.Task} (hkind : t.isFetch = false) : dropTruck n t s = refuse .badField s := by
  unfold dropTruck
  cases hk : t.kind with
  | fetch r => simp [Task.isFetch, hk] at hkind
  | shift tag => rfl
  | giveBack => rfl

theorem truckThere_of_get {h : Nat} {o : Order} (ho : Table.get s.orders h = some o) :
    truckThere s h = true ↔ ∃ point, o.point = some point ∧ lineActive s (point + 2) = true := by
  rw [truckThere, State.order, ho]
  show truckPresent s o = true ↔ _
  unfold truckPresent pointActive
  cases o.point <;> simp

theorem dropStack_taken {t : Machine.Task} {bay stack : Nat} (h : putDownTaken s bay stack) :
    dropStack n t bay stack s =
      taken [] (if t.isFetch then setBack n t bay stack s else dropOnStack n t bay stack s) := by
  rw [dropStack, putDownCheck_taken h]

theorem dropStack_refused {t : Machine.Task} {bay stack : Nat} {status : Status}
    (h : putDownRefused s bay stack .mode status) : dropStack n t bay stack s = refuse status s := by
  rw [dropStack, putDownCheck_refused h]

theorem isFetch_of_kind {t : Machine.Task} {r : LineRef} (h : t.kind = .fetch r) : t.isFetch = true := by
  rw [Task.isFetch, h]

/-- A put-down that R6 refuses is answered so by the holder of a LIFTED task, at a stack that is there or not. -/
theorem droppedBlock_refused {t : Machine.Task} {bay stack : Nat} {status : Status} (hsupply : s.supply = .sound)
    (ht : liftedTaskOf s n = some t) (h : putDownRefused s bay stack .mode status) :
    droppedBlock n (.stack bay stack) s = refuse status s := by
  by_cases hthere : bay ≤ 63 ∧ stack < (s.bay bay).stackCount
  · rw [droppedBlock_stack hthere hsupply ht, dropStack_refused h]
  · rw [droppedBlock_badField (by omega)]
    rcases h with ⟨-, rfl⟩ | ⟨hb, hk, -⟩
    · rfl
    · omega

end

/-- The judgement after a put-down in the rain is the judgement of R154 (R132, R153). -/
theorem judgeWetted_releases {u : State} {tag : Nat} {q : Pack} {r : LineRef} (hq : Table.get u.packs tag = some q)
    (hstate : q.state = .reserved) (hres : q.reservation = some r) (h : wettingReleases u tag r) :
    judgeWetted u tag = releaseAtRest tag Pack.toStored u := by
  rw [judgeWetted, hq]
  simp only [hstate, hres]
  exact if_pos ((wettingReleases_iff u tag r).mp h)

theorem judgeWetted_keeps {u : State} {tag : Nat} {q : Pack} {r : LineRef} (hq : Table.get u.packs tag = some q)
    (hstate : q.state = .reserved) (hres : q.reservation = some r) (h : ¬ wettingReleases u tag r) :
    judgeWetted u tag = u := by
  rw [judgeWetted, hq]
  simp only [hstate, hres]
  exact if_neg (mt (wettingReleases_iff u tag r).mpr h)

theorem rainsOn_iff (s : State) (b : Nat) : rainsOn s b = true ↔ s.raining = true ∧ (s.bay b).covered = false := by
  simp [rainsOn]

/-- Settles O47: the checks of DROPPED in their order, and what each drop leaves. -/
theorem dropsEndTheCarry : Obligations.DropsEndTheCarry := by
  refine ⟨fun n dest s h1 h8 hs => ⟨?_, ?_⟩, ?_⟩
  · rintro bay stack rfl hout
    exact (serves_dropped h1 h8 _).refused hs (by decide) (droppedBlock_badField hout)
  · intro hthere hsupply hnone
    exact (serves_dropped h1 h8 _).refused hs (by decide)
      (droppedBlock_empty ((destinationOk_iff s dest).mpr hthere) hsupply (liftedTaskOf_eq_none hnone))
  intro n t p s h1 h8 hsupply hheld hstate hp
  have ht : liftedTaskOf s n = some t := liftedTaskOf_of_held hheld hstate
  refine ⟨?_, ?_, ?_, ?_, ?_, ?_, ?_, ?_⟩
  · intro r o point hs hkind ho hpoint hactive
    refine (serves_dropped h1 h8 _).ok hs ?_
    rw [droppedBlock_truck hsupply ht, dropTruck_fetch hkind,
      if_pos ((truckThere_of_get ho).mpr ⟨point, hpoint, hactive⟩), dropOnTruck_eq h1]
  · intro bay stack status hs hput
    exact (serves_dropped h1 h8 _).refused hs (putDownRefused_ne_ok (by decide) hput)
      (droppedBlock_refused hsupply ht hput)
  · intro r o hs hkind ho hnone
    refine (serves_dropped h1 h8 _).refused hs (by decide) ?_
    rw [droppedBlock_truck hsupply ht, dropTruck_fetch hkind, if_neg]
    rw [truckThere_of_get ho]
    rintro ⟨point, hpoint, hactive⟩
    simp [hnone point hpoint] at hactive
  · intro hs hkind
    refine (serves_dropped h1 h8 _).refused hs (by decide) ?_
    rw [droppedBlock_truck hsupply ht, dropTruck_other hkind]
  · intro bay stack hs hkind hput
    refine (serves_dropped h1 h8 _).ok hs ?_
    rw [droppedBlock_stack ⟨hput.1, hput.2.1⟩ hsupply ht, dropStack_taken hput, if_neg (by simp [hkind]),
      dropOnStack_eq h1]
    rfl
  · intro r bay stack hs hkind hput
    refine (serves_dropped h1 h8 _).ok hs ?_
    rw [droppedBlock_stack ⟨hput.1, hput.2.1⟩ hsupply ht, dropStack_taken hput, if_pos (isFetch_of_kind hkind),
      setBack_eq h1]
    rfl
  · intro bay tag u q r hq hqstate hres
    refine ⟨fun hrain hopen hrel => ?_, fun h => ?_⟩
    · rw [judgeRained, if_pos ((rainsOn_iff u bay).mpr ⟨hrain, hopen⟩), judgeWetted_releases hq hqstate hres hrel]
    · by_cases hon : rainsOn u bay = true
      · obtain ⟨hrain, hopen⟩ := (rainsOn_iff u bay).mp hon
        have hkeep : ¬ wettingReleases u tag r := by
          rcases h with h | h | h
          · simp [hrain] at h
          · simp [hopen] at h
          · exact h
        rw [judgeRained, if_pos hon, judgeWetted_keeps hq hqstate hres hkeep]
      · exact if_neg hon
  · exact fun r o u ho hu => ⟨fun hall => loadLine_completes ho hu hall, fun hnot => loadLine_short ho hu hnot,
      fun h hne => orders_loadLine_other s hne⟩

end Sys2Proof.Proofs
end

section
/-!
PROOFS. REPORT_MISSING (R133).
-/

namespace Sys2Proof.Proofs

open Sys2Proof.Machine Sys2Proof.Safety

/-- A task retired, an event posted and a station changed, in one record. -/
theorem changeStation_post_retireTask (n number : Nat) (f : Station → Station) (k : EventKind) (v : State) :
    changeStation n f (post k (retireTask number v)) =
      post k
        (clearStarved
          { v with
            tasks := v.tasks.filter fun t => decide (t.number ≠ number)
            stations := changeNth v.stations n f }) := by
  rw [retireTask, clearStarved_eq, clearStarved_eq]
  rfl

theorem losePack_eq (tag : Nat) (u : State) (lower : Table Order) :
    losePack tag { u with orders := lower } =
      { removeFromStack tag u with
        packs := Table.update (removeFromStack tag u).packs tag (Pack.toHeld .missing)
        orders := lower } := by
  rw [losePack, removeFromStack_eq (s := u) (t := { u with orders := lower }) tag rfl,
    removeFromStack_eq (s := u) (t := u) tag rfl]
  rfl

/-- The state a missing report leaves before its claim ends, over the state `u` the release of the SHIFT tasks leaves
and the orders `lower` the release of the counts leaves. -/
theorem reportLost_eq {n : Nat} {t : Machine.Task} {p : Pack} {l : Location} {s u : State} {lower : Table Order}
    (h1 : 1 ≤ n) (hp : Table.get s.packs t.subject = some p) (hl : p.location = some l)
    (hrelease : releaseMissing t s = { u with orders := lower }) :
    reportLost n t s =
      endClaim (some t.subject) s.packs
        (post .packMissing
          (clearStarved
            { removeFromStack t.subject u with
              packs := Table.update (removeFromStack t.subject u).packs t.subject (Pack.toHeld .missing)
              orders := lower
              tasks := u.tasks.filter fun v => decide (v.number ≠ t.number)
              stations :=
                u.stations.modify (n - 1) fun st => { st with state := .idle, lastBay := some l.bay } })) := by
  have hplace : (subjectPlace s t).map Location.bay = some l.bay := by rw [subjectPlace_of_get hp, hl]; rfl
  refine congrArg (endClaim (some t.subject) s.packs) ?_
  rw [changeStation_post_retireTask, hplace, hrelease, losePack_eq, changeNth_of_pos h1,
    removeFromStack_eq (s := u) (t := u) t.subject rfl]
  rfl

/-- A SHIFT or a RETURN has no reservation to release, and the release of a FETCH's lowers its counts (R133). -/
theorem releaseMissing_eq {t : Machine.Task} {p : Pack} {s u : State} {lower : Table Order}
    (hp : Table.get s.packs t.subject = some p)
    (h : (t.isFetch = false ∧ u = s ∧ lower = s.orders) ∨
      ∃ r, t.isFetch = true ∧ p.reservation = some r ∧ u = releaseShifts t.subject s ∧
        lower =
          Table.update u.orders r.handle fun o =>
            { o with
              lines := changeNth o.lines r.line fun m => { m with allocated := m.allocated - 1 }
              committed := o.committed - p.mass }) :
    releaseMissing t s = { u with orders := lower } := by
  rcases h with ⟨hkind, rfl, rfl⟩ | ⟨r, hkind, hr, rfl, rfl⟩
  · rw [releaseMissing, hkind]
  · rw [releaseMissing, hkind, hp]
    simp only [lowerCountsOf, hr]
    rfl

theorem reportMissingBlock_held {n : Nat} {t : Machine.Task} {s : State} (hsupply : s.supply = .sound)
    (ht : heldTask s n = some t) :
    reportMissingBlock n s = if t.state = .lifted then refuse .wrongState s else taken [] (reportLost n t s) := by
  rw [reportMissingBlock, if_neg (by simp [low_of_sound hsupply]), ht]

theorem heldTask_eq_none {n : Nat} {s : State} (h : ∀ u ∈ s.tasks, u.station ≠ some n) : heldTask s n = none := by
  rw [heldTask, List.find?_eq_none]
  intro u hu
  simpa using h u hu

/-- Settles O48: the checks of REPORT_MISSING, and the claim of the report. -/
theorem aMissingReportReleasesTheReservation : Obligations.AMissingReportReleasesTheReservation := by
  refine ⟨fun n s h1 h8 hs hsupply hnone => ?_, fun n t p s h1 h8 hs hsupply hheld hp => ⟨?_, fun hstate => ?_⟩⟩
  · refine (serves_reportMissing h1 h8).refused hs (by decide) ?_
    rw [reportMissingBlock, if_neg (by simp [low_of_sound hsupply]), heldTask_eq_none hnone]
  · intro l u lower hl hstate hrelease
    refine (serves_reportMissing h1 h8).ok hs ?_
    rw [reportMissingBlock_held hsupply hheld, if_neg hstate, reportLost_eq h1 hp hl (releaseMissing_eq hp hrelease)]
    rfl
  · refine (serves_reportMissing h1 h8).refused hs (by decide) ?_
    rw [reportMissingBlock_held hsupply hheld, if_pos hstate]

end Sys2Proof.Proofs
end

section
/-!
PROOFS. Family 6: SET_WATCH, READ_WATCH and CLEAR_WATCH (R159, R163), and the hits of the watch entries (R160 to R162).
-/

namespace Sys2Proof.Proofs

open Sys2Proof.Machine Sys2Proof.Safety

/-! ## The requests (R163) -/

theorem serves_setWatch (entry value mask : Nat) (field : WatchField) (oneShot : Bool) :
    Serves (.setWatch entry field value mask oneShot) (setWatchBlock entry field value mask oneShot) :=
  serves_plain 0x60 (fun _ => rfl) nofun rfl rfl (by decide)

theorem serves_readWatch (entry : Option Nat) : Serves (.readWatch entry) (readWatchBlock entry) :=
  serves_plain 0x61 (fun _ => rfl) nofun rfl rfl (by decide)

theorem serves_clearWatch (entry : Nat) : Serves (.clearWatch entry) (clearWatchBlock entry) :=
  serves_plain 0x62 (fun _ => rfl) nofun rfl rfl (by decide)

theorem modify_const_eq_set {α : Type} (l : List α) (i : Nat) (a : α) : l.modify i (fun _ => a) = l.set i a := by
  refine List.ext_getElem? fun j => ?_
  rw [List.getElem?_modify, List.getElem?_set]
  by_cases h : i = j
  · subst h
    by_cases hi : i < l.length <;> simp [hi]
  · simp [h]

theorem writeWatch_eq {n : Nat} (h1 : 1 ≤ n) (w : Watch) (s : State) :
    writeWatch n w s = { s with watches := s.watches.set (n - 1) w } := by
  rw [writeWatch, changeNth_of_pos h1, modify_const_eq_set]

theorem watch_of_getElem? {s : State} {n : Nat} {w : Watch} (h1 : 1 ≤ n) (h : s.watches[n - 1]? = some w) :
    s.watch n = w := by
  rw [State.watch, nth, if_neg (by omega), h]
  rfl

theorem watchReply_eq {s : State} {n : Nat} {w : Watch} (h : s.watch n = w) :
    watchReply s n =
      [bitsByte [w.lastTag.isSome], byte n, markByte w.armed, byte (watchFieldNumber w.field), w.value, w.mask,
          markByte w.oneShot, byte w.hits] ++ be3 (w.lastTag.getD 0) := by
  rw [watchReply, h]
  cases w.lastTag <;> rfl

theorem watch_writeWatch {s : State} {n : Nat} (w : Watch) (h1 : 1 ≤ n) (hn : n - 1 < s.watches.length) :
    (writeWatch n w s).watch n = w := by
  rw [writeWatch_eq h1]
  exact watch_of_getElem? h1 (by simp [hn])

theorem watchReply_armed {s : State} {n : Nat} {f : WatchField} {value mask : Nat} {o : Bool} (h1 : 1 ≤ n)
    (hn : n - 1 < s.watches.length) :
    watchReply (writeWatch n (armedWatch f value mask o) s) n =
      [0#8, byte n, 1#8, byte (watchFieldNumber f), byte value, byte mask, markByte o, 0#8] ++ [0#8, 0#8, 0#8] := by
  rw [watchReply_eq (watch_writeWatch _ h1 hn)]
  have hmark : markByte true = 1#8 := rfl
  simp [armedWatch, bitsByte, hmark, be3, byte]

/-- Settles O49: the checks of each request, and the entry it reads or writes. -/
theorem watchesAreSetReadAndCleared : Obligations.WatchesAreSetReadAndCleared := by
  intro n value mask f o s
  refine ⟨?_, fun hs hout => ?_, fun hlen h1 h4 => ?_⟩
  · rintro c (rfl | rfl | rfl) hs hn
    · exact (serves_setWatch n value mask f o).refused hs (by decide)
        (if_pos (Or.inl (by simp only [entryOk, inRange, Config.watchEntries]; omega)))
    · exact (serves_readWatch (some n)).refused hs (by decide)
        (if_pos (by simp only [entryOk, inRange, Config.watchEntries]; omega))
    · exact (serves_clearWatch n).refused hs (by decide)
        (if_pos (by simp only [entryOk, inRange, Config.watchEntries]; omega))
  · exact (serves_setWatch n value mask f o).refused hs (by decide) (if_pos (Or.inr hout))
  · have hentry : entryOk n := ⟨h1, h4⟩
    refine ⟨fun hs hvalue hmask => ?_, fun hs => ?_, fun w hw => watchReply_eq (watch_of_getElem? h1 hw), rfl,
      fun hs => (serves_readWatch none).ok hs rfl, fun hs => ?_⟩
    · refine (serves_setWatch n value mask f o).ok hs ?_
      rw [setWatchBlock, if_neg (by simp only [not_or, not_not, Nat.not_lt]; exact ⟨hentry, hvalue, hmask⟩)]
      show taken (watchReply (writeWatch n _ s) n) (writeWatch n _ s) = _
      rw [watchReply_armed h1 (by omega), writeWatch_eq h1]
      rfl
    · exact (serves_readWatch (some n)).ok hs (if_neg (not_not_intro hentry))
    · refine (serves_clearWatch n).ok hs ?_
      rw [clearWatchBlock, if_neg (not_not_intro hentry), writeWatch_eq h1]
      rfl

/-! ## The hits (R160 to R162) -/

theorem agrees_iff (w : Watch) (v : Option (BitVec 8)) :
    w.agrees v = true ↔ ∃ x, v = some x ∧ x &&& w.mask = w.value &&& w.mask := by
  cases v <;> simp [Watch.agrees]

theorem hitBy_iff (w : Watch) (before after : Option Pack) :
    w.hitBy before after = true ↔
      w.armed = true ∧ (∃ v, valueAfter w.field after = some v ∧ v &&& w.mask = w.value &&& w.mask) ∧
        ∀ v, valueBefore w.field before = some v → v &&& w.mask ≠ w.value &&& w.mask := by
  have hbefore : w.agrees (valueBefore w.field before) = false ↔
      ∀ v, valueBefore w.field before = some v → v &&& w.mask ≠ w.value &&& w.mask := by
    rw [← Bool.not_eq_true, agrees_iff]
    simp only [not_exists, not_and, ne_eq]
  rw [Watch.hitBy, Bool.and_eq_true, Bool.and_eq_true, Bool.not_eq_true', agrees_iff, hbefore, and_assoc]

theorem hitBy_eq_false {w : Watch} {before after : Option Pack}
    (h : w.armed = false ∨ (∀ v, valueAfter w.field after = some v → v &&& w.mask ≠ w.value &&& w.mask) ∨
      ∃ v, valueBefore w.field before = some v ∧ v &&& w.mask = w.value &&& w.mask) :
    w.hitBy before after = false := by
  rw [← Bool.not_eq_true, hitBy_iff]
  rintro ⟨harmed, ⟨v, hv, hmatch⟩, hbefore⟩
  rcases h with h | h | ⟨u, hu, hmatch'⟩
  · simp [harmed] at h
  · exact h v hv hmatch
  · exact hbefore u hu hmatch'

/-- The entries after one change of one record. -/
def struck (tag : Nat) (before after : Option Pack) (ws : List Watch) : List Watch :=
  ws.map fun w => if w.hitBy before after then w.hit tag else w

theorem observeChange_hits {tag : Nat} {before after : Option Pack} {w : Watch} {s : State} (hw : w ∈ s.watches)
    (h : w.hitBy before after = true) :
    observeChange tag before after s = post .watchHit { s with watches := struck tag before after s.watches } := by
  have hany : (s.watches.any fun w => w.hitBy before after) = true := List.any_eq_true.mpr ⟨w, hw, h⟩
  rw [observeChange, hany]
  rfl

theorem observeChange_misses {tag : Nat} {before after : Option Pack} {s : State}
    (h : ∀ w ∈ s.watches, w.hitBy before after = false) : observeChange tag before after s = s := by
  have hany : (s.watches.any fun w => w.hitBy before after) = false := by simpa using h
  have hsame : struck tag before after s.watches = s.watches := by
    refine (List.map_congr_left fun w hw => ?_).trans (List.map_id _)
    rw [if_neg (by simp [h w hw])]
    rfl
  rw [observeChange, hany]
  exact congrArg (fun ws => { s with watches := ws }) hsame

theorem watches_observeChange (tag : Nat) (before after : Option Pack) (s : State) :
    (observeChange tag before after s).watches = struck tag before after s.watches := by
  unfold observeChange postIf
  split <;> rfl

theorem observeChange_getElem? {tag i : Nat} {before after : Option Pack} {w : Watch} {s : State}
    (hw : s.watches[i]? = some w) :
    (observeChange tag before after s).watches[i]? = some (if w.hitBy before after then w.hit tag else w) := by
  rw [watches_observeChange, struck, List.getElem?_map, hw]
  rfl

/-- The order in which one claim's changes are compared: the record it names first, if it changed, then by tag. -/
theorem changeOrderOf_spec (named : Option Nat) {tags : List Nat} (hsorted : tags.Pairwise (· < ·)) :
    ∃ first rest : List Nat, changeOrderOf named tags = first ++ rest ∧ (∀ t, t ∈ first ++ rest ↔ t ∈ tags) ∧
      rest.Pairwise (· < ·) ∧ (∀ t ∈ first, named = some t ∧ t ∉ rest) ∧ first.length ≤ 1 ∧
      ∀ t, named = some t → t ∉ rest := by
  cases named with
  | none => exact ⟨[], tags, rfl, fun t => Iff.rfl, hsorted, by simp, by simp, nofun⟩
  | some n =>
    by_cases hn : n ∈ tags
    · refine ⟨[n], tags.filter fun u => decide (u ≠ n), if_pos hn, fun t => ?_, hsorted.filter _, ?_, by simp, ?_⟩
      · by_cases ht : t = n <;> simp [ht, hn]
      · simp
      · rintro t ⟨⟩
        simp
    · exact ⟨[], tags, if_neg hn, fun t => Iff.rfl, hsorted, by simp, by simp, by rintro t ⟨⟩; exact hn⟩

/-- Settles O50: one change of one record at one entry, and the records a claim compares. -/
theorem aWatchHitsWhenTheValueComesToMatch : Obligations.AWatchHitsWhenTheValueComesToMatch := by
  refine ⟨fun tag i before after w s hw => ⟨fun h => ?_, fun h => ?_⟩, fun tag before after s => ?_, fun f p => ?_,
    fun named before s => ?_⟩
  · have hhit := (hitBy_iff w before after).mpr h
    refine ⟨?_, ?_⟩
    · rw [observeChange_getElem? hw, if_pos hhit]
      rfl
    · rw [observeChange_hits (List.mem_of_getElem? hw) hhit, holds_post]
  · rw [observeChange_getElem? hw, if_neg (by simp [hitBy_eq_false h])]
  · refine ⟨struck tag before after s.watches, List.length_map _, ?_, fun h =>
      observeChange_misses fun w hw => hitBy_eq_false (h w hw)⟩
    by_cases hany : ∃ w ∈ s.watches, w.hitBy before after = true
    · obtain ⟨w, hw, hhit⟩ := hany
      exact Or.inr (observeChange_hits hw hhit)
    · have hmiss : ∀ w ∈ s.watches, w.hitBy before after = false := by simpa using hany
      have hsame := observeChange_misses (tag := tag) hmiss
      refine Or.inl ⟨?_, hsame⟩
      rw [← watches_observeChange, hsame]
  · refine ⟨rfl, rfl, rfl, rfl, ?_, rfl, ?_⟩
    · rw [valueBefore, Option.bind_some, watchValue]
      cases p.state <;> rfl
    · rw [valueBefore, Option.bind_some, watchValue]
      refine congrArg (p.hold.map ·) (funext fun h => ?_)
      cases h <;> rfl
  · obtain ⟨first, rest, horder, hmem, hrest⟩ := changeOrderOf_spec named (changedTags_pairwise before s.packs)
    refine ⟨first, rest, ?_, fun t => (hmem t).trans (mem_changedTags before s.packs t), hrest⟩
    rw [observe, horder]

end Sys2Proof.Proofs
end

section
/-!
PROOFS. Resets, the stop of the part, the start-up check (R57, R183 to R185) and the supply (R113, R186).
-/

namespace Sys2Proof.Proofs

open Sys2Proof.Machine Sys2Proof.Safety

/-! ## The start of a reset and the stop of the part (R183) -/

theorem raisesOf_eq (cause : ResetCause) : raisesOf cause = if cause = .powerOn then 0 else 1 := by
  cases cause <;> rfl

theorem exec_resetPin_on {s : State} (supply : SupplyStatus) (h : s.supplyOff = false) :
    exec (.resetPin supply) s = .next (startReset .resetPin supply { s with resetHeld := false }) := by
  show Host.Outcome.next _ = _
  rw [if_neg (by simp [h])]

theorem exec_resetPin_off {s : State} (supply : SupplyStatus) (h : s.supplyOff = true) :
    exec (.resetPin supply) s = .next { s with resetHeld := false } := by
  show Host.Outcome.next _ = _
  rw [if_pos h]

theorem stopPart_eq (cause : StopCause) (s : State) :
    stopPart cause s =
      { s with
        supplyOff := if cause = .supplyLost then true else s.supplyOff
        resetHeld := if cause = .resetLow then true else s.resetHeld
        summary := 0
        attn := false } := by
  cases cause <;> rfl

/-! ## The steps of the start-up check (R184, R185) -/

theorem checkTables_eq {tables damaged reached f : BitVec 6} {s : State}
    (hreached : reached = if tables = 0#6 then 0#6 else tables ||| 0x20#6)
    (hf : f = (s.badTables ||| damaged) &&& reached) :
    checkTables tables damaged s =
      { s with
        yardMap := if f.getLsbD 0 then YardMap.default else s.yardMap
        products := if f.getLsbD 1 then List.replicate 256 Product.default else s.products
        packs := if f.getLsbD 2 then [] else s.packs
        settings := if f.getLsbD 3 then YardSettings.default else s.settings
        lineSettings := if f.getLsbD 4 then List.replicate 7 ⟨false, true, 0, 100⟩ else s.lineSettings
        restartRecord :=
          if f.getLsbD 5 then ⟨0, f⟩ else ⟨s.restartRecord.count, s.restartRecord.carried ||| f⟩
        owedRaises := if f.getLsbD 5 then (if s.cause = .powerOn then 0 else 1) else s.owedRaises
        badTables := (s.badTables ||| damaged) &&& ~~~reached } := by
  have hreached' : tablesReached tables = reached := hreached.symm
  have hfailing : failing tables damaged s = f := by rw [failing, hreached', hf]
  rw [checkTables, hfailing, hreached', owedAfter, raisesOf_eq]
  rfl

theorem emptyForFailed_eq (u : State) :
    emptyForFailed u =
      { u with
        packs :=
          if u.restartRecord.carried.getLsbD 0 = true ∨ u.restartRecord.carried.getLsbD 1 = true then []
          else u.packs } := by
  unfold emptyForFailed
  split_ifs <;> rfl

/-- Settles O51: the resets row by row, the stop, and the steps of an abandoned check. -/
theorem aResetKeepsTheRetainedTables : Obligations.AResetKeepsTheRetainedTables := by
  refine ⟨fun cause supply s => ?_, fun held supply s => ⟨?_, exec_resetPin_on supply, exec_resetPin_off supply⟩,
    fun cause progress damaged s kept hkept => ?_, fun tables damaged reached f s hreached hf =>
      ⟨checkTables_eq hreached hf, fun u v hu hv => ?_⟩⟩
  · rw [startReset, raisesOf_eq]
    rfl
  · cases held <;> rfl
  · have habandon : abandonCheck progress damaged s = kept := hkept.symm
    exact congrArg Host.Outcome.next ((congrArg (stopPart cause) habandon).trans (stopPart_eq cause kept))
  · have hempty : emptyForFailed (checkTables allTables damaged s) = v := by
      rw [emptyForFailed_eq, hv, hu]
      rfl
    have hraised : checkSteps .raised damaged s = raiseRestarts v := congrArg raiseRestarts hempty
    refine ⟨hempty, hraised, ?_⟩
    rw [hraised]
    exact congrArg (fun w => reconcile (raiseRestarts w)) hempty

/-! ## The postings at the end of the check (R164, R184) -/

/-- The kinds in order of their numbers. -/
def kindsInOrder : List EventKind :=
  [.orderComplete, .lineStarved, .proposalReady, .proposalExpired, .reservationTaken, .taskLapsed, .stationLost,
    .carryOverdue, .packMissing, .pointVacated, .watchHit, .rainChange, .gateArrival, .yardClosed, .tableFull,
    .supplyDip, .portOverrun, .restarted, .storeLost]

theorem kindsInOrder_number (k : EventKind) : kindsInOrder[k.number]? = some k := by cases k <;> rfl

theorem number_inj {j k : EventKind} (h : j.number = k.number) : j = k := by
  have hj := kindsInOrder_number j
  rw [h, kindsInOrder_number k] at hj
  exact (Option.some.inj hj).symm

theorem number_lt (k : EventKind) : k.number < 19 := by cases k <;> decide

/-- What the summary holds after a posting: the kind posted, and what it held (R164). -/
theorem holds_post_iff (j k : EventKind) (s : State) : (post j s).holds k = (decide (k = j) || s.holds k) := by
  have hbit : j.bit.getLsbD k.number = decide (k = j) := by
    rw [EventKind.bit, BitVec.getLsbD_twoPow, decide_eq_true (number_lt j), Bool.true_and]
    exact decide_eq_decide.mpr ⟨fun h => (number_inj h).symm, fun h => by rw [h]⟩
  show (s.summary ||| j.bit).getLsbD k.number = _
  rw [BitVec.getLsbD_or, hbit, Bool.or_comm]
  rfl

theorem holds_foldl_post (kinds : List EventKind) (k : EventKind) (s : State) :
    (kinds.foldl (fun v j => post j v) s).holds k = (decide (k ∈ kinds) || s.holds k) := by
  induction kinds generalizing s with
  | nil => simp
  | cons j kinds ih =>
    rw [List.foldl_cons, ih, holds_post_iff]
    by_cases h : k = j <;> simp [h]

theorem foldl_post_if (c : Prop) [Decidable c] (j : EventKind) (s : State) :
    (if c then [j] else []).foldl (fun v k => post k v) s = postIf (decide c) j s := by
  by_cases h : c <;> simp [h, postIf]

/-- The port IDLE with nothing noted: what the end of the check leaves beside its postings. -/
def awake (s : State) : State := { s with port := .idle, overrunNoted := false, dipNoted := false }

theorem postIf_awake (c : Bool) (k : EventKind) (s : State) : postIf c k (awake s) = awake (postIf c k s) := by
  cases c <;> rfl

/-- The kinds the end of the check posts, in their order (R184 step 7). -/
def restartKinds (s : State) : List EventKind :=
  [.restarted] ++ (if s.failedTables ≠ 0#6 then [.storeLost] else []) ++
    (if s.overrunNoted = true then [.portOverrun] else []) ++
    (if s.supply = .low ∨ s.dipNoted = true then [.supplyDip] else [])

theorem postRestart_idle (s : State) :
    { postRestart s with port := .idle } = (restartKinds s).foldl (fun v k => post k v) (awake s) := by
  have hlow : (s.low || s.dipNoted) = decide (s.supply = .low ∨ s.dipNoted = true) := by
    rw [State.low, Bool.decide_or, Bool.decide_eq_true]
  have hfirst : [EventKind.restarted].foldl (fun v k => post k v) (awake s) = awake (post .restarted s) := rfl
  rw [restartKinds, List.foldl_append, List.foldl_append, List.foldl_append, foldl_post_if, foldl_post_if,
    foldl_post_if, hfirst, postIf_awake, postIf_awake, postIf_awake, Bool.decide_eq_true, ← hlow]
  rfl

/-! ## The end of the check (R57, R184) -/

/-- The tables a whole check comes to. -/
theorem reachedTables : (if allTables = 0#6 then 0#6 else allTables ||| 0x20#6) = BitVec.allOnes 6 := by decide

theorem checkTables_all {damaged f : BitVec 6} {s : State} (hf : f = s.badTables ||| damaged) :
    checkTables allTables damaged s =
      { s with
        yardMap := if f.getLsbD 0 then YardMap.default else s.yardMap
        products := if f.getLsbD 1 then List.replicate 256 Product.default else s.products
        packs := if f.getLsbD 2 then [] else s.packs
        settings := if f.getLsbD 3 then YardSettings.default else s.settings
        lineSettings := if f.getLsbD 4 then List.replicate 7 ⟨false, true, 0, 100⟩ else s.lineSettings
        restartRecord :=
          if f.getLsbD 5 then ⟨0, f⟩ else ⟨s.restartRecord.count, s.restartRecord.carried ||| f⟩
        owedRaises := if f.getLsbD 5 then (if s.cause = .powerOn then 0 else 1) else s.owedRaises
        badTables := 0#6 } := by
  have hall : f = (s.badTables ||| damaged) &&& BitVec.allOnes 6 := by rw [hf, BitVec.and_allOnes]
  rw [checkTables_eq reachedTables.symm hall, show ~~~(BitVec.allOnes 6) = 0#6 by decide, BitVec.and_zero]

/-- The packs after the steps of a whole check: none where a failed table empties them, else each reconciled. -/
theorem reconcile_emptied (f carried : BitVec 6) (packs : Table Pack) :
    Table.change
        (if (if f.getLsbD 5 then f else carried ||| f).getLsbD 0 = true ∨
            (if f.getLsbD 5 then f else carried ||| f).getLsbD 1 = true then []
          else if f.getLsbD 2 then [] else packs)
        (fun _ p => p.reconciled) =
      if f.getLsbD 0 = true ∨ f.getLsbD 1 = true ∨ f.getLsbD 2 = true ∨
          (f.getLsbD 5 = false ∧ (carried.getLsbD 0 = true ∨ carried.getLsbD 1 = true)) then []
      else packs.map fun e => (e.1, e.2.reconciled) := by
  have hnil : Table.change ([] : Table Pack) (fun _ p => p.reconciled) = [] := rfl
  have hmap : Table.change packs (fun _ p => p.reconciled) = packs.map fun e => (e.1, e.2.reconciled) := rfl
  rw [apply_ite (fun t : Table Pack => Table.change t fun _ p => p.reconciled),
    apply_ite (fun t : Table Pack => Table.change t fun _ p => p.reconciled), hnil, hmap]
  rw [← ite_or]
  refine if_congr ?_ rfl rfl
  cases f.getLsbD 5
  · simp only [Bool.false_eq_true, if_false, BitVec.getLsbD_or, Bool.or_eq_true, true_and]
    tauto
  · simp only [if_true, Bool.true_eq_false, false_and, or_false, or_assoc]

/-- What the check leaves before its postings (R184). -/
theorem awake_checked {damaged f : BitVec 6} {s : State} (hf : f = s.badTables ||| damaged) :
    awake (recordFailed (checkSteps .reconciled damaged s)) =
      { s with
        yardMap := if f.getLsbD 0 then YardMap.default else s.yardMap
        products := if f.getLsbD 1 then List.replicate 256 Product.default else s.products
        packs :=
          if f.getLsbD 0 = true ∨ f.getLsbD 1 = true ∨ f.getLsbD 2 = true ∨
              (f.getLsbD 5 = false ∧
                (s.restartRecord.carried.getLsbD 0 = true ∨ s.restartRecord.carried.getLsbD 1 = true)) then []
          else s.packs.map fun e => (e.1, e.2.reconciled)
        settings := if f.getLsbD 3 then YardSettings.default else s.settings
        lineSettings := if f.getLsbD 4 then List.replicate 7 ⟨false, true, 0, 100⟩ else s.lineSettings
        restartRecord :=
          { count :=
              if f.getLsbD 5 then (if s.cause = .powerOn then 0#16 else 1#16)
              else s.restartRecord.count + BitVec.ofNat 16 s.owedRaises
            carried := 0#6 }
        owedRaises := 0
        badTables := 0#6
        failedTables := if f.getLsbD 5 then f else s.restartRecord.carried ||| f
        port := .idle
        overrunNoted := false
        dipNoted := false } := by
  rw [← reconcile_emptied, checkSteps, checkTables_all hf, emptyForFailed_eq]
  cases h5 : f.getLsbD 5
  · rfl
  · cases s.cause <;> rfl

/-- The check leaves what was noted during it, and the supply. -/
theorem noted_checked (damaged : BitVec 6) (s : State) :
    (recordFailed (checkSteps .reconciled damaged s)).overrunNoted = s.overrunNoted ∧
      (recordFailed (checkSteps .reconciled damaged s)).dipNoted = s.dipNoted ∧
      (recordFailed (checkSteps .reconciled damaged s)).supply = s.supply := by
  rw [checkSteps, emptyForFailed_eq]
  exact ⟨rfl, rfl, rfl⟩

/-- Settles O52: the state the check leaves, its postings, and the record of each pack after it. -/
theorem theStartUpCheckRestoresTheStore : Obligations.TheStartUpCheckRestoresTheStore := by
  refine ⟨fun damaged f s u kinds hstop hport hf hu hkinds => ?_, fun p => ?_⟩
  · have hawake := (awake_checked hf).trans hu.symm
    have hrestart : restartKinds (recordFailed (checkSteps .reconciled damaged s)) = kinds := by
      have hfailed : (recordFailed (checkSteps .reconciled damaged s)).failedTables = u.failedTables := by
        rw [← hawake]
        rfl
      obtain ⟨hnoted, hdip, hsupply⟩ := noted_checked damaged s
      rw [restartKinds, hfailed, hkinds, hnoted, hdip, hsupply]
    refine ⟨?_, fun hsummary k => ?_⟩
    · show Host.Outcome.next _ = _
      rw [if_pos ⟨hstop, hport⟩, endCheck, postRestart_idle, hrestart, hawake]
      rfl
    · have hnone : u.holds k = false := by
        have hzero : u.summary = 0#19 := by rw [hu]; exact hsummary
        rw [State.holds, hzero, BitVec.getLsbD_zero]
      rw [holds_foldl_post, hnone, Bool.or_false]
  · unfold Pack.reconciled
    cases p.state <;> simp

/-! ## The supply (R186) -/

/-- Settles O53: each event of the supply monitor, by the state it meets. -/
theorem theSupplyDipsAndRecovers : Obligations.TheSupplyDipsAndRecovers := by
  intro s hstop
  refine ⟨fun hsupply hport => ?_, fun hsupply hport => ?_, fun hsupply hengine => ?_,
    fun c hsupply hengine hlead => ?_⟩
  · show Host.Outcome.next _ = _
    rw [if_neg (by simp [hstop, low_of_sound hsupply]), if_neg hport]
  · show Host.Outcome.next _ = _
    rw [if_neg (by simp [hstop, low_of_sound hsupply]), if_pos hport]
  · show Host.Outcome.next _ = _
    rw [if_neg (by simp [hstop, low_of_low hsupply]), resumeScan, if_neg hengine]
  · show Host.Outcome.next _ = _
    rw [if_neg (by simp [hstop, low_of_low hsupply]), resumeScan, if_pos hengine]
    simp only [hlead]

end Sys2Proof.Proofs
end

section
/-!
PROOFS. The yard lines: pins, debounce periods and edges (R144, R145, R148 to R151), and the wetting sweep (R152 to
R154).
-/

namespace Sys2Proof.Proofs

open Sys2Proof.Machine Sys2Proof.Safety

/-! ## The debounce of a line (R145) -/

theorem getD_of_getElem? {α : Type} {l : List α} {i : Nat} {x : α} (h : l[i]? = some x) (d : α) : l.getD i d = x := by
  rw [List.getD, h]
  rfl

section
variable {k : Nat} {a : Bool} {period : Option Nat} {w : LineSetting} {s : State}

theorem lineActive_of_getElem? (h : s.lines[k]? = some ⟨a, period⟩) : lineActive s k = a := by
  rw [lineActive, getD_of_getElem? h]

theorem lineSetting_of_getElem? (h : s.lineSettings[k]? = some w) : lineSetting s k = w := getD_of_getElem? h _

theorem linePin_eq {source pin : Nat}
    (h : (source = 0 ∧ pin = k) ∨ (source = 1 ∧ pin = k + 7) ∨ (source = 2 ∧ pin = 14) ∨ (source = 3 ∧ pin = 15)) :
    linePin k source = pin := by
  rcases h with ⟨rfl, rfl⟩ | ⟨rfl, rfl⟩ | ⟨rfl, rfl⟩ | ⟨rfl, rfl⟩ <;> rfl

theorem lineWanted_eq {pin : Nat} {wanted : Bool} (hw : lineSetting s k = w) (hpin : linePin k w.source = pin)
    (h : wanted = true ↔ w.enabled = true ∧ s.pins.getLsbD pin = w.activeHigh) : lineWanted s k = wanted := by
  rw [lineWanted, lineLevel, hw, hpin, Bool.eq_iff_iff, h, Bool.and_eq_true, decide_eq_true_eq]

theorem judgeLine_same (hl : s.lines[k]? = some ⟨a, period⟩) (hw : lineWanted s k = a) :
    judgeLine s k = setLive k a none s := by
  rw [judgeLine, getD_of_getElem? hl]
  exact if_pos hw

theorem judgeLine_pending {n : Nat} (hl : s.lines[k]? = some ⟨a, some n⟩) (hw : lineWanted s k ≠ a) :
    judgeLine s k = s := by
  rw [judgeLine, getD_of_getElem? hl]
  exact if_neg hw

theorem judgeLine_free (hl : s.lines[k]? = some ⟨a, none⟩) (hw : lineWanted s k ≠ a) :
    judgeLine s k =
      if (lineSetting s k).debounce = 0 then takeEdge k (!a) s
      else setLive k a (some (Config.ticksOfMillis (lineSetting s k).debounce)) s := by
  rw [judgeLine, getD_of_getElem? hl, ← Bool.eq_not_of_ne hw]
  exact if_neg hw

end

/-- Settles O55: the four outcomes of the judgement of a line. -/
theorem debounceHoldsEdgesBack : Obligations.DebounceHoldsEdgesBack := by
  intro k pin a wanted period w s hl hset hsource hwanted
  have hsetting := lineSetting_of_getElem? hset
  have hpin := linePin_eq hsource
  have hw := lineWanted_eq hsetting hpin hwanted
  refine ⟨⟨lineActive_of_getElem? hl, hsetting, hpin⟩, fun hsame => judgeLine_same hl (hw.trans hsame),
    fun hdiff hrun => ?_, fun hdiff hnone hdebounce => ?_, fun hdiff hnone hdebounce => ?_⟩
  · obtain ⟨n, rfl⟩ := Option.ne_none_iff_exists'.mp hrun
    exact judgeLine_pending hl (hw ▸ hdiff)
  · subst hnone
    rw [judgeLine_free hl (hw ▸ hdiff), hsetting, if_neg hdebounce]
    rfl
  · subst hnone
    rw [judgeLine_free hl (hw ▸ hdiff), hsetting, if_pos hdebounce]
    rfl

/-! ## Pins and edges (R148 to R151) -/

theorem getLsbD_setPin (pins : BitVec 16) {pin n : Nat} (high : Bool) (hn : n < 16) :
    (setPin pins pin high).getLsbD n = if n = pin then high else pins.getLsbD n := by
  have hbit : (BitVec.twoPow 16 pin).getLsbD n = decide (n = pin) := by
    rw [BitVec.getLsbD_twoPow]
    by_cases h : n = pin
    · simp [h.symm, hn]
    · simp [h, Ne.symm h]
  cases high
  · rw [setPin, if_neg (by simp), BitVec.getLsbD_and, BitVec.getLsbD_not, hbit]
    by_cases h : n = pin <;> simp [h, hn]
  · rw [setPin, if_pos rfl, BitVec.getLsbD_or, hbit]
    by_cases h : n = pin <;> simp [h]

theorem edgeEffect_presence {p : Nat} (h1 : 1 ≤ p) (rising : Bool) (s : State) :
    edgeEffect (p + 2) rising s = presenceEdge p rising s := by
  rw [edgeEffect, if_neg (by omega), if_neg (by omega), if_neg (by omega), Nat.add_sub_cancel]

theorem beginSweep_none {s : State} (h : s.sweep = none) : beginSweep s = { s with sweep := some (0, 0) } := by
  rw [beginSweep, h]

theorem beginSweep_running {s : State} (h : s.sweep ≠ none) : beginSweep s = { s with sweepPending := true } := by
  obtain ⟨pos, hpos⟩ := Option.ne_none_iff_exists'.mp h
  rw [beginSweep, hpos]

theorem presenceEdge_held {p h : Nat} {o : Order} {s : State}
    (hfind : s.orders.find? (fun e => decide (e.2.point = some p)) = some (h, o)) :
    presenceEdge p false s = if orderHasLifted s h then post .pointVacated s else s := by
  rw [presenceEdge, pointHolder, hfind] <;> rfl

theorem presenceEdge_free {p : Nat} {s : State} (hfree : ∀ e ∈ s.orders, e.2.point ≠ some p) :
    presenceEdge p false s = s := by
  have hnone : pointHolder s p = none := by
    rw [pointHolder, List.find?_eq_none]
    intro e he
    simpa using hfree e he
  rw [presenceEdge, hnone]
  rfl

/-! ## The wetting sweep (R152) -/

/-- The stacks a sweep has still to wet: those at or after its position whose bay is not covered. -/
theorem nextSweepStack_pred (s : State) (bay stack b k : Nat) :
    (!(s.bay b).covered && decide (bay < b ∨ (bay = b ∧ stack ≤ k))) = true ↔
      (s.bay b).covered = false ∧ (bay < b ∨ (bay = b ∧ stack ≤ k)) := by
  simp

theorem nextSweepStack_eq_some {s : State} {bay stack b k : Nat} (hthere : b ≤ 63 ∧ k < (s.bay b).stackCount)
    (hopen : (s.bay b).covered = false) (hafter : bay < b ∨ (bay = b ∧ stack ≤ k))
    (hfirst : ∀ c m, c ≤ 63 → m < (s.bay c).stackCount → (s.bay c).covered = false →
      (bay < c ∨ (bay = c ∧ stack ≤ m)) → b < c ∨ (b = c ∧ k ≤ m)) :
    nextSweepStack s (bay, stack) = some (b, k) := by
  refine (find?_pairwise _ (by omega) (b, k) _ (allStacks_pairwise s)).mpr
    ⟨(mem_allStacks s b k).mpr hthere, (nextSweepStack_pred s bay stack b k).mpr ⟨hopen, hafter⟩, ?_⟩
  rintro ⟨c, m⟩ hmem hp
  obtain ⟨hc, hm⟩ := (mem_allStacks s c m).mp hmem
  obtain ⟨hcopen, hcafter⟩ := (nextSweepStack_pred s bay stack c m).mp hp
  have hle := hfirst c m hc hm hcopen hcafter
  rw [Prod.mk.injEq]
  dsimp only
  omega

theorem nextSweepStack_eq_none {s : State} {bay stack : Nat}
    (h : ∀ c m, c ≤ 63 → m < (s.bay c).stackCount → (s.bay c).covered = false →
      ¬ (bay < c ∨ (bay = c ∧ stack ≤ m))) :
    nextSweepStack s (bay, stack) = none := by
  refine List.find?_eq_none.mpr ?_
  rintro ⟨c, m⟩ hmem hp
  obtain ⟨hc, hm⟩ := (mem_allStacks s c m).mp hmem
  obtain ⟨hcopen, hcafter⟩ := (nextSweepStack_pred s bay stack c m).mp hp
  exact h c m hc hm hcopen hcafter

section
variable {s : State} {pos : Nat × Nat}

theorem exec_sweep_next {b k : Nat} (hrun : s.running = true) (hsweep : s.sweep = some pos)
    (hnext : nextSweepStack s pos = some (b, k)) :
    exec .wettingSweepStack s = .next { wetStack s b k with sweep := some (b, k + 1) } := by
  show execWettingSweepStack s = _
  rw [execWettingSweepStack, if_pos hrun, hsweep]
  simp only [hnext]

theorem exec_sweep_end (hrun : s.running = true) (hsweep : s.sweep = some pos) (hnext : nextSweepStack s pos = none) :
    exec .wettingSweepStack s = .next (endSweep s) := by
  show execWettingSweepStack s = _
  rw [execWettingSweepStack, if_pos hrun, hsweep]
  simp only [hnext]

end

/-! ## A wetting (R152, R154) -/

/-- The pack records of a wetted stack. -/
def wetted (b k : Nat) (packs : Table Pack) : Table Pack :=
  packs.map fun e => (e.1, if e.2.inStack b k then { e.2 with wetted := true } else e.2)

theorem wetStack_eq {s u : State} {b k : Nat} (hu : u = { s with packs := wetted b k s.packs }) :
    wetStack s b k = endClaim none s.packs ((stackList s b k).keys.foldl judgeWetted u) := by
  subst hu
  rfl

theorem get_wetted (b k n : Nat) (packs : Table Pack) :
    Table.get (wetted b k packs) n =
      (Table.get packs n).map fun p => if p.inStack b k then { p with wetted := true } else p :=
  Table.get_change packs (fun _ p => if p.inStack b k then { p with wetted := true } else p) n

theorem judgeWetted_other {v : State} {tag : Nat} (h : ∀ q, Table.get v.packs tag = some q → q.state ≠ .reserved) :
    judgeWetted v tag = v := by
  unfold judgeWetted
  split
  · rfl
  · next q hq =>
    split
    · next hstate _ => exact absurd hstate (h q hq)
    · rfl

theorem foldl_judgeWetted_other {tags : List Nat} {v : State}
    (h : ∀ n ∈ tags, ∀ q, Table.get v.packs n = some q → q.state ≠ .reserved) : tags.foldl judgeWetted v = v := by
  induction tags with
  | nil => rfl
  | cons n tags ih =>
    rw [List.foldl_cons, judgeWetted_other (h n (by simp))]
    exact ih fun m hm => h m (by simp [hm])

theorem packs_releaseAtRest {tag : Nat} {p : Pack} {v : State} (after : Pack → Pack)
    (hp : Table.get v.packs tag = some p) :
    (releaseAtRest tag after v).packs = Table.update (releaseShifts tag v).packs tag after := by
  have hlower (u : State) : (lowerCountsOf p u).packs = u.packs := by
    unfold lowerCountsOf
    split <;> rfl
  have hwithdraw (t : Machine.Task) (u : State) : (withdraw t u).packs = u.packs := by rw [withdraw_eq]
  simp only [releaseAtRest, hp, packs_changePack, hlower]
  split
  · rfl
  · rw [hwithdraw]

/-- A release leaves every other pack as it was, or frees it. -/
theorem state_releaseAtRest_other {tag n : Nat} {after : Pack → Pack} {v : State} {q : Pack} (hn : n ≠ tag)
    (hq : Table.get (releaseAtRest tag after v).packs n = some q) (hstate : q.state = .reserved) :
    ∃ p, Table.get v.packs n = some p ∧ p.state = .reserved := by
  cases hp : Table.get v.packs tag with
  | none =>
    rw [releaseAtRest, hp] at hq
    exact ⟨q, hq, hstate⟩
  | some p =>
    rw [packs_releaseAtRest after hp, Table.get_update_other _ _ hn, releaseShifts, packs_foldl_withdrawShift] at hq
    have hget := Table.get_change v.packs (fun m (x : Pack) =>
      if m ∈ (shiftsToWithdraw v tag).map Task.subject then x.toStored else x) n
    rw [Table.change, hq] at hget
    cases hx : Table.get v.packs n with
    | none => simp [hx] at hget
    | some x =>
      rw [hx, Option.map_some, Option.some.injEq] at hget
      subst hget
      refine ⟨x, rfl, ?_⟩
      split_ifs at hstate
      · cases hstate
      · exact hstate

theorem mem_keys_stackList {s : State} (hr : Table.rising s.packs) {b k n : Nat} :
    n ∈ (stackList s b k).keys ↔ ∃ p, Table.get s.packs n = some p ∧ p.inStack b k = true := by
  rw [mem_keys]
  constructor
  · rintro ⟨p, he⟩
    obtain ⟨hin, hplace⟩ := mem_stackList.mp he
    exact ⟨p, Table.get_of_mem hr hin, (inStack_iff b k p).mpr hplace⟩
  · rintro ⟨p, hp, hplace⟩
    exact ⟨p, mem_stackList.mpr ⟨Table.mem_of_get hp, (inStack_iff b k p).mp hplace⟩⟩

theorem nodup_keys_stackList {s : State} (hr : Table.rising s.packs) (b k : Nat) : (stackList s b k).keys.Nodup := by
  have hperm : (stackList s b k).keys.Perm (Table.keys (s.packs.filter fun e => e.2.inStack b k)) :=
    (sortBy_perm _ _).map Prod.fst
  refine hperm.nodup_iff.mpr ?_
  have hrise : Table.rising (s.packs.filter fun e => e.2.inStack b k) := List.Pairwise.filter _ hr
  exact List.pairwise_map.mpr (hrise.imp fun h => Nat.ne_of_lt h)

/-- A wetting where one pack of the stack alone is RESERVED judges that pack's reservation. -/
theorem foldl_judgeWetted_only {tags : List Nat} {tag : Nat} {v : State} (hnodup : tags.Nodup) (htag : tag ∈ tags)
    (hother : ∀ n ∈ tags, n ≠ tag → ∀ q, Table.get v.packs n = some q → q.state ≠ .reserved)
    (hafter : ∀ n, n ≠ tag → ∀ q, Table.get (judgeWetted v tag).packs n = some q → q.state = .reserved →
      ∃ p, Table.get v.packs n = some p ∧ p.state = .reserved) :
    tags.foldl judgeWetted v = judgeWetted v tag := by
  obtain ⟨front, back, rfl⟩ := List.append_of_mem htag
  obtain ⟨-, hback, hdisjoint⟩ := List.nodup_append'.mp hnodup
  have hfront : ∀ n ∈ front, n ≠ tag := fun n hn he => hdisjoint hn (he ▸ List.mem_cons_self)
  have hrest : ∀ n ∈ back, n ≠ tag := fun n hn he => (List.nodup_cons.mp hback).1 (he ▸ hn)
  rw [List.foldl_append, List.foldl_cons,
    foldl_judgeWetted_other fun n hn => hother n (by simp [hn]) (hfront n hn)]
  refine foldl_judgeWetted_other fun n hn q hq hstate => ?_
  obtain ⟨p, hp, hpstate⟩ := hafter n (hrest n hn) q hq hstate
  exact hother n (by simp [hn]) (hrest n hn) p hp hpstate

/-- The judgement of a RESERVED pack leaves every other pack as it was, or frees it. -/
theorem state_judgeWetted_other {tag n : Nat} {v : State} {q : Pack} (hn : n ≠ tag)
    (hq : Table.get (judgeWetted v tag).packs n = some q) (hstate : q.state = .reserved) :
    ∃ p, Table.get v.packs n = some p ∧ p.state = .reserved := by
  rcases judgeWetted_cases v tag with h | ⟨-, h⟩
  · rw [h] at hq
    exact ⟨q, hq, hstate⟩
  · rw [h] at hq
    exact state_releaseAtRest_other hn hq hstate

/-- A RESERVED pack of a wetted stack is one that stood RESERVED in it. -/
theorem reserved_of_wetted {packs : Table Pack} {b k n : Nat} {q : Pack} (hq : Table.get (wetted b k packs) n = some q)
    (hstate : q.state = .reserved) : ∃ p, Table.get packs n = some p ∧ p.state = .reserved := by
  rw [get_wetted] at hq
  obtain ⟨p, hp, rfl⟩ := Option.map_eq_some_iff.mp hq
  refine ⟨p, hp, ?_⟩
  split_ifs at hstate <;> exact hstate

section
variable {s u : State} {b k : Nat} (hr : Table.rising s.packs) (hu : u = { s with packs := wetted b k s.packs })
include hr hu

theorem wetStack_unreserved (hnone : ∀ e ∈ s.packs, e.2.inStack b k = true → e.2.state ≠ .reserved) :
    wetStack s b k = endClaim none s.packs u := by
  rw [wetStack_eq hu, foldl_judgeWetted_other]
  intro n hn q hq hstate
  rw [hu] at hq
  obtain ⟨p, hp, hpstate⟩ := reserved_of_wetted hq hstate
  obtain ⟨p', hp', hin⟩ := (mem_keys_stackList hr).mp hn
  obtain rfl : p = p' := Option.some.inj (hp.symm.trans hp')
  exact hnone (n, p) (Table.mem_of_get hp) hin hpstate

theorem wetStack_reserved {tag : Nat} {p : Pack} (hp : Table.get s.packs tag = some p) (hin : p.inStack b k = true)
    (honly : ∀ e ∈ s.packs, e.2.inStack b k = true → e.2.state = .reserved → e.1 = tag) :
    wetStack s b k = endClaim none s.packs (judgeWetted u tag) := by
  rw [wetStack_eq hu, foldl_judgeWetted_only (nodup_keys_stackList hr b k) ((mem_keys_stackList hr).mpr ⟨p, hp, hin⟩)]
  · intro n hn hne q hq hstate
    rw [hu] at hq
    obtain ⟨x, hx, hxstate⟩ := reserved_of_wetted hq hstate
    obtain ⟨x', hx', hxin⟩ := (mem_keys_stackList hr).mp hn
    obtain rfl : x = x' := Option.some.inj (hx.symm.trans hx')
    exact hne (honly (n, x) (Table.mem_of_get hx) hxin hxstate)
  · exact fun n hne q hq => state_judgeWetted_other hne hq

end

/-- Settles O54: the pins and the edges by the line they belong to, the sweep by its position, and the wetting. -/
theorem linesTakeTheirEdges : Obligations.LinesTakeTheirEdges := by
  intro s hrun
  refine ⟨?_, ?_, ?_, ?_, ?_, ?_, ?_, ?_, ?_, ?_, ?_, ?_, ?_, ?_⟩
  · intro pin high hpin
    refine ⟨setPin s.pins pin high, fun n hn => getLsbD_setPin s.pins high hn, ?_⟩
    exact congrArg Host.Outcome.next (if_pos hrun)
  · intro k a hl
    have hactive := lineActive_of_getElem? hl
    refine congrArg Host.Outcome.next ((if_pos ⟨hrun, by rw [getD_of_getElem? hl]⟩).trans ?_)
    rw [hactive]
    rfl
  · intro hmode hauto
    exact congrArg (post .gateArrival) (if_pos ⟨hmode, hauto⟩)
  · intro h
    exact congrArg (post .gateArrival) (if_neg (by rcases h with h | h <;> simp [h]))
  · rfl
  · intro hsweep
    exact beginSweep_none (s := post .rainChange { s with raining := true }) hsweep
  · intro hsweep
    exact beginSweep_running (s := post .rainChange { s with raining := true }) hsweep
  · rfl
  · intro rising
    rfl
  · intro p h1
    exact edgeEffect_presence h1 true s
  · intro p h o h1 hfind
    exact (edgeEffect_presence h1 false s).trans (presenceEdge_held hfind)
  · intro p h1 hfree
    exact (edgeEffect_presence h1 false s).trans (presenceEdge_free hfree)
  · intro bay stack left hsweep hleft
    have hnone : (∀ b k, ¬ left b k) → nextSweepStack s (bay, stack) = none := fun h =>
      nextSweepStack_eq_none fun c m hc hm hopen hafter => h c m ((hleft c m).mpr ⟨hc, hm, hopen, hafter⟩)
    refine ⟨fun b k hbk hfirst => ?_, fun h hpending => ?_, fun h hpending => ?_⟩
    · obtain ⟨hb, hk, hopen, hafter⟩ := (hleft b k).mp hbk
      exact exec_sweep_next hrun hsweep (nextSweepStack_eq_some ⟨hb, hk⟩ hopen hafter
        fun c m hc hm hcopen hcafter => hfirst c m ((hleft c m).mpr ⟨hc, hm, hcopen, hcafter⟩))
    · rw [exec_sweep_end hrun hsweep (hnone h), endSweep, if_pos hpending]
    · rw [exec_sweep_end hrun hsweep (hnone h), endSweep, if_neg (by simp [hpending])]
  · intro b k u hr hu
    refine ⟨wetStack_unreserved hr hu, fun tag p r hp hin hstate hres honly => ?_⟩
    have hwet : Table.get u.packs tag = some { p with wetted := true } := by
      rw [hu]
      show Table.get (wetted b k s.packs) tag = _
      rw [get_wetted, hp, Option.map_some, if_pos hin]
    have hsame : wettingReleases u tag r ↔ wettingReleases s tag r := by
      rw [hu]
      exact Iff.rfl
    have hstack := wetStack_reserved hr hu hp hin honly
    refine ⟨fun hrel => ?_, fun hkeep => ?_⟩
    · rw [hstack, judgeWetted_releases (q := { p with wetted := true }) hwet hstate hres (hsame.mpr hrel)]
    · rw [hstack, judgeWetted_keeps (q := { p with wetted := true }) hwet hstate hres (mt hsame.mp hkeep)]

end Sys2Proof.Proofs
end

section
/-!
PROOFS. The cost of a pack for a line (R11, R21, R93).
-/

namespace Sys2Proof.Proofs

open Sys2Proof.Machine Sys2Proof.Safety

/-! ## The place of a product in a substitute list (R21) -/

theorem placeOf_of_getElem? {x : Nat} {l : List Nat} {i : Nat} (hi : l[i]? = some x)
    (hfirst : ∀ m, m < i → l[m]? ≠ some x) : placeOf x l = some i := by
  induction l generalizing i with
  | nil => simp at hi
  | cons y ys ih =>
    cases i with
    | zero =>
      obtain rfl : y = x := by simpa using hi
      simp [placeOf]
    | succ i =>
      have hy : y ≠ x := by simpa using hfirst 0 (by omega)
      have hrest : placeOf x ys = some i := ih (by simpa using hi) fun m hm => by simpa using hfirst (m + 1) (by omega)
      rw [placeOf, if_neg hy, hrest]
      rfl

theorem placeOf_isSome_iff (x : Nat) (l : List Nat) : (placeOf x l).isSome = true ↔ x ∈ l := by
  induction l with
  | nil => simp [placeOf]
  | cons y ys ih =>
    rw [placeOf, List.mem_cons]
    by_cases hy : y = x
    · simp [hy]
    · rw [if_neg hy, Option.isSome_map, ih]
      exact (or_iff_right (Ne.symm hy)).symm

theorem servingPosition_eq {s : State} {item : LineItem} {q n : Nat}
    (h : (q = item.product ∧ n = 0) ∨
      (q ≠ item.product ∧ item.substitution = true ∧ 1 ≤ n ∧
        (s.product item.product).substitutes[n - 1]? = some q ∧
        ∀ m, m < n - 1 → (s.product item.product).substitutes[m]? ≠ some q)) :
    servingPosition s item q = some n := by
  rcases h with ⟨hq, rfl⟩ | ⟨hq, hsub, hn, hat, hfirst⟩
  · exact if_pos hq
  · rw [servingPosition, if_neg hq, if_pos hsub, placeOf_of_getElem? hat hfirst, Option.map_some, Nat.sub_add_cancel hn]

/-! ## The cost (R93) -/

theorem packDistance_eq {s : State} {o : Order} {p : Pack} {l : Location} {point : Point} (hl : p.location = some l)
    (hpoint : point = s.pointAt (o.point.getD s.yardMap.defaultPoint)) :
    packDistance s o p =
      (((s.bay l.bay).row - point.row) + (point.row - (s.bay l.bay).row)) +
        (((s.bay l.bay).col - point.col) + (point.col - (s.bay l.bay).col)) := by
  rw [packDistance, hl, hpoint]
  rfl

theorem packCost_eq {s : State} {o : Order} {item : LineItem} {tag n : Nat} {p : Pack}
    (h : servingPosition s item p.product = some n) :
    packCost s o item tag p =
      4096 + 16 * s.settings.weights.dig * dig s tag + s.settings.weights.distance * packDistance s o p +
          16 * s.settings.weights.substitution * n -
        s.settings.weights.age * min 255 (s.settings.yardDay - p.received) := by
  rw [packCost, h, Option.getD_some]

/-- The bounds of R93, with the largest value of each term. -/
theorem cost_bounds {wd wx ws wa dig dist place age : Nat} (hwd : wd ≤ 15) (hwx : wx ≤ 15) (hwa : wa ≤ 15)
    (hws : ws ≤ 15) (hdig : dig ≤ 5) (hdist : dist ≤ 30) (hplace : place ≤ 3) :
    271 ≤ 4096 + 16 * wd * dig + wx * dist + 16 * ws * place - wa * min 255 age ∧
      4096 + 16 * wd * dig + wx * dist + 16 * ws * place - wa * min 255 age ≤ 6466 := by
  have h1 : wd * dig ≤ 15 * 5 := Nat.mul_le_mul hwd hdig
  have h2 : wx * dist ≤ 15 * 30 := Nat.mul_le_mul hwx hdist
  have h3 : ws * place ≤ 15 * 3 := Nat.mul_le_mul hws hplace
  have h4 : wa * min 255 age ≤ 15 * 255 := Nat.mul_le_mul hwa (Nat.min_le_left 255 age)
  rw [Nat.mul_assoc, Nat.mul_assoc]
  omega

/-- Settles O56: the terms of the cost, and their bounds. -/
theorem costsStayInTheirRange : Obligations.CostsStayInTheirRange := by
  refine ⟨fun s o item tag n p l point hl hpoint hplace => ?_,
    fun s o item tag p hwd hwx hwa hws hdig hdist hplace => ?_⟩
  · rw [packCost_eq (servingPosition_eq hplace), packDistance_eq hl hpoint]
  · refine cost_bounds hwd hwx hwa hws hdig hdist ?_
    cases h : servingPosition s item p.product with
    | none => exact Nat.zero_le 3
    | some n => exact hplace n h

end Sys2Proof.Proofs
end

section
/-!
PROOFS. The scan engine: the line it takes (R84), the visits of its walk (R89 to R91), the leading candidate (R95), and
the tests of the two passes (R92, R97).
-/

namespace Sys2Proof.Proofs

open Sys2Proof.Machine Sys2Proof.Safety

/-! ## The line the engine takes (R84) -/

theorem selectable_iff (o : Order) (l : OrderLine) :
    selectable o l = true ↔
      l.allocated < l.item.quantity ∧ l.starved = false ∧ o.proposal = none ∧ o.committed < o.payload := by
  simp only [selectable, OrderLine.wants, Order.budget, Bool.and_eq_true, decide_eq_true_eq, Bool.not_eq_true',
    Option.isNone_iff_eq_none, and_assoc, Nat.sub_pos_iff_lt]

theorem selectIn_eq_some {s : State} {h : Nat} {o : Order} {lines more : List OrderLine} {l : OrderLine}
    (ho : Table.get s.orders h = some o) (hlines : o.lines = lines ++ l :: more)
    (hbefore : ∀ m ∈ lines, ¬ selectable o m = true) (hl : selectable o l = true) :
    selectIn s h = some ⟨h, lines.length + 1⟩ := by
  have hfind : o.lines.findIdx? (selectable o) = some lines.length := by
    have hnone : lines.findIdx? (selectable o) = none := List.findIdx?_eq_none_iff.mpr fun m hm =>
      Bool.eq_false_iff.mpr (hbefore m hm)
    rw [hlines, List.findIdx?_append, hnone]
    simp [List.findIdx?_cons, hl]
  rw [selectIn, State.order, ho]
  simp only [hfind, Option.map_some]

theorem selectIn_eq_none {s : State} {h : Nat}
    (hnone : ∀ o, Table.get s.orders h = some o → ∀ m ∈ o.lines, ¬ selectable o m = true) : selectIn s h = none := by
  rw [selectIn, State.order]
  cases ho : Table.get s.orders h with
  | none => rfl
  | some o =>
    have hfind : o.lines.findIdx? (selectable o) = none := List.findIdx?_eq_none_iff.mpr fun m hm =>
      Bool.eq_false_iff.mpr (hnone o ho m hm)
    simp only [hfind, Option.map_none]

theorem selectLine_eq_some {s : State} {front back : List Nat} {h : Nat} {r : LineRef}
    (hqueue : s.queue = front ++ h :: back) (hfront : ∀ x ∈ front, selectIn s x = none) (hh : selectIn s h = some r) :
    selectLine s = some r := by
  have hnone : front.findSome? (selectIn s) = none := List.findSome?_eq_none_iff.mpr hfront
  rw [selectLine, hqueue, List.findSome?_append, hnone, Option.none_or, List.findSome?_cons, hh]

theorem exec_scanStart_none {s : State} (h : s.running = true → s.engine.state = .idle → s.low = false →
    s.mode ≠ .closed → selectLine s = none) : exec .scanStart s = .next s := by
  show execScanStart s = _
  rw [execScanStart]
  split
  · next hgo =>
    obtain ⟨hrun, hidle, hlow, hmode⟩ := hgo
    rw [h hrun hidle hlow hmode]
  · rfl

theorem exec_scanStart_some {s : State} {r : LineRef} (hrun : s.running = true) (hidle : s.engine.state = .idle)
    (hsupply : s.supply = .sound) (hmode : s.mode ≠ .closed) (hr : selectLine s = some r) :
    exec .scanStart s = .next { s with engine := ⟨.firstPass, some r, none, none, false, s.engine.restarts⟩ } := by
  show execScanStart s = _
  rw [execScanStart, if_pos ⟨hrun, hidle, low_of_sound hsupply, hmode⟩, hr]
  rfl

/-! ## The walk (R89 to R91) -/

theorem position_le {s : State} (hsize : sizeLaw s) {item : LineItem} {position code : Nat}
    (h : inSeries s item position code) : position ≤ 3 := by
  rcases h with ⟨rfl, -⟩ | ⟨-, hpos, hat⟩
  · exact Nat.zero_le 3
  · obtain ⟨-, -, -, -, -, -, -, hsub⟩ := hsize
    have hlen : (s.product item.product).substitutes.length ≤ 3 := by
      rw [State.product, List.getD]
      cases hp : s.products[item.product]? with
      | none => exact Nat.zero_le 3
      | some p => exact hsub p (List.mem_of_getElem? hp)
    have hlt := (List.getElem?_eq_some_iff.mp hat).1
    omega

theorem inSeries_unique {s : State} {item : LineItem} {position code code' : Nat} (h : inSeries s item position code)
    (h' : inSeries s item position code') : code = code' :=
  Option.some.inj (((codeAt_iff s item position code).mpr h).symm.trans ((codeAt_iff s item position code').mpr h'))

/-- The first pack a pass visits in a chain is the head of those it visits there. -/
theorem visitable_eq_cons_iff {s : State} (hr : Table.rising s.packs) (code : Nat) (e : Nat × Pack) :
    (∃ rest, visitable s code = e :: rest) ↔ firstSought s code (fun _ => True) e := by
  rw [← find_visitable hr (p := fun _ => true) (fun _ => iff_of_true rfl trivial)]
  cases visitable s code with
  | nil => simp
  | cons d rest => simp

theorem visitable_eq_nil_iff {s : State} (code : Nat) : visitable s code = [] ↔ ∀ e, ¬ sought s code e := by
  rw [List.eq_nil_iff_forall_not_mem]
  exact forall_congr' fun e => not_congr mem_visitable

section
variable {s : State} {item : LineItem} (hr : Table.rising s.packs)
include hr

/-- Where the walk begins at a chain with a pack to visit, it visits the first of them. -/
theorem visitsFrom_here {position code : Nat} (hcode : inSeries s item position code) {e : Nat × Pack}
    {rest : Table Pack} (he : visitable s code = e :: rest) (v : Visit) :
    visitsFrom s item position v ↔ v = ⟨code, position, e.1, e.2⟩ := by
  have hfirst := (visitable_eq_cons_iff hr code e).mp ⟨rest, he⟩
  constructor
  · rintro ⟨hstart, hseries, hsought, hpassed⟩
    have hpos : v.position = position := by
      by_contra hne
      obtain ⟨code', hcode', hnone⟩ := hpassed position (Nat.le_refl _) (by omega)
      obtain rfl := inSeries_unique hcode hcode'
      exact hnone e hfirst.1
    rw [hpos] at hseries
    have hc := inSeries_unique hseries hcode
    rw [hc] at hsought
    obtain ⟨rest', hv⟩ := (visitable_eq_cons_iff hr code (v.tag, v.pack)).mpr hsought
    rw [he] at hv
    obtain ⟨rfl, -⟩ := List.cons.inj hv
    rw [← hc, ← hpos]
  · rintro rfl
    exact ⟨Nat.le_refl _, hcode, hfirst, fun p h1 h2 => absurd h1 (Nat.not_le.mpr h2)⟩

omit hr in
/-- A chain without a pack to visit is passed. -/
theorem visitsFrom_pass {position code : Nat} (hcode : inSeries s item position code)
    (hnone : visitable s code = []) (v : Visit) :
    visitsFrom s item position v ↔ visitsFrom s item (position + 1) v := by
  have hno := (visitable_eq_nil_iff code).mp hnone
  constructor
  · rintro ⟨hstart, hseries, hsought, hpassed⟩
    have hne : v.position ≠ position := by
      intro hpos
      rw [hpos] at hseries
      obtain rfl := inSeries_unique hseries hcode
      exact hno _ hsought.1
    exact ⟨by omega, hseries, hsought, fun p h1 h2 => hpassed p (by omega) h2⟩
  · rintro ⟨hstart, hseries, hsought, hpassed⟩
    refine ⟨by omega, hseries, hsought, fun p h1 h2 => ?_⟩
    by_cases hp : p = position
    · exact ⟨code, hp ▸ hcode, hno⟩
    · exact hpassed p (by omega) h2

omit hr in
/-- Past the end of the series nothing is visited. -/
theorem not_visitsFrom {position : Nat} (hend : ∀ code, ¬ inSeries s item position code) (v : Visit) :
    ¬ visitsFrom s item position v := by
  rintro ⟨hstart, hseries, -, hpassed⟩
  by_cases hpos : v.position = position
  · exact hend _ (hpos ▸ hseries)
  · obtain ⟨code, hcode, -⟩ := hpassed position (Nat.le_refl _) (by omega)
    exact hend code hcode

/-- The machine's first visit from a position on, with fuel to the end of the series, is that of R89. -/
theorem firstVisit_iff (hsize : sizeLaw s) (v : Visit) :
    ∀ fuel position, 4 ≤ position + fuel → (firstVisit s item fuel position = some v ↔ visitsFrom s item position v) := by
  intro fuel
  induction fuel with
  | zero =>
    intro position hfuel
    refine iff_of_false nofun (not_visitsFrom (fun code hcode => ?_) v)
    have := position_le hsize hcode
    omega
  | succ fuel ih =>
    intro position hfuel
    rw [firstVisit]
    cases hcode : codeAt s item position with
    | none =>
      refine iff_of_false nofun (not_visitsFrom (fun code hc => ?_) v)
      rw [(codeAt_iff s item position code).mpr hc] at hcode
      cases hcode
    | some code =>
      have hseries := (codeAt_iff s item position code).mp hcode
      cases hvis : visitable s code with
      | nil =>
        simp only [hvis]
        rw [visitsFrom_pass hseries hvis]
        exact ih (position + 1) (by omega)
      | cons e rest =>
        simp only [hvis]
        rw [visitsFrom_here hr hseries hvis, Option.some.injEq, eq_comm]

/-- The machine's next visit is that of R89 and R91. -/
theorem nextVisit_iff (hsize : sizeLaw s) (v : Visit) : nextVisit s item = some v ↔ visitsNext s item v := by
  unfold nextVisit visitsNext
  cases hwalk : s.engine.walk with
  | none =>
    simp only [true_implies]
    rw [firstVisit_iff hr hsize v 4 0 (by omega)]
    exact (and_iff_left nofun).symm
  | some w =>
    have hpass : ∀ e : Nat × Pack, afterPlace w.day w.tag e = true ↔ follows w.day w.tag e := fun e => by
      simp [afterPlace, follows]
    have hfind := find_visitable hr (code := w.code) hpass
    simp only [Option.some.injEq, forall_eq']
    cases hat : (visitable s w.code).find? (afterPlace w.day w.tag) with
    | some e =>
      have hfirst := (hfind e).mp hat
      constructor
      · intro hv
        obtain rfl := Option.some.inj hv
        exact ⟨nofun, Or.inl ⟨rfl, rfl, hfirst⟩⟩
      · rintro ⟨-, ⟨hc, hp, hsought⟩ | ⟨hnone, -⟩⟩
        · have heq : e = (v.tag, v.pack) := Option.some.inj (hat.symm.trans ((hfind _).mpr hsought))
          rw [heq, ← hc, ← hp]
        · exact absurd hfirst.2.1 (hnone e hfirst.1)
    | none =>
      have hnone : ∀ e, sought s w.code e → ¬ follows w.day w.tag e := fun e he hf =>
        List.find?_eq_none.mp hat e (mem_visitable.mpr he) ((hpass e).mpr hf)
      show firstVisit s item 4 (w.position + 1) = some v ↔ _
      rw [firstVisit_iff hr hsize v 4 _ (by omega)]
      constructor
      · exact fun hv => ⟨nofun, Or.inr ⟨hnone, hv⟩⟩
      · rintro ⟨-, ⟨-, -, hsought⟩ | ⟨-, hv⟩⟩
        · exact absurd hsought.2.1 (hnone _ hsought.1)
        · exact hv

end

/-! ## A visit (R92, R95, R97) -/

theorem scanLine_eq {s : State} {r : LineRef} {o : Order} {l : OrderLine} (hline : s.engine.line = some r)
    (ho : Table.get s.orders r.handle = some o) (hl : nth o.lines r.line = some l) : scanLine s = some (r, o, l) := by
  rw [scanLine, hline]
  simp only [State.order, ho, hl, Option.map_some]

theorem walkStep_eq {s : State} {r : LineRef} {o : Order} {l : OrderLine} {v : Visit} (pass : Pass)
    (hscan : scanLine s = some (r, o, l)) (hv : nextVisit s l.item = some v) :
    walkStep pass s = setEngine (visited pass s o l.item v) s := by
  rw [walkStep, hscan]
  simp only [hv]

theorem leadAfter_some (c d : Candidate) :
    leadAfter (some d) c =
      some
        (if c.cost < d.cost ∨ (c.cost = d.cost ∧ (c.day < d.day ∨ (c.day = d.day ∧ c.tag < d.tag))) then c
        else d) := by
  have hbeats : c.beats d = true ↔
      c.cost < d.cost ∨ (c.cost = d.cost ∧ (c.day < d.day ∨ (c.day = d.day ∧ c.tag < d.tag))) := by
    rw [Candidate.beats, decide_eq_true_eq]
    tauto
  rw [leadAfter, apply_ite some]
  exact if_congr hbeats rfl rfl

/-! ## The tests of the passes (R92, R97) -/

theorem servingPosition_isSome_iff (s : State) (item : LineItem) (q : Nat) :
    (servingPosition s item q).isSome = true ↔
      q = item.product ∨ (item.substitution = true ∧ q ∈ (s.product item.product).substitutes) := by
  unfold servingPosition
  by_cases hq : q = item.product
  · simp [hq]
  · by_cases hsub : item.substitution = true
    · simp [hq, hsub, placeOf_isSome_iff]
    · simp [hq, hsub]

theorem dryEnough_iff (s : State) (item : LineItem) (p : Pack) :
    dryEnough s item p = true ↔
      if (s.product item.product).fields.needsKiln = true then p.drying = .kiln ∧ p.wetted = false
      else ∀ ready, p.drying = .air ready → ready ≤ s.settings.yardDay := by
  unfold dryEnough
  split_ifs <;> cases p.drying <;> simp

theorem inWindow_iff (w : Option YardWindow) (b : Bay) :
    inWindow w b = true ↔
      ∀ v, w = some v → v.rowMin ≤ b.row ∧ b.row ≤ v.rowMax ∧ v.colMin ≤ b.col ∧ b.col ≤ v.colMax := by
  cases w with
  | none => simp [inWindow]
  | some v => simp [inWindow, inRange, and_assoc]

theorem fitsLine_iff {s : State} {o : Order} {item : LineItem} {tag : Nat} {p : Pack} {l : Location}
    (hl : p.location = some l) :
    fitsLine s o item tag p = true ↔
      (p.product = item.product ∨ (item.substitution = true ∧ p.product ∈ (s.product item.product).substitutes)) ∧
        (if (s.product item.product).fields.needsKiln = true then p.drying = .kiln ∧ p.wetted = false
        else ∀ ready, p.drying = .air ready → ready ≤ s.settings.yardDay) ∧
        (∀ w, item.window = some w →
          w.rowMin ≤ (s.bay l.bay).row ∧ (s.bay l.bay).row ≤ w.rowMax ∧ w.colMin ≤ (s.bay l.bay).col ∧
            (s.bay l.bay).col ≤ w.colMax) ∧
        item.low ≤ p.length ∧ p.length ≤ item.high ∧ p.mass ≤ o.payload - o.committed ∧ tag ∉ o.rejected := by
  rw [fitsLine, hl]
  simp only [Bool.and_eq_true, servingPosition_isSome_iff, dryEnough_iff, inWindow_iff, decide_eq_true_eq, inRange,
    Order.budget, and_assoc]

theorem fitsLine_of_unlocated {s : State} {o : Order} {item : LineItem} {tag : Nat} {p : Pack}
    (hl : p.location = none) : fitsLine s o item tag p = false := by
  rw [fitsLine, hl]

theorem firstPassOk_iff {s : State} {o : Order} {item : LineItem} {tag : Nat} {p : Pack} {l : Location}
    (hl : p.location = some l) :
    firstPassOk s o item tag p = true ↔
      p.state = .stored ∧ fitsLine s o item tag p = true ∧ (s.bay l.bay).enabled = true ∧ dig s tag ≤ item.digLimit ∧
        (∀ e ∈ packsAbove s tag, e.2.state = .stored) ∧ dig s tag < 48 - s.tasks.length := by
  have hbay : bayEnabled s p = (s.bay l.bay).enabled := by rw [bayEnabled, hl]
  simp only [firstPassOk, hbay, Bool.and_eq_true, decide_eq_true_eq, List.all_eq_true, and_assoc] <;> rfl

theorem reservedBelow_iff (s : State) (p : Pack) (level : Nat) :
    reservedBelow s p level = true ↔
      ∃ r holder, p.reservation = some r ∧ Table.get s.orders r.handle = some holder ∧ holder.level < level := by
  rw [reservedBelow]
  cases hres : p.reservation with
  | none => simp
  | some r =>
    rw [Option.bind_some, State.order]
    cases ho : Table.get s.orders r.handle with
    | none => simp [ho]
    | some holder => simp [ho]

theorem secondPassOk_iff (s : State) (o : Order) (item : LineItem) (tag : Nat) (p : Pack) :
    secondPassOk s o item tag p = true ↔
      p.state = .reserved ∧ fitsLine s o item tag p = true ∧
        (∃ r holder, p.reservation = some r ∧ Table.get s.orders r.handle = some holder ∧ holder.level < o.level) ∧
        ∃ f, s.tasks.find? (fun t => decide (t.subject = tag) && t.isFetch) = some f ∧
          (f.state = .opened ∨ f.state = .offered) := by
  rw [secondPassOk, Bool.and_eq_true, Bool.and_eq_true, Bool.and_eq_true, decide_eq_true_eq, reservedBelow_iff,
    fetchUntaken_iff, and_right_comm, and_assoc, and_assoc, and_left_comm (b := fitsLine s o item tag p = true)]

/-- Settles O57: the line taken, the visits, the leading candidate and the tests. -/
theorem theEngineChoosesAndVisits : Obligations.TheEngineChoosesAndVisits := by
  refine ⟨fun s hrun => ⟨?_, fun hnone => exec_scanStart_none fun _ hidle hlow hmode => ?_, ?_⟩,
    fun c d => ⟨rfl, leadAfter_some c d⟩, fun s item v hr hsize => nextVisit_iff hr hsize v,
    fun s o item tag p => ⟨rfl, rfl, fun hl => ?_⟩, fun s o item tag p l fits hl hfits => ?_⟩
  · intro front h back o lines l more hidle hsupply hmode hqueue ho hlines hfront hbefore hl1 hl2 hl3 hl4
    refine exec_scanStart_some hrun hidle hsupply hmode (selectLine_eq_some hqueue (fun x hx => ?_)
      (selectIn_eq_some ho hlines (fun m hm => ?_) ((selectable_iff o l).mpr ⟨hl1, hl2, hl3, hl4⟩)))
    · exact selectIn_eq_none fun u hu m hm => by
        rw [selectable_iff]
        exact hfront x hx u hu m hm
    · rw [selectable_iff]
      exact hbefore m hm
  · rcases hnone with h | h | h | h
    · exact absurd hidle h
    · exact absurd h hmode
    · rw [low_of_low h] at hlow
      cases hlow
    · refine List.findSome?_eq_none_iff.mpr fun x hx => selectIn_eq_none fun o ho m hm => ?_
      rw [selectable_iff]
      exact h x hx o ho m hm
  · intro r o l v hline ho hl hr hsize hv
    have hscan := scanLine_eq hline ho hl
    have hnext := (nextVisit_iff hr hsize v).mpr hv
    have hsought := nextVisit_sought s l.item v hnext
    refine ⟨fun hstate => ⟨?_, ?_⟩, fun hstate => ⟨?_, ?_⟩⟩
    · rw [hsought, soughtState, hstate]
      rfl
    · refine congrArg Host.Outcome.next ((if_pos ⟨hrun, hstate⟩).trans ((walkStep_eq .first hscan hnext).trans ?_))
      rfl
    · rw [hsought, soughtState, hstate]
      rfl
    · refine congrArg Host.Outcome.next ((if_pos ⟨hrun, hstate⟩).trans ((walkStep_eq .second hscan hnext).trans ?_))
      rfl
  · rw [firstPassOk, secondPassOk, fitsLine_of_unlocated hl]
    simp
  · have hsame : fits = fitsLine s o item tag p := Bool.eq_iff_iff.mpr (hfits.trans (fitsLine_iff hl).symm)
    rw [hsame]
    exact ⟨firstPassOk_iff hl, secondPassOk_iff s o item tag p⟩

end Sys2Proof.Proofs
end

section
/-!
PROOFS. The end of a pass and of a scan (R83, R86, R88, R100 to R107, R113).
-/

namespace Sys2Proof.Proofs

open Sys2Proof.Machine Sys2Proof.Safety

/-! ## The restart count of the engine through a commitment -/

theorem engine_foldl_createShift (winner : Nat) (tags : List Nat) (s : State) :
    (tags.foldl (createShift winner) s).engine = s.engine := by
  induction tags generalizing s with
  | nil => rfl
  | cons n tags ih => exact (ih (createShift winner s n)).trans rfl

theorem engine_reserve (r : LineRef) (tag : Nat) (p : Pack) (s : State) : (reserve r tag p s).engine = s.engine :=
  engine_foldl_createShift tag _ s

theorem restarts_robVictim (p : Pack) (s : State) : (robVictim p s).engine.restarts = s.engine.restarts := by
  unfold robVictim markClearSeen
  split
  · rfl
  · split <;> rfl

theorem restarts_judgeOffer (r : LineRef) (t : Machine.Task) (s : State) :
    (judgeOffer r t s).engine.restarts = s.engine.restarts := by
  unfold judgeOffer
  split
  · rw [dismiss_eq]
    rfl
  · rfl

theorem restarts_takeOver (r : LineRef) (tag : Nat) (p : Pack) (s : State) :
    (takeOver r tag p s).engine.restarts = s.engine.restarts := by
  unfold takeOver
  cases fetchOf s tag with
  | none => exact restarts_robVictim p _
  | some t => exact (restarts_judgeOffer r t _).trans (restarts_robVictim p _)

theorem restarts_commit (pass : Pass) (r : LineRef) (tag : Nat) (p : Pack) (s : State) :
    (commit pass r tag p s).engine.restarts = s.engine.restarts := by
  have hobserve (t : State) : (observe (some tag) s.packs t).engine = t.engine := by
    obtain ⟨w, m, a, h⟩ := observe_frame (some tag) s.packs t
    rw [h]
  refine (congrArg Engine.restarts (hobserve _)).trans ?_
  cases pass
  · exact congrArg Engine.restarts (engine_reserve r tag p s)
  · exact restarts_takeOver r tag p s

/-- The state with its engine IDLE after a commitment. -/
theorem idleEngine_commit (pass : Pass) (r : LineRef) (tag : Nat) (p : Pack) (s : State) :
    idleEngine (commit pass r tag p s) =
      { commit pass r tag p s with engine := ⟨.idle, none, none, none, false, s.engine.restarts⟩ } := by
  rw [idleEngine, setEngine, Engine.toIdle, restarts_commit]

/-! ## Validation (R101 to R106) -/

section
variable {s : State} {r : LineRef} {o : Order} {l : OrderLine} {c : Candidate} {p : Pack}

theorem scanValid_iff :
    scanValid s o l c p = true ↔
      l.allocated < l.item.quantity ∧ passOk c.pass s o l.item c.tag p = true ∧
        (o.supervised = false ∨ o.proposal = none) := by
  simp only [scanValid, OrderLine.wants, Bool.and_eq_true, Bool.or_eq_true, decide_eq_true_eq, Bool.not_eq_true',
    Option.isNone_iff_eq_none, and_assoc]

theorem finishScan_commits (hscan : scanLine s = some (r, o, l)) (hp : Table.get s.packs c.tag = some p)
    (hwants : l.allocated < l.item.quantity) (hok : passOk c.pass s o l.item c.tag p = true)
    (hfree : o.supervised = false) :
    finishScan c s =
      { commit c.pass r c.tag p s with engine := ⟨.idle, none, none, none, false, s.engine.restarts⟩ } := by
  rw [finishScan, hscan]
  simp only [hp]
  rw [if_pos (scanValid_iff.mpr ⟨hwants, hok, Or.inl hfree⟩), if_neg (by simp [hfree]), idleEngine_commit]

theorem finishScan_proposes (hscan : scanLine s = some (r, o, l)) (hp : Table.get s.packs c.tag = some p)
    (hwants : l.allocated < l.item.quantity) (hok : passOk c.pass s o l.item c.tag p = true)
    (hsup : o.supervised = true) (hslot : o.proposal = none) :
    finishScan c s = idleEngine (propose r c.tag (packCost s o l.item c.tag p) s) := by
  rw [finishScan, hscan]
  simp only [hp]
  rw [if_pos (scanValid_iff.mpr ⟨hwants, hok, Or.inr hslot⟩), if_pos hsup]

theorem finishScan_restarts (hscan : scanLine s = some (r, o, l))
    (hfail : l.item.quantity ≤ l.allocated ∨ (o.supervised = true ∧ o.proposal ≠ none) ∨
      ∀ p, Table.get s.packs c.tag = some p → passOk c.pass s o l.item c.tag p = false) :
    finishScan c s = { s with engine := ⟨.firstPass, some r, none, none, false, s.engine.restarts + 1#16⟩ } := by
  rw [finishScan, hscan]
  cases hp : Table.get s.packs c.tag with
  | none => rfl
  | some p =>
    refine if_neg ?_
    rw [scanValid_iff]
    rintro ⟨hwants, hok, hsup⟩
    rcases hfail with h | ⟨h, hslot⟩ | h
    · omega
    · rcases hsup with hsup | hsup
      · simp [h] at hsup
      · exact hslot hsup
    · simp [h p hp] at hok

end

/-! ## The end of a pass (R83) -/

section
variable {s : State} {r : LineRef} {o : Order} {l : OrderLine}

theorem passDone_iff (hscan : scanLine s = some (r, o, l)) (hr : Table.rising s.packs) (hsize : sizeLaw s) :
    passDone s = true ↔ ∀ v, ¬ visitsNext s l.item v := by
  rw [passDone, hscan]
  simp only [Option.isNone_iff_eq_none, Option.eq_none_iff_forall_ne_some, ne_eq, nextVisit_iff hr hsize]

theorem walking_iff (e : Engine) : e.walking = true ↔ e.state = .firstPass ∨ e.state = .secondPass := by
  rw [Engine.walking, decide_eq_true_eq]

theorem exec_passEnd_done (hrun : s.running = true) (hscan : scanLine s = some (r, o, l)) (hr : Table.rising s.packs)
    (hsize : sizeLaw s) (hwalk : s.engine.state = .firstPass ∨ s.engine.state = .secondPass)
    (hdone : ∀ v, ¬ visitsNext s l.item v) : exec .passEnd s = .next (endPass s) :=
  congrArg Host.Outcome.next (if_pos ⟨hrun, (walking_iff _).mpr hwalk, (passDone_iff hscan hr hsize).mpr hdone⟩)

theorem exec_passEnd_early (hscan : scanLine s = some (r, o, l)) (hr : Table.rising s.packs) (hsize : sizeLaw s)
    (hleft : ∃ v, visitsNext s l.item v) : exec .passEnd s = .next s := by
  refine congrArg Host.Outcome.next (if_neg ?_)
  rw [passDone_iff hscan hr hsize]
  rintro ⟨-, -, hdone⟩
  obtain ⟨v, hv⟩ := hleft
  exact hdone v hv

theorem endPass_lead {c : Candidate} (hscan : scanLine s = some (r, o, l)) (hlead : s.engine.lead = some c) :
    endPass s = if s.low then setEngine s.engine.toWaiting s else finishScan c s := by
  rw [endPass, hscan]
  simp only [hlead]

theorem endPass_empty (hscan : scanLine s = some (r, o, l)) (hlead : s.engine.lead = none) :
    endPass s =
      if s.engine.state = .firstPass ∧ 0 < o.level then setEngine s.engine.toSecondPass s else endEmptyScan r s := by
  rw [endPass, hscan]
  simp only [hlead]

/-- A supply that comes back validates the scan held in WAITING (R113, R186). -/
theorem exec_supplyRecovery_waiting {c : Candidate} (hrun : s.running = true) (hsupply : s.supply = .sound)
    (hwait : s.engine.state = .waiting) (hlead : s.engine.lead = some c) :
    exec .supplyRecovery { s with supply := .low } = .next (finishScan c s) := by
  have hstop : s.stopped = false := by
    rw [State.running, Bool.and_eq_true, Bool.not_eq_true'] at hrun
    exact hrun.1
  have hback : { { s with supply := .low } with supply := .sound } = s := by rw [← hsupply]
  obtain ⟨-, -, -, hrecover⟩ := theSupplyDipsAndRecovers { s with supply := .low } hstop
  rw [hrecover c rfl hwait hlead]
  exact congrArg (fun t => Host.Outcome.next (finishScan c t)) hback

end

/-- Settles O58: the validation of a lead, and the ends without one. -/
theorem aPassEndsWithItsOutcome : Obligations.APassEndsWithItsOutcome := by
  intro r o l s u hrun hline ho hl hr hsize hu
  have hscan := scanLine_eq hline ho hl
  subst hu
  refine ⟨fun c out hlead hsupply hout => ?_, fun hwalk hdone => ?_, fun _ hleft =>
    exec_passEnd_early hscan hr hsize hleft⟩
  · have hfinish : out = .next (finishScan c s) := by
      rcases hout with ⟨hwalk, hdone, rfl⟩ | ⟨hwait, rfl⟩
      · rw [exec_passEnd_done hrun hscan hr hsize hwalk hdone, endPass_lead hscan hlead,
          if_neg (by simp [low_of_sound hsupply])]
      · exact exec_supplyRecovery_waiting hrun hsupply hwait hlead
    subst hfinish
    refine ⟨fun p hp hwants hpass hok hfree => ?_, fun p hp hwants hpass hok hfree => ?_,
      fun p hp hwants hok hsup hslot => ?_, fun hfail => ?_⟩
    · have hok' : passOk c.pass s o l.item c.tag p = true := by rw [hpass]; exact hok
      rw [finishScan_commits hscan hp hwants hok' hfree, hpass]
      rfl
    · have hok' : passOk c.pass s o l.item c.tag p = true := by rw [hpass]; exact hok
      rw [finishScan_commits hscan hp hwants hok' hfree, hpass]
      rfl
    · rw [finishScan_proposes hscan hp hwants hok hsup hslot]
      rfl
    · rw [finishScan_restarts hscan hfail]
  · have hexec := exec_passEnd_done hrun hscan hr hsize hwalk hdone
    refine ⟨fun c hlead hsupply => ?_, fun hlead hfirst hlevel => ?_, fun hlead hlast hseen => ?_,
      fun hlead hlast hunseen => ?_⟩
    · rw [hexec, endPass_lead hscan hlead, if_pos (low_of_low hsupply)]
      rfl
    · rw [hexec, endPass_empty hscan hlead, if_pos ⟨hfirst, hlevel⟩]
      rfl
    · rw [hexec, endPass_empty hscan hlead, if_neg (by rcases hlast with h | h <;> simp [h]), endEmptyScan,
        if_pos hseen]
      rfl
    · rw [hexec, endPass_empty hscan hlead, if_neg (by rcases hlast with h | h <;> simp [h]), endEmptyScan,
        if_neg (by simp [hunseen])]
      rfl

end Sys2Proof.Proofs
end

section
/-!
PROOFS. The offer arbiter (R120 to R123).
-/

namespace Sys2Proof.Proofs

open Sys2Proof.Machine Sys2Proof.Safety

/-! ## The first of a list by a number -/

section
variable {α : Type} {before : α → α → Bool} (key : α → Nat) (hk : ∀ a b, before a b = decide (key a < key b))
include hk

/-- The first by a number in a list that goes by an order: the least of the lowest. -/
theorem firstBy_of_pairwise {R : α → α → Prop} (hasymm : ∀ a b, R a b → ¬ R b a) {l : List α} (hl : l.Pairwise R)
    (x : α) :
    firstBy before l = some x ↔ x ∈ l ∧ ∀ y ∈ l, key x < key y ∨ (key x = key y ∧ (y = x ∨ R x y)) := by
  rw [firstBy_eq_some_iff key hk]
  constructor
  · rintro ⟨front, back, rfl, hfront, hback⟩
    obtain ⟨-, hcons, -⟩ := List.pairwise_append.mp hl
    refine ⟨by simp, fun y hy => ?_⟩
    rcases List.mem_append.mp hy with hy | hy
    · exact Or.inl (hfront y hy)
    · rcases List.mem_cons.mp hy with rfl | hy
      · exact Or.inr ⟨rfl, Or.inl rfl⟩
      · rcases Nat.lt_or_eq_of_le (hback y hy) with h | h
        · exact Or.inl h
        · exact Or.inr ⟨h, Or.inr ((List.pairwise_cons.mp hcons).1 y hy)⟩
  · rintro ⟨hx, hleast⟩
    obtain ⟨front, back, rfl⟩ := List.append_of_mem hx
    obtain ⟨-, -, hacross⟩ := List.pairwise_append.mp hl
    refine ⟨front, back, rfl, fun y hy => ?_, fun y hy => ?_⟩
    · have hyx : R y x := hacross y hy x List.mem_cons_self
      rcases hleast y (by simp [hy]) with h | ⟨-, rfl | h⟩
      · exact h
      · exact absurd hyx (hasymm _ _ hyx)
      · exact absurd hyx (hasymm _ _ h)
    · rcases hleast y (by simp [hy]) with h | ⟨h, -⟩ <;> omega

omit hk in
theorem firstBy_eq_none_iff (l : List α) : firstBy before l = none ↔ l = [] :=
  ⟨firstBy_none, fun h => by rw [h]; rfl⟩

end

/-! ## Tasks and stations the arbiter may take (R120 to R122) -/

theorem mem_stationNumbers (m : Nat) : m ∈ stationNumbers ↔ 1 ≤ m ∧ m ≤ 8 := by
  simp only [stationNumbers, List.mem_cons, List.not_mem_nil, or_false]
  omega

theorem mem_offerableTasks {s : State} {t : Machine.Task} :
    t ∈ offerableTasks s ↔ t ∈ s.tasks ∧ offerable s t = true ∧ ∃ m, 1 ≤ m ∧ m ≤ 8 ∧ qualifies s t m = true := by
  simp only [offerableTasks, List.mem_filter, Bool.and_eq_true, List.any_eq_true, mem_stationNumbers, and_assoc]

theorem ranksBefore_iff (s : State) (t u : Machine.Task) :
    ranksBefore s t u = true ↔
      taskPosition s t < taskPosition s u ∨
        (taskPosition s t = taskPosition s u ∧ t.isFetch = false ∧ u.isFetch = true) := decide_eq_true_iff

/-- The rank of a task as one number: the queue position, then SHIFT before FETCH (R122). -/
def rankOf (s : State) (t : Machine.Task) : Nat := 2 * taskPosition s t + if t.isFetch then 1 else 0

theorem ranksBefore_eq (s : State) (t u : Machine.Task) : ranksBefore s t u = decide (rankOf s t < rankOf s u) := by
  rw [ranksBefore, rankOf, rankOf]
  refine decide_eq_decide.mpr ?_
  cases t.isFetch <;> cases u.isFetch <;> simp <;> omega

/-- The task taken: among those that can be offered the leftmost of the highest rank. -/
theorem chosenTask_iff (s : State) (t : Machine.Task) :
    chosenTask s = some t ↔
      ∃ front back, offerableTasks s = front ++ t :: back ∧ (∀ u ∈ front, rankOf s t < rankOf s u) ∧
        ∀ u ∈ back, rankOf s t ≤ rankOf s u :=
  firstBy_eq_some_iff (rankOf s) (ranksBefore_eq s) (offerableTasks s) t

theorem chosenStation_iff (s : State) (t : Machine.Task) (n : Nat) :
    chosenStation s t = some n ↔
      (1 ≤ n ∧ n ≤ 8 ∧ qualifies s t n = true) ∧
        ∀ m, 1 ≤ m → m ≤ 8 → qualifies s t m = true →
          stationDistance s t n < stationDistance s t m ∨
            (stationDistance s t n = stationDistance s t m ∧ n ≤ m) := by
  have hsorted : (stationNumbers.filter (qualifies s t)).Pairwise (· < ·) :=
    List.Pairwise.filter _ (by decide)
  rw [chosenStation, firstBy_of_pairwise (stationDistance s t) (fun _ _ => rfl) (fun _ _ => Nat.lt_asymm) hsorted]
  simp only [List.mem_filter, mem_stationNumbers, and_assoc, and_imp]
  refine and_congr_right fun _ => and_congr_right fun _ => and_congr_right fun _ => ?_
  refine forall_congr' fun m => imp_congr_right fun _ => imp_congr_right fun _ => imp_congr_right fun _ =>
    or_congr_right (and_congr_right fun _ => ?_)
  omega

section
variable {s : State} {t : Machine.Task}

/-- What stands before the first occurrence of an element. -/
theorem front_unique {α : Type} {x : α} {f f' b b' : List α} (hf : x ∉ f) (hf' : x ∉ f')
    (h : f ++ x :: b = f' ++ x :: b') : f = f' := by
  induction f generalizing f' with
  | nil =>
    cases f' with
    | nil => rfl
    | cons y ys =>
      obtain ⟨rfl, -⟩ := List.cons.inj h
      simp at hf'
  | cons y ys ih =>
    cases f' with
    | nil =>
      obtain ⟨rfl, -⟩ := List.cons.inj h
      simp at hf
    | cons z zs =>
      obtain ⟨rfl, hrest⟩ := List.cons.inj h
      rw [ih (fun hy => hf (List.mem_cons_of_mem _ hy)) (fun hz => hf' (List.mem_cons_of_mem _ hz)) hrest]

theorem chosenTask_mem (h : chosenTask s = some t) : t ∈ offerableTasks s := firstBy_mem h

theorem chosenTask_first (h : chosenTask s = some t) {u : Machine.Task} (hu : u ∈ offerableTasks s) :
    ranksBefore s u t = false := by
  obtain ⟨front, back, hsplit, hfront, hback⟩ := (chosenTask_iff s t).mp h
  rw [ranksBefore_eq, decide_eq_false_iff_not]
  rw [hsplit] at hu
  rcases List.mem_append.mp hu with hu | hu
  · have := hfront u hu
    omega
  · rcases List.mem_cons.mp hu with rfl | hu
    · omega
    · have := hback u hu
      omega

/-- Of equals the oldest is taken: those before it rank behind it (R122). -/
theorem chosenTask_oldest (h : chosenTask s = some t) {front back : List Machine.Task}
    (hsplit : s.tasks = front ++ t :: back) (hnot : t ∉ front) {u : Machine.Task} (hu : u ∈ front)
    (hoff : u ∈ offerableTasks s) : ranksBefore s t u = true := by
  obtain ⟨front', back', hsplit', hfront', -⟩ := (chosenTask_iff s t).mp h
  have hpass : (offerable s t && stationNumbers.any (qualifies s t)) = true :=
    (List.mem_filter.mp (chosenTask_mem h)).2
  have hfilter : offerableTasks s = front.filter (fun t => offerable s t && stationNumbers.any (qualifies s t)) ++
      t :: back.filter (fun t => offerable s t && stationNumbers.any (qualifies s t)) := by
    rw [offerableTasks, hsplit, List.filter_append, List.filter_cons, if_pos hpass]
  have hsame := front_unique (fun ht => Nat.lt_irrefl _ (hfront' t ht)) (fun ht => hnot (List.mem_filter.mp ht).1)
    (hsplit'.symm.trans hfilter)
  rw [ranksBefore_eq, decide_eq_true_eq]
  refine hfront' u ?_
  rw [hsame]
  exact List.mem_filter.mpr ⟨hu, (List.mem_filter.mp hoff).2⟩

theorem exec_taskOffer_makes {n : Nat} (hrun : s.running = true) (ht : chosenTask s = some t)
    (hn : chosenStation s t = some n) : exec .taskOffer s = .next (makeOffer t n s) := by
  show execTaskOffer s = _
  rw [execTaskOffer, if_pos hrun, ht]
  simp only [hn]

theorem exec_taskOffer_idle (hrun : s.running = true) (ht : chosenTask s = none) : exec .taskOffer s = .next s := by
  show execTaskOffer s = _
  rw [execTaskOffer, if_pos hrun, ht]

/-- Where something can be offered the arbiter takes a task and a station. -/
theorem exists_chosen (h : ∃ u ∈ s.tasks, offerable s u = true ∧ ∃ m, 1 ≤ m ∧ m ≤ 8 ∧ qualifies s u m = true) :
    ∃ t n, chosenTask s = some t ∧ chosenStation s t = some n := by
  obtain ⟨u, hu, hoff⟩ := h
  have hmem : u ∈ offerableTasks s := mem_offerableTasks.mpr ⟨hu, hoff⟩
  cases ht : chosenTask s with
  | none =>
    rw [firstBy_none ht] at hmem
    cases hmem
  | some t =>
    obtain ⟨-, -, m, h1, h8, hm⟩ := mem_offerableTasks.mp (chosenTask_mem ht)
    cases hn : chosenStation s t with
    | none =>
      have hin : m ∈ stationNumbers.filter (qualifies s t) := List.mem_filter.mpr ⟨(mem_stationNumbers m).mpr ⟨h1, h8⟩, hm⟩
      rw [firstBy_none hn] at hin
      cases hin
    | some n => exact ⟨t, n, rfl, hn⟩

end

/-! ## The tests of an offer (R120, R121) -/

theorem offerable_iff (s : State) (t : Machine.Task) :
    offerable s t = true ↔
      t.state = .opened ∧ lineActive s 2 = false ∧
        ((∃ tag, t.kind = .shift tag) ∨ ∃ r, t.kind = .fetch r ∧ gatesOpen s r t.subject = true) := by
  simp only [offerable, halted, Bool.and_eq_true, decide_eq_true_eq, Bool.not_eq_true', and_assoc]
  refine and_congr_right fun _ => and_congr_right fun _ => ?_
  cases t.kind <;> simp

theorem gatesOpen_iff (s : State) (r : LineRef) (tag : Nat) :
    gatesOpen s r tag = true ↔
      ∃ o point, Table.get s.orders r.handle = some o ∧ o.point = some point ∧ lineActive s (point + 2) = true ∧
        (∀ e ∈ packsAbove s tag, e.2.state ≠ .moving) ∧
        ∀ l ∈ o.lines.take (r.line - 1), l.loaded = l.item.quantity := by
  rw [gatesOpen, State.order]
  cases ho : Table.get s.orders r.handle with
  | none => simp
  | some o =>
    have htruck : truckPresent s o = true ↔ ∃ point, o.point = some point ∧ lineActive s (point + 2) = true := by
      unfold truckPresent pointActive
      cases o.point <;> simp
    simp only [Bool.and_eq_true, Bool.not_eq_true', htruck, movingAbove, List.any_eq_false, List.all_eq_true,
      OrderLine.full, decide_eq_true_eq, Option.some.injEq]
    constructor
    · rintro ⟨⟨hmoving, point, hpoint, hactive⟩, hlines⟩
      exact ⟨o, point, rfl, hpoint, hactive, hmoving, hlines⟩
    · rintro ⟨o', point, rfl, hpoint, hactive, hmoving, hlines⟩
      exact ⟨⟨hmoving, point, hpoint, hactive⟩, hlines⟩

section
variable {s : State} {t : Machine.Task} {q : Pack} {able : Nat → Prop}

theorem canCarry_iff (hq : Table.get s.packs t.subject = some q) {n : Nat} (h1 : 1 ≤ n) :
    canCarry s t n = true ↔ ∃ st, s.stations[n - 1]? = some st ∧ st.state = .idle ∧ q.mass ≤ st.capacity.getD 0 := by
  rw [canCarry, State.station, nth, if_neg (by omega), subjectMass_of_get hq]
  cases s.stations[n - 1]? <;> simp

theorem qualifies_iff (hq : Table.get s.packs t.subject = some q)
    (hable : ∀ n, able n ↔ ∃ st, s.stations[n - 1]? = some st ∧ st.state = .idle ∧ q.mass ≤ st.capacity.getD 0)
    {n : Nat} (h1 : 1 ≤ n) :
    qualifies s t n = true ↔ able n ∧ (t.lapsed ≠ some n ∨ ∀ m, 1 ≤ m → m ≤ 8 → m ≠ n → ¬ able m) := by
  have hcarry : ∀ m, 1 ≤ m → (canCarry s t m = true ↔ able m) := fun m hm =>
    (canCarry_iff hq hm).trans (hable m).symm
  have hothers : (stationNumbers.any fun m => decide (m ≠ n) && canCarry s t m) = false ↔
      ∀ m, 1 ≤ m → m ≤ 8 → m ≠ n → ¬ able m := by
    simp only [List.any_eq_false, mem_stationNumbers, Bool.and_eq_true, decide_eq_true_eq, not_and, and_imp]
    exact forall_congr' fun m => imp_congr_right fun hm => imp_congr_right fun _ => imp_congr_right fun _ =>
      not_congr (hcarry m hm)
  rw [qualifies, Bool.and_eq_true, Bool.or_eq_true, decide_eq_true_eq, Bool.not_eq_true', hothers, hcarry n h1]

end

/-! ## Ranks, distances and suggestions (R122, R123) -/

theorem taskPosition_of_served {s : State} {t : Machine.Task} {h : Nat} (hserved : servedOrder s t = some h) :
    taskPosition s t = queuePosition s h := by
  rw [taskPosition, hserved]

theorem servedOrder_shift {s : State} {t : Machine.Task} {tag : Nat} {p : Pack} {r : LineRef} (hkind : t.kind = .shift tag)
    (hp : Table.get s.packs tag = some p) (hr : p.reservation = some r) : servedOrder s t = some r.handle := by
  rw [servedOrder, hkind]
  simp [hp, hr]

section
variable {s : State} {t : Machine.Task} {n : Nat} {st : Station} {q : Pack} (hst : s.station n = some st)
  (hq : Table.get s.packs t.subject = some q)
include hst

theorem stationDistance_unknown (hnone : st.lastBay = none) : stationDistance s t n = 30 := by
  rw [stationDistance, hst, Option.bind_some, hnone]

include hq in
theorem stationDistance_known {b : Nat} {l : Location} (hb : st.lastBay = some b) (hl : q.location = some l) :
    stationDistance s t n = bayDistance s b l.bay := by
  rw [stationDistance, hst, Option.bind_some, hb, subjectPlace_of_get hq, hl]

theorem suggestFromStation_eq :
    suggestFromStation s (some n) =
      match st.lastBay with
      | none => none
      | some b => suggest s b none := by
  rw [suggestFromStation, Option.bind_some, hst, Option.bind_some] <;> cases st.lastBay <;> rfl

end

theorem suggestible_iff {s : State} {place : Option Location} (bk : Nat × Nat) :
    suggestible s place bk = true ↔
      (s.bay bk.1).enabled = true ∧ height s bk.1 bk.2 < (s.bay bk.1).tierLimit ∧
        (∀ l, place = some l → ¬ (l.bay = bk.1 ∧ l.stack = bk.2)) ∧ holdsReserved s bk.1 bk.2 = false := by
  obtain ⟨b, k⟩ := bk
  have hplace : place.map (fun l => (l.bay, l.stack)) ≠ some (b, k) ↔
      ∀ l, place = some l → ¬ (l.bay = b ∧ l.stack = k) := by
    cases place <;> simp
  simp only [suggestible, Bool.and_eq_true, decide_eq_true_eq, Bool.not_eq_true', hplace, and_assoc]

section
variable {s : State} {near : Nat} {place : Option Location} {room : Nat → Nat → Prop}
  (hroom : ∀ b k, room b k ↔
    b ≤ 63 ∧ k < (s.bay b).stackCount ∧ (s.bay b).enabled = true ∧ height s b k < (s.bay b).tierLimit ∧
      (∀ l, place = some l → ¬ (l.bay = b ∧ l.stack = k)) ∧ holdsReserved s b k = false)
include hroom

theorem mem_suggestible (b k : Nat) : (b, k) ∈ (allStacks s).filter (suggestible s place) ↔ room b k := by
  rw [List.mem_filter, mem_allStacks, suggestible_iff, hroom, and_assoc]

theorem suggest_eq_some_iff (b k : Nat) :
    suggest s near place = some (b, k) ↔
      room b k ∧ ∀ c m, room c m → bayDistance s near b < bayDistance s near c ∨
        (bayDistance s near b = bayDistance s near c ∧ (b < c ∨ (b = c ∧ k ≤ m))) := by
  have hsorted : ((allStacks s).filter (suggestible s place)).Pairwise
      fun x y => x.1 < y.1 ∨ (x.1 = y.1 ∧ x.2 < y.2) := (allStacks_pairwise s).filter _
  rw [suggest, firstBy_of_pairwise (fun x : Nat × Nat => bayDistance s near x.1) (fun _ _ => rfl) (by omega) hsorted]
  refine and_congr (mem_suggestible hroom b k) ?_
  rw [Prod.forall]
  refine forall_congr' fun c => forall_congr' fun m => imp_congr (mem_suggestible hroom c m)
    (or_congr_right (and_congr_right fun _ => ?_))
  rw [Prod.mk.injEq]
  omega

theorem suggest_eq_none_iff : suggest s near place = none ↔ ∀ b k, ¬ room b k := by
  rw [suggest, firstBy_eq_none_iff, List.eq_nil_iff_forall_not_mem, Prod.forall]
  exact forall_congr' fun b => forall_congr' fun k => not_congr (mem_suggestible hroom b k)

end

/-- Settles O59: the offer made, and the tests and the orders it is made by. -/
theorem theArbiterOffersTheHighestRank : Obligations.TheArbiterOffersTheHighestRank := by
  refine ⟨?_, fun s hrun => ⟨exists_chosen, fun hnone => exec_taskOffer_idle hrun ?_⟩, offerable_iff, gatesOpen_iff,
    fun s t q able hq hable n h1 _ => qualifies_iff hq hable h1, ranksBefore_iff, fun s t => ⟨fun r hkind => ?_,
      fun tag p r hkind hp hr => taskPosition_of_served (servedOrder_shift hkind hp hr)⟩, ?_, ?_, ?_, ?_⟩
  · intro t n s hrun _ ht hn
    obtain ⟨hmem, hoff, -⟩ := mem_offerableTasks.mp (chosenTask_mem ht)
    obtain ⟨⟨h1, h8, hqual⟩, hnear⟩ := (chosenStation_iff s t n).mp hn
    refine ⟨exec_taskOffer_makes hrun ht hn, ⟨hmem, hoff, h1, h8, hqual⟩, fun u hu huoff hum => ?_,
      fun front back hsplit hnot u hu huoff hum => ?_, hnear⟩
    · exact chosenTask_first ht (mem_offerableTasks.mpr ⟨hu, huoff, hum⟩)
    · exact chosenTask_oldest ht hsplit hnot hu (mem_offerableTasks.mpr ⟨by simp [hsplit, hu], huoff, hum⟩)
  · refine (firstBy_eq_none_iff _).mpr (List.eq_nil_iff_forall_not_mem.mpr fun u hu => ?_)
    obtain ⟨hin, hoff, m, h1, h8, hm⟩ := mem_offerableTasks.mp hu
    simp [hnone u hin hoff m h1 h8] at hm
  · have hserved : servedOrder s t = some r.handle := by rw [servedOrder, hkind]
    refine ⟨taskPosition_of_served hserved, ?_⟩
    rw [suggestFor, hkind]
  · intro s t n st q h1 hst hq
    have hrec := station_of_getElem? h1 hst
    exact ⟨fun b l hb hl => stationDistance_known hrec hq hb hl, stationDistance_unknown hrec⟩
  · intro s t tag q l hkind hq hl
    rw [suggestFor, hkind]
    show suggestFrom s (subjectPlace s t) = _
    rw [subjectPlace_of_get hq, hl]
    rfl
  · intro s n st h1 hst
    exact (suggestFromStation_eq (station_of_getElem? h1 hst)).trans (by cases st.lastBay <;> rfl)
  · intro s near place away room haway hroom
    have hsame : ∀ b, bayDistance s near b = away b := fun b => (haway b).symm
    refine ⟨fun b k => ?_, suggest_eq_none_iff hroom⟩
    rw [suggest_eq_some_iff hroom]
    simp only [hsame]

end Sys2Proof.Proofs
end

section
/-!
PROOFS. The timers of tasks (R136 to R138).
-/

namespace Sys2Proof.Proofs

open Sys2Proof.Machine Sys2Proof.Safety

theorem modify_eq_set {α : Type} {l : List α} {i : Nat} {x : α} (h : l[i]? = some x) (f : α → α) :
    l.modify i f = l.set i (f x) := by
  refine List.ext_getElem? fun j => ?_
  obtain ⟨hi, hx⟩ := List.getElem?_eq_some_iff.mp h
  rw [List.getElem?_modify, List.getElem?_set]
  by_cases hij : i = j
  · subst hij
    simp [hi, hx]
  · simp [hij]

section
variable {k n : Nat} {t : Machine.Task} {st : Station} {s : State}

theorem dueTask_station {state : TaskState} (ht : s.task k = some t) (hn : t.station = some n) (hstate : t.state = state)
    (hdue : t.deadline = some 0) : (dueTask s k state).bind Task.station = some n := by
  have hfilter : dueTask s k state = some t := by
    rw [dueTask, ht]
    exact Option.filter_some_pos (decide_eq_true ⟨hstate, hdue⟩)
  rw [hfilter, Option.bind_some, hn]

theorem changeStation_set (h1 : 1 ≤ n) (hst : s.stations[n - 1]? = some st) (f : Station → Station) (v : State)
    (hv : v.stations = s.stations) : changeStation n f v = { v with stations := s.stations.set (n - 1) (f st) } := by
  rw [changeStation_eq h1, hv, modify_eq_set hst]

theorem losesStation_eq (h : s.station n = some st) : losesStation s n = decide (2 ≤ st.lapses) := by
  rw [losesStation, h]
  exact decide_eq_decide.mpr (by omega)

theorem stationLapses_early (h : st.lapses < 2) : stationLapses st = { st with state := .idle, lapses := st.lapses + 1 } :=
  if_neg (by omega)

theorem stationLapses_third (h : 2 ≤ st.lapses) :
    stationLapses st = { st with state := .offShift, capacity := none, lapses := 3 } := if_pos (by omega)

theorem exec_offerLapse_due (hrun : s.running = true) (hdue : (dueTask s k .offered).bind Task.station = some n) :
    exec (.offerLapse k) s =
      .next (postIf (losesStation s n) .stationLost (changeStation n stationLapses (lapseTask n k s))) := by
  show execOfferLapse k s = _
  rw [execOfferLapse, if_pos hrun, hdue]

theorem exec_taskLapse_due (hrun : s.running = true) (hdue : (dueTask s k .accepted).bind Task.station = some n) :
    exec (.taskLapse k) s = .next (post .taskLapsed (dismiss (some n) (lapseTask n k s))) := by
  show execTaskLapse k s = _
  rw [execTaskLapse, if_pos hrun, hdue]

theorem alarmDue_eq (ht : s.task k = some t) : alarmDue s k = decide (t.state = .lifted ∧ t.alarm = some 0) := by
  rw [alarmDue, ht]

end

/-- Settles O60: each lapse, by the state of its task. -/
theorem taskTimersLapse : Obligations.TaskTimersLapse := by
  intro k n t st s u hrun h1 h8 ht hn hst hu
  have hlapse : lapseTask n k s = u := hu.symm
  have hstations : u.stations = s.stations := by rw [hu]
  have hlose := losesStation_eq (station_of_getElem? h1 hst)
  refine ⟨fun hstate hdue hearly => ?_, fun hstate hdue hthird => ?_, fun hstate hdue => ?_, fun hstate halarm => ?_⟩
  · rw [exec_offerLapse_due hrun (dueTask_station ht hn hstate hdue), hlose, hlapse,
      changeStation_set h1 hst stationLapses u hstations, stationLapses_early hearly, postIf,
      if_neg (by simp only [decide_eq_true_eq]; omega)]
  · rw [exec_offerLapse_due hrun (dueTask_station ht hn hstate hdue), hlose, hlapse,
      changeStation_set h1 hst stationLapses u hstations, stationLapses_third hthird, postIf,
      if_pos (decide_eq_true hthird)]
  · rw [exec_taskLapse_due hrun (dueTask_station ht hn hstate hdue), hlapse]
    exact congrArg (fun v => Host.Outcome.next (post .taskLapsed v)) (changeStation_set h1 hst _ u hstations)
  · refine congrArg Host.Outcome.next (if_pos ⟨hrun, ?_⟩)
    rw [alarmDue_eq ht, decide_eq_true ⟨hstate, halarm⟩]

end Sys2Proof.Proofs
end

section
/-!
PROOFS. What a reservation (R102) and a takeover (R103, R104) write.
-/

namespace Sys2Proof.Proofs

open Sys2Proof.Machine Sys2Proof.Safety

/-! ## The packs above a pack (R11) -/

theorem mem_packsAbove {s : State} {tag : Nat} {e : Nat × Pack} :
    e ∈ packsAbove s tag ↔
      ∃ p l m, Table.get s.packs tag = some p ∧ p.location = some l ∧ e ∈ s.packs ∧ e.2.location = some m ∧
        m.bay = l.bay ∧ m.stack = l.stack ∧ l.tier < m.tier := by
  unfold packsAbove
  cases hp : Table.get s.packs tag with
  | none => simp
  | some p =>
    cases hl : p.location with
    | none => simp [hl]
    | some l =>
      simp only [Option.bind_some, hl, List.mem_filter, mem_stackList, decide_eq_true_eq]
      constructor
      · rintro ⟨⟨hin, i, hi⟩, htier⟩
        rw [tier_of_location hi] at htier
        exact ⟨p, l, _, rfl, hl, hin, hi, rfl, rfl, htier⟩
      · rintro ⟨p', l', ⟨b, k, i⟩, hp', hl', hin, hm, hb, hk, htier⟩
        obtain rfl := Option.some.inj hp'
        obtain rfl := Option.some.inj (hl.symm.trans hl')
        obtain rfl : b = l.bay := hb
        obtain rfl : k = l.stack := hk
        exact ⟨⟨hin, i, hm⟩, by rwa [tier_of_location hm]⟩

theorem not_mem_packsAbove_self {s : State} (hr : Table.rising s.packs) (tag : Nat) : tag ∉ (packsAbove s tag).keys := by
  intro htag
  obtain ⟨q, he⟩ := mem_keys.mp htag
  obtain ⟨p, l, m, hp, hl, hin, hm, -, -, htier⟩ := mem_packsAbove.mp he
  obtain rfl : q = p := Option.some.inj ((Table.get_of_mem hr hin).symm.trans hp)
  obtain rfl : m = l := Option.some.inj (hm.symm.trans hl)
  exact Nat.lt_irrefl _ htier

theorem nodup_keys_packsAbove {s : State} (hr : Table.rising s.packs) (tag : Nat) : (packsAbove s tag).keys.Nodup := by
  unfold packsAbove
  split
  · exact List.nodup_nil
  · exact (nodup_keys_stackList hr _ _).sublist (List.filter_sublist.map Prod.fst)

theorem get_of_mem_packsAbove {s : State} (hr : Table.rising s.packs) {tag : Nat} {e : Nat × Pack}
    (he : e ∈ packsAbove s tag) : Table.get s.packs e.1 = some e.2 := by
  obtain ⟨-, -, -, -, -, hin, -⟩ := mem_packsAbove.mp he
  exact Table.get_of_mem hr hin

theorem movingAbove_change {s t : State} {f : Nat → Pack → Pack} (hpacks : t.packs = Table.change s.packs f)
    (hplace : ∀ n p, (f n p).location = p.location) (hstate : ∀ n p, (f n p).state = p.state) (tag : Nat) :
    movingAbove t tag = movingAbove s tag := by
  rw [Bool.eq_iff_iff, movingAbove_iff, movingAbove_iff]
  simp only [mem_packsAbove, hpacks, Table.get_change, Option.map_eq_some_iff]
  constructor
  · rintro ⟨e, ⟨-, l, m, ⟨p, hp, rfl⟩, hl, hin, hm, hwhere⟩, hmoving⟩
    obtain ⟨e', hin', rfl⟩ := List.mem_map.mp hin
    rw [hplace] at hl hm
    rw [hstate] at hmoving
    exact ⟨e', ⟨p, l, m, hp, hl, hin', hm, hwhere⟩, hmoving⟩
  · rintro ⟨e, ⟨p, l, m, hp, hl, hin, hm, hwhere⟩, hmoving⟩
    exact ⟨(e.1, f e.1 e.2), ⟨_, l, m, ⟨p, hp, rfl⟩, (hplace _ _).trans hl, List.mem_map.mpr ⟨e, hin, rfl⟩,
      (hplace _ _).trans hm, hwhere⟩, (hstate _ _).trans hmoving⟩

/-! ## The reservation (R102) -/

/-- The state a reservation leaves, over the packs `packs` and the tasks `made` of its SHIFT tasks, with the number `k`
of its FETCH. -/
theorem reserve_eq {r : LineRef} {tag : Nat} {p : Pack} {s : State} {made : List Machine.Task} {packs : Table Pack}
    {k : Nat}
    (hshifts : (packsAbove s tag).keys.reverse.foldl (createShift tag) s =
      { s with packs := packs, tasks := s.tasks ++ made })
    (hk : freeTaskNumber { s with packs := packs, tasks := s.tasks ++ made } = k) :
    reserve r tag p s =
      { s with
        packs :=
          Table.update packs tag fun q => { q with state := .reserved, reservation := some r, task := some k }
        tasks := s.tasks ++ (made ++ [⟨k, .fetch r, tag, .opened, none, none, none, none, none⟩])
        orders :=
          Table.update s.orders r.handle fun o =>
            { o with
              lines := changeNth o.lines r.line fun l => { l with allocated := l.allocated + 1 }
              committed := o.committed + p.mass } } := by
  rw [reserve, hshifts, createFetch, hk, ← List.append_assoc]
  rfl

/-- One more element at the end of a list: what stands at a split of it is the last, or stands in the rest. -/
theorem split_concat {α : Type} {l front back : List α} {x u : α} (h : l ++ [x] = front ++ u :: back) :
    (u = x ∧ front = l) ∨ ∃ back', l = front ++ u :: back' := by
  rcases List.eq_nil_or_concat back with rfl | ⟨back', y, rfl⟩
  · obtain ⟨rfl, hx⟩ := List.append_inj' h rfl
    exact Or.inl ⟨(List.cons.inj hx).1.symm, rfl⟩
  · rw [List.concat_eq_append, ← List.cons_append, ← List.append_assoc] at h
    exact Or.inr ⟨back', (List.append_inj' h rfl).1⟩

/-- Settles the first half of O43: the tasks and the packs of a reservation. -/
theorem reserve_digs (r : LineRef) (tag : Nat) (p : Pack) (s t : State) (made : List Machine.Task)
    (hr : Table.rising s.packs) (hp : Table.get s.packs tag = some p)
    (hroom : s.tasks.length + (packsAbove s tag).length < 48) (ht : t = reserve r tag p s)
    (hmade : made = t.tasks.drop s.tasks.length) :
    t.tasks = s.tasks ++ made ∧
      made.map (fun u => { u with number := 0 }) =
        (packsAbove s tag).keys.reverse.map
            (fun n => (⟨0, .shift tag, n, .opened, none, none, none, none, none⟩ : Machine.Task)) ++
          [⟨0, .fetch r, tag, .opened, none, none, none, none, none⟩] ∧
      (∀ front u back, made = front ++ u :: back →
        1 ≤ u.number ∧ u.number ≤ 48 ∧ u.number ∉ (s.tasks ++ front).map Task.number ∧
          ∀ n, 1 ≤ n → n < u.number → n ∈ (s.tasks ++ front).map Task.number) ∧
      (∀ u ∈ made, ∃ q, Table.get t.packs u.subject = some q ∧ q.task = some u.number) ∧
      (∃ n, Table.get t.packs tag = some { p with state := .reserved, reservation := some r, task := n }) ∧
      (∀ e ∈ packsAbove s tag, ∃ n, Table.get t.packs e.1 = some { e.2 with state := .moving, task := n }) ∧
      (∀ n, n ≠ tag → n ∉ (packsAbove s tag).keys → Table.get t.packs n = Table.get s.packs n) ∧
      t =
        { s with
          packs := t.packs
          tasks := t.tasks
          orders :=
            Table.update s.orders r.handle fun o =>
              { o with
                lines := changeNth o.lines r.line fun l => { l with allocated := l.allocated + 1 }
                committed := o.committed + p.mass } } := by
  have hself := not_mem_packsAbove_self hr tag
  have hlen : (packsAbove s tag).keys.reverse.length = (packsAbove s tag).length := by simp [Table.keys]
  have hlive : ∀ n ∈ (packsAbove s tag).keys.reverse, ∃ q, Table.get s.packs n = some q := by
    intro n hn
    have hkey : n ∈ (packsAbove s tag).keys := List.mem_reverse.mp hn
    obtain ⟨q, hq⟩ := mem_keys.mp hkey
    exact ⟨q, get_of_mem_packsAbove hr hq⟩
  obtain ⟨shifts, packs, hfold, hkinds, hnumbers, hnames, hmoving, hothers⟩ :=
    createShifts_spec tag (packsAbove s tag).keys.reverse s (List.nodup_reverse.mpr (nodup_keys_packsAbove hr tag))
      (by omega) hlive
  have hcount : shifts.length = (packsAbove s tag).length := by
    rw [← hlen, ← List.length_map (as := shifts), hkinds, List.length_map]
  have hsubject : ∀ u ∈ shifts, u.subject ≠ tag := by
    intro u hu htag
    have hin : ({ u with number := 0 } : Machine.Task) ∈ shifts.map fun u => { u with number := 0 } :=
      List.mem_map.mpr ⟨u, hu, rfl⟩
    rw [hkinds] at hin
    obtain ⟨n, hn, he⟩ := List.mem_map.mp hin
    have hsame : n = tag := (congrArg Task.subject he : n = u.subject).trans htag
    rw [hsame] at hn
    exact hself (List.mem_reverse.mp hn)
  obtain ⟨k, hk⟩ : ∃ k, freeTaskNumber { s with packs := packs, tasks := s.tasks ++ shifts } = k := ⟨_, rfl⟩
  have hfree := freeTaskNumber_spec (s := { s with packs := packs, tasks := s.tasks ++ shifts })
    (by simp only [List.length_append]; omega)
  rw [hk] at hfree
  have hreserve := reserve_eq (r := r) (p := p) hfold hk
  have hpacks : t.packs = Table.update packs tag fun q =>
      { q with state := .reserved, reservation := some r, task := some k } := by rw [ht, hreserve]
  have hget : ∀ n, n ≠ tag → Table.get t.packs n = Table.get packs n := by
    intro n hn
    rw [hpacks, Table.get_update_other _ _ hn]
  have hfetch : Table.get t.packs tag = some { p with state := .reserved, reservation := some r, task := some k } := by
    have hbefore := hothers tag (fun h => hself (List.mem_reverse.mp h))
    rw [hpacks, Table.get_update_self, hbefore, hp]
    rfl
  have hmade' : made = shifts ++ [⟨k, .fetch r, tag, .opened, none, none, none, none, none⟩] := by
    rw [hmade, ht, hreserve]
    exact List.drop_left
  subst hmade'
  refine ⟨by rw [ht, hreserve], ?_, ?_, ?_, ⟨some k, hfetch⟩, ?_, ?_, by rw [ht, hreserve]⟩
  · rw [List.map_append, hkinds]
    rfl
  · intro front u back hsplit
    rcases split_concat hsplit with ⟨rfl, rfl⟩ | ⟨back', hback⟩
    · exact hfree
    · exact hnumbers front u back' hback
  · intro u hu
    rcases List.mem_append.mp hu with hu | hu
    · rw [hget u.subject (hsubject u hu)]
      exact hnames u hu
    · obtain rfl := List.mem_singleton.mp hu
      exact ⟨_, hfetch, rfl⟩
  · intro e he
    have hkey : e.1 ∈ (packsAbove s tag).keys := mem_keys.mpr ⟨e.2, he⟩
    obtain ⟨n, hn⟩ := hmoving e.1 (List.mem_reverse.mpr hkey)
    refine ⟨n, ?_⟩
    rw [hget e.1 (fun h => hself (h ▸ hkey)), hn, get_of_mem_packsAbove hr he]
    rfl
  · intro n hn hnot
    rw [hget n hn, hothers n (fun h => hnot (List.mem_reverse.mp h))]

/-! ## The takeover (R103, R104) -/

theorem update_update (t : Table Order) (k : Nat) (f g : Order → Order) :
    Table.update (Table.update t k f) k g = Table.update t k fun o => g (f o) := by
  rw [Table.update, Table.update, Table.update, Table.change, Table.change, Table.change, List.map_map]
  refine List.map_congr_left fun e _ => Prod.ext rfl ?_
  by_cases h : e.1 = k <;> simp [h]

theorem changeNth_changeNth {α : Type} (l : List α) (n : Nat) (f g : α → α) :
    changeNth (changeNth l n f) n g = changeNth l n fun x => g (f x) := by
  unfold changeNth
  split_ifs
  · rfl
  · exact List.modify_modify_eq f g (n - 1) l

theorem markClearSeen_eq (s : State) : markClearSeen s = { s with engine := seen s.engine } := by
  unfold markClearSeen seen Engine.scanning
  by_cases h : s.engine.state = .idle <;> simp [h]

theorem robVictim_eq {p : Pack} {v : LineRef} (hv : p.reservation = some v) (s : State) :
    robVictim p s =
      { s with
        orders :=
          Table.update s.orders v.handle fun o =>
            { o with
              lines := changeNth o.lines v.line fun l => { l with allocated := l.allocated - 1, starved := false }
              committed := o.committed - p.mass }
        engine := seen s.engine } := by
  have horders : Table.update
        (Table.update s.orders v.handle fun o =>
          { o.changeLine v.line (fun l => { l with allocated := l.allocated - 1 }) with
            committed := o.committed - p.mass })
        v.handle (fun o => o.changeLine v.line fun l => { l with starved := false }) =
      Table.update s.orders v.handle fun o =>
        { o with
          lines := changeNth o.lines v.line fun l => { l with allocated := l.allocated - 1, starved := false }
          committed := o.committed - p.mass } := by
    rw [update_update]
    refine congrArg (Table.update s.orders v.handle) (funext fun o => ?_)
    rw [Order.changeLine, Order.changeLine, changeNth_changeNth]
  rw [robVictim, hv]
  dsimp only
  rw [markClearSeen_eq]
  exact congrArg (fun t => { s with orders := t, engine := seen s.engine }) horders

theorem judgeOffer_frame (r : LineRef) (t : Machine.Task) (s : State) :
    ∃ k n, judgeOffer r t s = { s with tasks := k, stations := n } := by
  unfold judgeOffer
  split
  · exact ⟨_, _, dismiss_eq t.station _⟩
  · exact ⟨s.tasks, s.stations, rfl⟩

/-- The order a line of which a takeover robs. -/
def robbed (line mass : Nat) (o : Order) : Order :=
  { o with
    lines := changeNth o.lines line fun l => { l with allocated := l.allocated - 1, starved := false }
    committed := o.committed - mass }

/-- The order a line of which a takeover serves. -/
def served (line mass : Nat) (o : Order) : Order :=
  { o with
    lines := changeNth o.lines line fun l => { l with allocated := l.allocated + 1 }
    committed := o.committed + mass }

/-- The packs, the orders and the engine after a takeover; what becomes of the FETCH is judged upon it. -/
def takenOver (r victim : LineRef) (tag : Nat) (p : Pack) (s : State) : State :=
  { s with
    packs := Table.update s.packs tag fun q => { q with reservation := some r }
    orders :=
      Table.update (Table.update s.orders victim.handle (robbed victim.line p.mass)) r.handle (served r.line p.mass)
    engine := seen s.engine }

section
variable {r victim : LineRef} {tag : Nat} {p : Pack} {s : State}

theorem raiseCounts_robVictim (hv : p.reservation = some victim) :
    raiseCounts r p.mass (robVictim p (changePack tag (fun q => { q with reservation := some r }) s)) =
      takenOver r victim tag p s := by
  rw [robVictim_eq hv]
  rfl

theorem takeOver_none (hv : p.reservation = some victim) (hf : fetchOf s tag = none) :
    takeOver r tag p s = post .reservationTaken (takenOver r victim tag p s) := by
  rw [takeOver, hf, raiseCounts_robVictim hv]

theorem takeOver_some {f : Machine.Task} (hv : p.reservation = some victim) (hf : fetchOf s tag = some f) :
    takeOver r tag p s =
      post .reservationTaken
        (judgeOffer r f (changeTask f.number (fun u => { u with kind := .fetch r }) (takenOver r victim tag p s))) := by
  rw [takeOver, hf, raiseCounts_robVictim hv]

/-- Beside the FETCH and its station a takeover leaves what `takenOver` says. -/
theorem takeOver_frame (hv : p.reservation = some victim) :
    ∃ k n, takeOver r tag p s =
      post .reservationTaken { takenOver r victim tag p s with tasks := k, stations := n } := by
  cases hf : fetchOf s tag with
  | none => exact ⟨s.tasks, s.stations, takeOver_none hv hf⟩
  | some f =>
    rw [takeOver_some hv hf]
    obtain ⟨k, n, hjudge⟩ := judgeOffer_frame r f
      (changeTask f.number (fun u => { u with kind := .fetch r }) (takenOver r victim tag p s))
    exact ⟨k, n, by rw [hjudge]; rfl⟩

end

/-! ## The gates of a FETCH through a takeover (R104, R120) -/

/-- What the gates of a FETCH read of an order: its loading point, and of each line what is loaded and wanted. -/
def gateView (o : Order) : Option Nat × List (Nat × Nat) := (o.point, o.lines.map fun l => (l.loaded, l.item.quantity))

theorem gateView_changeLine {o : Order} {f : OrderLine → OrderLine} (hl : ∀ l, (f l).loaded = l.loaded)
    (hq : ∀ l, (f l).item = l.item) (n committed : Nat) :
    gateView { o with lines := changeNth o.lines n f, committed := committed } = gateView o := by
  refine Prod.ext rfl (List.ext_getElem? fun i => ?_)
  show ((changeNth o.lines n f).map fun l => (l.loaded, l.item.quantity))[i]? =
    (o.lines.map fun l => (l.loaded, l.item.quantity))[i]?
  unfold changeNth
  split_ifs
  · rfl
  · rw [List.getElem?_map, List.getElem?_map, List.getElem?_modify]
    by_cases h : n - 1 = i <;> cases o.lines[i]? <;> simp [h, hl, hq]

theorem gateView_served (line mass : Nat) (o : Order) : gateView (served line mass o) = gateView o :=
  gateView_changeLine (f := fun l => { l with allocated := l.allocated + 1 }) (fun _ => rfl) (fun _ => rfl) line _

theorem gateView_robbed (line mass : Nat) (o : Order) : gateView (robbed line mass o) = gateView o :=
  gateView_changeLine (f := fun l => { l with allocated := l.allocated - 1, starved := false }) (fun _ => rfl)
    (fun _ => rfl) line _

theorem get_update_view {β : Type} (view : Order → β) {f : Order → Order} (hf : ∀ o, view (f o) = view o)
    (t : Table Order) (k n : Nat) : (Table.get (Table.update t k f) n).map view = (Table.get t n).map view := by
  by_cases h : n = k
  · subst h
    rw [Table.get_update_self, Option.map_map]
    exact congrArg (fun g => (Table.get t n).map g) (funext hf)
  · rw [Table.get_update_other _ _ h]

theorem gatesOpen_congr {s t : State} {r : LineRef} {tag : Nat} (hlines : t.lines = s.lines)
    (hmoving : movingAbove t tag = movingAbove s tag)
    (hview : (Table.get t.orders r.handle).map gateView = (Table.get s.orders r.handle).map gateView) :
    gatesOpen t r tag = gatesOpen s r tag := by
  have hgates (u : State) (o : Order) :
      (!movingAbove u tag && truckPresent u o && (o.lines.take (r.line - 1)).all OrderLine.full) =
        (!movingAbove u tag && (match (gateView o).1 with
            | none => false
            | some p => (u.lines.getD (p + 2) ⟨false, none⟩).active) &&
          ((gateView o).2.take (r.line - 1)).all fun x => decide (x.1 = x.2)) := by
    rw [gateView, ← List.map_take, List.all_map]
    rfl
  unfold gatesOpen State.order
  cases ht : Table.get t.orders r.handle with
  | none =>
    cases hs : Table.get s.orders r.handle with
    | none => rfl
    | some o => simp [ht, hs] at hview
  | some o =>
    cases hs : Table.get s.orders r.handle with
    | none => simp [ht, hs] at hview
    | some o' =>
      have hsame : gateView o = gateView o' := by simpa [ht, hs] using hview
      show (!movingAbove t tag && truckPresent t o && (o.lines.take (r.line - 1)).all OrderLine.full) =
        (!movingAbove s tag && truckPresent s o' && (o'.lines.take (r.line - 1)).all OrderLine.full)
      rw [hgates, hgates, hsame, hmoving, hlines]

theorem gatesOpen_takenOver (r victim : LineRef) (tag : Nat) (p : Pack) (s : State) (f : Machine.Task) :
    gatesOpen (changeTask f.number (fun u => { u with kind := .fetch r }) (takenOver r victim tag p s)) r tag =
      gatesOpen s r tag := by
  refine gatesOpen_congr rfl (movingAbove_change (f := fun n q => if n = tag then { q with reservation := some r } else q)
    rfl (fun n q => ?_) (fun n q => ?_) tag) ?_
  · split <;> rfl
  · split <;> rfl
  · have hserved := get_update_view gateView (f := served r.line p.mass)
      (gateView_served r.line p.mass)
      (Table.update s.orders victim.handle (robbed victim.line p.mass)) r.handle r.handle
    have hrobbed := get_update_view gateView (f := robbed victim.line p.mass)
      (gateView_robbed victim.line p.mass) s.orders victim.handle r.handle
    exact hserved.trans hrobbed

section
variable {r victim : LineRef} {tag : Nat} {p : Pack} {s : State} {f : Machine.Task}

theorem takeOver_keepsOffer (hv : p.reservation = some victim) (hf : fetchOf s tag = some f)
    (hkeep : f.state ≠ .offered ∨ gatesOpen s r tag = true) :
    takeOver r tag p s =
      post .reservationTaken (changeTask f.number (fun u => { u with kind := .fetch r }) (takenOver r victim tag p s)) := by
  have hsubject : f.subject = tag := by
    have h := List.find?_some hf
    simp only [Bool.and_eq_true, decide_eq_true_eq] at h
    exact h.1
  rw [takeOver_some hv hf, judgeOffer, if_neg]
  rw [hsubject, gatesOpen_takenOver]
  rintro ⟨hoffered, hshut⟩
  rcases hkeep with h | h
  · exact h hoffered
  · simp [hshut] at h

theorem takeOver_withdrawsOffer (hv : p.reservation = some victim) (hf : fetchOf s tag = some f)
    (hoffered : f.state = .offered) (hshut : gatesOpen s r tag = false) :
    takeOver r tag p s =
      post .reservationTaken
        (dismiss f.station
          (changeTask f.number (Task.toOpen f.lapsed)
            (changeTask f.number (fun u => { u with kind := .fetch r }) (takenOver r victim tag p s)))) := by
  have hsubject : f.subject = tag := by
    have h := List.find?_some hf
    simp only [Bool.and_eq_true, decide_eq_true_eq] at h
    exact h.1
  rw [takeOver_some hv hf, judgeOffer, if_pos]
  rw [hsubject, gatesOpen_takenOver]
  exact ⟨hoffered, hshut⟩

end

/-- Two changes of one task that leave its number, in one. -/
theorem map_changeTask_twice {tasks : List Machine.Task} {n : Nat} {f g : Machine.Task → Machine.Task}
    (hf : ∀ t, (f t).number = t.number) :
    ((tasks.map fun t => if t.number = n then f t else t).map fun t => if t.number = n then g t else t) =
      tasks.map fun t => if t.number = n then g (f t) else t := by
  rw [List.map_map]
  refine List.map_congr_left fun t _ => ?_
  by_cases h : t.number = n <;> simp [h, hf]

/-- Settles O43: `reserve_digs`, and the records of a takeover. -/
theorem aReservationDigsFromTheTop : Obligations.AReservationDigsFromTheTop := by
  refine ⟨reserve_digs, fun r victim tag p s t hv ht => ?_⟩
  obtain ⟨k, n, hframe⟩ := takeOver_frame (r := r) (tag := tag) (s := s) hv
  rw [hframe] at ht
  refine ⟨by rw [ht]; rfl, by rw [ht]; rfl, by rw [ht]; rfl, by rw [ht, holds_post], fun f hf =>
    ⟨fun hkeep => ?_, fun hoffered hshut => ?_⟩⟩
  · rw [ht, ← hframe, takeOver_keepsOffer hv hf hkeep]
    exact ⟨rfl, rfl⟩
  · rw [ht, ← hframe, takeOver_withdrawsOffer hv hf hoffered hshut, dismiss_eq]
    refine ⟨?_, ?_⟩
    · exact map_changeTask_twice (g := Task.toOpen f.lapsed) fun _ => rfl
    · show dismissed f.station s.stations = _
      cases f.station <;> rfl

end Sys2Proof.Proofs
end

section
/-!
PROOFS. The laws that tie packs, tasks, stations and orders together (R31, R36, R37, R66, R67, R119), read from what
each tag and each handle names: what a change of one record has to show for them.
-/

namespace Sys2Proof.Proofs

open Sys2Proof.Machine Sys2Proof.Safety

/-! ## A record apart from its exact place -/

/-- The record with its place in the stack and its wetted mark left out: what the laws of tasks and counts see. -/
def aside (p : Pack) : Pack := { p with wetted := false, location := p.location.map fun _ => ⟨0, 0, 0⟩ }

/-- A pack that a task moves: RESERVED, MOVING or LIFTED (R37). -/
def atWork (p : Pack) : Prop := p.state = .reserved ∨ p.state = .moving ∨ p.state = .lifted

/-- What laws 3 and 5 say of a record by itself (R31, R37). -/
structure Shaped (p : Pack) : Prop where
  place : p.location.isSome = true ↔
    p.state = .stored ∨ p.state = .reserved ∨ p.state = .moving ∨ p.hold = some .damaged
  hold : p.hold.isSome = true ↔ p.state = .held
  task : p.state = .stored ∨ p.state = .loaded ∨ p.state = .held → p.task = none
  reservation : p.state = .stored ∨ p.state = .moving ∨ p.state = .held → p.reservation = none
  loaded : p.state = .loaded → p.reservation.isSome = true

theorem aside_eq {p q : Pack} (h : aside q = aside p) :
    q.state = p.state ∧ q.reservation = p.reservation ∧ q.task = p.task ∧ q.hold = p.hold ∧ q.mass = p.mass ∧
      q.location.isSome = p.location.isSome := by
  simp only [aside, Pack.mk.injEq] at h
  obtain ⟨-, -, -, hmass, -, -, -, hstate, hloc, hres, htask, hhold⟩ := h
  refine ⟨hstate, hres, htask, hhold, hmass, ?_⟩
  simpa only [Option.isSome_map] using congrArg Option.isSome hloc

theorem shaped_of_aside {p q : Pack} (h : aside q = aside p) (hp : Shaped p) : Shaped q := by
  obtain ⟨hstate, hres, htask, hhold, -, hloc⟩ := aside_eq h
  constructor
  · rw [hloc, hstate, hhold]; exact hp.place
  · rw [hhold, hstate]; exact hp.hold
  · rw [hstate, htask]; exact hp.task
  · rw [hstate, hres]; exact hp.reservation
  · rw [hstate, hres]; exact hp.loaded

theorem subjectFits_of_aside {t : Machine.Task} {p q : Pack} (h : aside q = aside p) (hp : subjectFits t p) :
    subjectFits t q := by
  obtain ⟨hstate, hres, -⟩ := aside_eq h
  unfold subjectFits at hp ⊢
  rw [hstate, hres]
  exact hp

/-! ## Packs and tasks -/

/-- Packs and tasks name each other (R31, R37, R117). -/
structure Tied (packs : Table Pack) (tasks : List Machine.Task) : Prop where
  numbers : (tasks.map Machine.Task.number).Nodup
  range : ∀ t ∈ tasks, 1 ≤ t.number ∧ t.number ≤ Config.taskCapacity
  subject : ∀ t ∈ tasks, ∃ p, Table.get packs t.subject = some p ∧ p.task = some t.number ∧ subjectFits t p
  shaped : ∀ k p, Table.get packs k = some p → Shaped p
  owner : ∀ k p, Table.get packs k = some p → atWork p → ∃ t ∈ tasks, t.subject = k ∧ p.task = some t.number

theorem tied_iff {s : State} (hr : Table.rising s.packs) : Tied s.packs s.tasks ↔ placeLaw s ∧ linkLaw s := by
  constructor
  · intro h
    refine ⟨fun e he => ?_, h.numbers, fun t ht => ?_, fun e he => ?_⟩
    · have := h.shaped _ _ (Table.get_of_mem hr he)
      exact ⟨this.place, this.hold⟩
    · obtain ⟨p, hp, hfits⟩ := h.subject t ht
      obtain ⟨hlow, hhigh⟩ := h.range t ht
      exact ⟨hlow, hhigh, _, Table.mem_of_get hp, rfl, hfits⟩
    · have hget := Table.get_of_mem hr he
      have := h.shaped _ _ hget
      exact ⟨h.owner _ _ hget, this.task, this.reservation, this.loaded⟩
  · rintro ⟨hplace, hnumbers, htasks, hpacks⟩
    refine ⟨hnumbers, fun t ht => ?_, fun t ht => ?_, fun k p hp => ?_, fun k p hp => ?_⟩
    · obtain ⟨hlow, hhigh, -⟩ := htasks t ht
      exact ⟨hlow, hhigh⟩
    · obtain ⟨-, -, e, he, hsubject, hfits⟩ := htasks t ht
      exact ⟨e.2, hsubject ▸ Table.get_of_mem hr he, hfits⟩
    · obtain ⟨hloc, hhold⟩ := hplace _ (Table.mem_of_get hp)
      obtain ⟨-, htask, hres, hloaded⟩ := hpacks _ (Table.mem_of_get hp)
      exact ⟨hloc, hhold, htask, hres, hloaded⟩
    · obtain ⟨howner, -⟩ := hpacks _ (Table.mem_of_get hp)
      exact howner

section
variable {packs packs' : Table Pack} {tasks tasks' : List Machine.Task} {t u : Machine.Task} {k m : Nat} {p : Pack}

theorem eq_of_number (h : (tasks.map Machine.Task.number).Nodup) (ht : t ∈ tasks) (hu : u ∈ tasks)
    (he : t.number = u.number) : t = u := List.inj_on_of_nodup_map h ht hu he

theorem Tied.eq_of_number (h : Tied packs tasks) (ht : t ∈ tasks) (hu : u ∈ tasks) (he : t.number = u.number) :
    t = u := Proofs.eq_of_number h.numbers ht hu he

/-- A pack is the subject of one task alone (R37). -/
theorem Tied.eq_of_subject (h : Tied packs tasks) (ht : t ∈ tasks) (hu : u ∈ tasks) (he : t.subject = u.subject) :
    t = u := by
  obtain ⟨p, hp, hpt, -⟩ := h.subject t ht
  obtain ⟨q, hq, hqu, -⟩ := h.subject u hu
  rw [he, hq] at hp
  cases hp
  exact h.eq_of_number ht hu (Option.some.inj (hpt.symm.trans hqu))

theorem Tied.atWork_subject (h : Tied packs tasks) (ht : t ∈ tasks) (hp : Table.get packs t.subject = some p) :
    atWork p := by
  obtain ⟨q, hq, -, hfits⟩ := h.subject t ht
  cases hp.symm.trans hq
  unfold subjectFits at hfits
  split at hfits
  · obtain ⟨-, hstate⟩ := hfits
    split_ifs at hstate
    · exact Or.inr (Or.inr hstate)
    · exact Or.inl hstate
  · obtain ⟨-, hstate⟩ := hfits
    split_ifs at hstate
    · exact Or.inr (Or.inr hstate)
    · exact Or.inr (Or.inl hstate)
  · exact Or.inr (Or.inr hfits.2.1)

/-- A change of the pack under one tag and of the task with one number keeps packs and tasks tied, where that pack and
that task fit each other before and after. -/
theorem Tied.step (h : Tied packs tasks)
    (hothers : ∀ j, j ≠ k → (Table.get packs' j).map aside = (Table.get packs j).map aside)
    (htasks : ∀ u, u.number ≠ m → (u ∈ tasks' ↔ u ∈ tasks))
    (hnodup : (tasks'.map Machine.Task.number).Nodup)
    (hpack : ∀ p, Table.get packs k = some p → p.task = none ∨ p.task = some m)
    (htask : ∀ u ∈ tasks, u.number = m → u.subject = k)
    (hnew : ∀ u ∈ tasks', u.number = m → 1 ≤ m ∧ m ≤ Config.taskCapacity ∧ u.subject = k ∧
      ∃ p, Table.get packs' k = some p ∧ p.task = some m ∧ subjectFits u p)
    (hshape : ∀ p, Table.get packs' k = some p →
      Shaped p ∧ (atWork p → p.task = some m ∧ ∃ u ∈ tasks', u.number = m)) :
    Tied packs' tasks' := by
  refine ⟨hnodup, fun u hu => ?_, fun u hu => ?_, fun j p hp => ?_, fun j p hp hwork => ?_⟩
  · by_cases hm : u.number = m
    · obtain ⟨hlow, hhigh, -⟩ := hnew u hu hm
      rw [hm]
      exact ⟨hlow, hhigh⟩
    · exact h.range u ((htasks u hm).mp hu)
  · by_cases hm : u.number = m
    · obtain ⟨-, -, hsubject, p, hp, hpm, hfits⟩ := hnew u hu hm
      exact ⟨p, hsubject ▸ hp, hm ▸ hpm, hfits⟩
    · obtain ⟨p, hp, hpu, hfits⟩ := h.subject u ((htasks u hm).mp hu)
      have hk : u.subject ≠ k := fun hk => by
        rcases hpack p (hk ▸ hp) with hnone | hsome
        · rw [hnone] at hpu; cases hpu
        · exact hm (Option.some.inj (hpu.symm.trans hsome))
      have hmap := hothers _ hk
      rw [hp, Option.map_some, Option.map_eq_some_iff] at hmap
      obtain ⟨q, hq, hqp⟩ := hmap
      exact ⟨q, hq, (aside_eq hqp).2.2.1.trans hpu, subjectFits_of_aside hqp hfits⟩
  · by_cases hj : j = k
    · exact (hshape p (hj ▸ hp)).1
    · have hmap := hothers _ hj
      rw [hp, Option.map_some, eq_comm, Option.map_eq_some_iff] at hmap
      obtain ⟨q, hq, hqp⟩ := hmap
      exact shaped_of_aside hqp.symm (h.shaped j q hq)
  · by_cases hj : j = k
    · subst hj
      obtain ⟨hpm, u, hu, hum⟩ := (hshape p hp).2 hwork
      obtain ⟨-, -, hsubject, -⟩ := hnew u hu hum
      exact ⟨u, hu, hsubject, hum ▸ hpm⟩
    · have hmap := hothers _ hj
      rw [hp, Option.map_some, eq_comm, Option.map_eq_some_iff] at hmap
      obtain ⟨q, hq, hqp⟩ := hmap
      obtain ⟨hstate, -, hptask, -⟩ := aside_eq hqp
      have hqwork : atWork q := by unfold atWork at hwork ⊢; rwa [hstate]
      obtain ⟨u, hu, husubject, hqu⟩ := h.owner j q hq hqwork
      have hm : u.number ≠ m := fun hm => hj (husubject.symm.trans (htask u hu hm))
      exact ⟨u, (htasks u hm).mpr hu, husubject, hptask ▸ hqu⟩

end

/-! ## What stands above what -/

/-- The pack of one tag stands above that of the other, by where the tags stand. -/
def atop (at_ : Nat → Option Location) (upper lower : Nat) : Prop :=
  ∃ l m, at_ lower = some l ∧ at_ upper = some m ∧ m.bay = l.bay ∧ m.stack = l.stack ∧ l.tier < m.tier

/-- No two tags stand at one place. -/
def Apart (at_ : Nat → Option Location) : Prop := ∀ x y l, at_ x = some l → at_ y = some l → x = y

theorem not_atop_self (at_ : Nat → Option Location) (x : Nat) : ¬ atop at_ x x := by
  rintro ⟨l, m, hl, hm, -, -, hlt⟩
  rw [hl] at hm
  cases hm
  exact Nat.lt_irrefl _ hlt

theorem atop_iff {s : State} (hr : Table.rising s.packs) {e f : Nat × Pack} (he : e ∈ s.packs) (hf : f ∈ s.packs) :
    above f.2 e.2 = true ↔ atop (spot s.packs) f.1 e.1 := by
  unfold above atop
  rw [spot_of_mem hr he, spot_of_mem hr hf]
  cases he2 : e.2.location <;> cases hf2 : f.2.location <;> simp

theorem apart_of_tierLaw {s : State} (hr : Table.rising s.packs) (h : tierLaw s) : Apart (spot s.packs) := by
  rintro x y ⟨b, k, i⟩ hx hy
  exact (stacked_of_tierLaw hr h b k).2 x y i hx hy

/-- Of two tags in one stack one stands above the other. -/
theorem atop_or_atop {at_ : Nat → Option Location} (h : Apart at_) {x y : Nat} {l m : Location} (hx : at_ x = some l)
    (hy : at_ y = some m) (hbay : m.bay = l.bay) (hstack : m.stack = l.stack) (hne : x ≠ y) :
    atop at_ y x ∨ atop at_ x y := by
  rcases Nat.lt_trichotomy l.tier m.tier with hlt | heq | hlt
  · exact Or.inl ⟨l, m, hx, hy, hbay, hstack, hlt⟩
  · refine absurd (h x y l hx ?_) hne
    rw [hy]
    exact congrArg some (by cases l; cases m; simp_all)
  · exact Or.inr ⟨m, l, hy, hx, hbay.symm, hstack.symm, hlt⟩

/-- Where two packs stand above one pack, or above one another in turn, they share its stack. -/
theorem atop_linear {at_ : Nat → Option Location} (h : Apart at_) {x y z : Nat} (hx : atop at_ z x)
    (hy : atop at_ z y) (hne : x ≠ y) : atop at_ y x ∨ atop at_ x y := by
  obtain ⟨l, n, hl, hn, hbay, hstack, -⟩ := hx
  obtain ⟨m, n', hm, hn', hbay', hstack', -⟩ := hy
  rw [hn] at hn'
  cases hn'
  exact atop_or_atop h hl hm (hbay'.symm.trans hbay) (hstack'.symm.trans hstack) hne

theorem atop_leaves {at_ : Nat → Option Location} (h : Apart at_) {tag : Nat} {l : Location} (hl : at_ tag = some l)
    {i j : Nat} (hi : i ≠ tag) (hj : j ≠ tag) : atop (leaves at_ tag l) i j ↔ atop at_ i j := by
  have hfree : ∀ x m, x ≠ tag → at_ x = some m → ¬ (m.bay = l.bay ∧ m.stack = l.stack ∧ m.tier = l.tier) := by
    rintro x m hx hm ⟨hbay, hstack, htier⟩
    refine hx (h x tag l ?_ hl)
    rw [hm]
    exact congrArg some (by cases l; cases m; simp_all)
  unfold atop leaves
  rw [if_neg hi, if_neg hj]
  cases hai : at_ i with
  | none => simp
  | some a =>
    cases haj : at_ j with
    | none => simp
    | some b =>
      have ha := hfree i a hi hai
      have hb := hfree j b hj haj
      simp only [Option.map_some, Option.some.injEq, settled]
      split_ifs <;> grind

theorem not_atop_leaves_upper (at_ : Nat → Option Location) (tag : Nat) (l : Location) (j : Nat) :
    ¬ atop (leaves at_ tag l) tag j := by
  rintro ⟨-, m, -, hm, -⟩
  simp [leaves] at hm

theorem atop_congr {at_ at' : Nat → Option Location} {i j : Nat} (hi : at' i = at_ i) (hj : at' j = at_ j) :
    atop at' i j ↔ atop at_ i j := by unfold atop; rw [hi, hj]

theorem not_atop_of_lower_none {at_ : Nat → Option Location} {j : Nat} (h : at_ j = none) (i : Nat) :
    ¬ atop at_ i j := by
  rintro ⟨l, -, hl, -⟩
  rw [h] at hl
  cases hl

theorem not_atop_of_upper_none {at_ : Nat → Option Location} {i : Nat} (h : at_ i = none) (j : Nat) :
    ¬ atop at_ i j := by
  rintro ⟨-, m, -, hm, -⟩
  rw [h] at hm
  cases hm

/-! ## The digs -/

/-- The state of the pack with a tag. -/
def stateAt (packs : Table Pack) (tag : Nat) : Option PackState := (Table.get packs tag).map Pack.state

/-- Law 4 with what R120 makes of it, said of tags (R36). -/
structure Dug (packs : Table Pack) (tasks : List Machine.Task) : Prop where
  cover : ∀ i j, stateAt packs j = some .reserved → atop (spot packs) i j → stateAt packs i = some .moving
  shifts : ∀ t ∈ tasks, t.isFetch = false → t.state ≠ .lifted →
    ∃ j, t.kind = .shift j ∧ stateAt packs j = some .reserved ∧ atop (spot packs) t.subject j
  fetches : ∀ t ∈ tasks, t.isFetch = true → (t.state = .offered ∨ t.state = .accepted) →
    ∀ i, ¬ atop (spot packs) i t.subject

theorem stateAt_of_mem {s : State} (hr : Table.rising s.packs) {e : Nat × Pack} (he : e ∈ s.packs) :
    stateAt s.packs e.1 = some e.2.state := by rw [stateAt, Table.get_of_mem hr he]; rfl

theorem mem_of_spot {packs : Table Pack} {k : Nat} {l : Location} (h : spot packs k = some l) :
    ∃ p, (k, p) ∈ packs := by
  obtain ⟨p, hp, -⟩ := Option.bind_eq_some_iff.mp h
  exact ⟨p, Table.mem_of_get hp⟩

theorem mem_of_atop {packs : Table Pack} {i j : Nat} (h : atop (spot packs) i j) :
    (∃ p, (i, p) ∈ packs) ∧ ∃ q, (j, q) ∈ packs := by
  obtain ⟨l, m, hl, hm, -⟩ := h
  exact ⟨mem_of_spot hm, mem_of_spot hl⟩

theorem dug_iff {s : State} (hr : Table.rising s.packs) : Dug s.packs s.tasks ↔ digLaw s := by
  have hstate : ∀ {e : Nat × Pack} {st : PackState}, e ∈ s.packs → (stateAt s.packs e.1 = some st ↔ e.2.state = st) :=
    fun he => by rw [stateAt_of_mem hr he, Option.some.injEq]
  constructor
  · intro h
    refine ⟨fun e he hres f hf hab => ?_, fun t ht hfetch hlift => ?_, fun t ht hfetch hoff e he hsub f hf => ?_⟩
    · exact (hstate hf).mp (h.cover f.1 e.1 ((hstate he).mpr hres) ((atop_iff hr he hf).mp hab))
    · obtain ⟨j, hkind, hres, hover⟩ := h.shifts t ht hfetch hlift
      obtain ⟨⟨p, hp⟩, ⟨q, hq⟩⟩ := mem_of_atop hover
      exact ⟨(j, q), hq, hkind, (hstate hq).mp hres, (t.subject, p), hp, rfl, (atop_iff hr hq hp).mpr hover⟩
    · rw [← Bool.not_eq_true, atop_iff hr he hf, hsub]
      exact h.fetches t ht hfetch hoff f.1
  · rintro ⟨hcover, hshifts, hfetches⟩
    refine ⟨fun i j hj hover => ?_, fun t ht hfetch hlift => ?_, fun t ht hfetch hoff i hover => ?_⟩
    · obtain ⟨⟨p, hp⟩, ⟨q, hq⟩⟩ := mem_of_atop hover
      exact (hstate hp).mpr (hcover _ hq ((hstate hq).mp hj) _ hp ((atop_iff hr hq hp).mpr hover))
    · obtain ⟨e, he, hkind, hres, f, hf, hsub, hab⟩ := hshifts t ht hfetch hlift
      exact ⟨e.1, hkind, (hstate he).mpr hres, hsub ▸ (atop_iff hr he hf).mp hab⟩
    · obtain ⟨⟨p, hp⟩, ⟨q, hq⟩⟩ := mem_of_atop hover
      have := hfetches t ht hfetch hoff _ hq rfl _ hp
      rw [(atop_iff hr hq hp).mpr hover] at this
      cases this

theorem stateAt_of_aside {packs packs' : Table Pack} {j : Nat}
    (h : (Table.get packs' j).map aside = (Table.get packs j).map aside) : stateAt packs' j = stateAt packs j := by
  have := congrArg (Option.map Pack.state) h
  rwa [Option.map_map, Option.map_map] at this

/-- A change of the pack under one tag and of the task with one number keeps the digs, where that pack covers and is
covered as before, and the task serves what it should. -/
theorem Dug.step {packs packs' : Table Pack} {tasks tasks' : List Machine.Task} {k m : Nat} (h : Dug packs tasks)
    (hothers : ∀ j, j ≠ k → (Table.get packs' j).map aside = (Table.get packs j).map aside)
    (hover : ∀ i, i ≠ k → ∀ j, j ≠ k → (atop (spot packs') i j ↔ atop (spot packs) i j))
    (htasks : ∀ u ∈ tasks', u.number ≠ m → u ∈ tasks ∧ u.subject ≠ k)
    (hreserved : ∀ t ∈ tasks, t.isFetch = true → (t.state = .offered ∨ t.state = .accepted) →
      stateAt packs t.subject = some .reserved)
    (hunder : stateAt packs' k = some .reserved → ∀ i, i ≠ k → atop (spot packs') i k → stateAt packs i = some .moving)
    (habove : ∀ j, j ≠ k → stateAt packs j = some .reserved → atop (spot packs') k j →
      atop (spot packs) k j ∧ stateAt packs' k = some .moving)
    (hserved : stateAt packs k = some .reserved → ∀ i, i ≠ k → atop (spot packs) i k →
      stateAt packs' k = some .reserved ∧ atop (spot packs') i k)
    (hnew : ∀ u ∈ tasks', u.number = m →
      (u.isFetch = false → u.state ≠ .lifted →
        ∃ j, u.kind = .shift j ∧ stateAt packs' j = some .reserved ∧ atop (spot packs') u.subject j) ∧
      (u.isFetch = true → (u.state = .offered ∨ u.state = .accepted) → ∀ i, ¬ atop (spot packs') i u.subject)) :
    Dug packs' tasks' := by
  have hstate : ∀ j, j ≠ k → stateAt packs' j = stateAt packs j := fun j hj => stateAt_of_aside (hothers j hj)
  refine ⟨fun i j hj hij => ?_, fun u hu hfetch hlift => ?_, fun u hu hfetch hoff i hi => ?_⟩
  · by_cases hjk : j = k
    · subst hjk
      have hik : i ≠ j := fun e => not_atop_self _ _ (e ▸ hij)
      rw [hstate i hik]
      exact hunder hj i hik hij
    · rw [hstate j hjk] at hj
      by_cases hik : i = k
      · subst hik
        exact (habove j hjk hj hij).2
      · rw [hstate i hik]
        exact h.cover i j hj ((hover i hik j hjk).mp hij)
  · by_cases hm : u.number = m
    · exact (hnew u hu hm).1 hfetch hlift
    · obtain ⟨hin, huk⟩ := htasks u hu hm
      obtain ⟨j, hkind, hj, hij⟩ := h.shifts u hin hfetch hlift
      by_cases hjk : j = k
      · subst hjk
        obtain ⟨hres, hov⟩ := hserved hj u.subject huk hij
        exact ⟨j, hkind, hres, hov⟩
      · exact ⟨j, hkind, by rw [hstate j hjk, hj], (hover _ huk _ hjk).mpr hij⟩
  · by_cases hm : u.number = m
    · exact (hnew u hu hm).2 hfetch hoff i hi
    · obtain ⟨hin, huk⟩ := htasks u hu hm
      refine h.fetches u hin hfetch hoff i ?_
      by_cases hik : i = k
      · subst hik
        exact (habove _ huk (hreserved u hin hfetch hoff) hi).1
      · exact (hover i hik _ huk).mp hi

/-! ## Stations -/

/-- A change of the task with one number and of one station keeps law 8, where the station's state follows from what it
then holds. -/
theorem stationLaw_step {s t : State} {m n : Nat} (h : stationLaw s)
    (hnodup : (t.tasks.map Machine.Task.number).Nodup)
    (htasks : ∀ u : Machine.Task, u.number ≠ m → (u ∈ t.tasks ↔ u ∈ s.tasks))
    (hstations : ∀ i, i ≠ n → t.station i = s.station i)
    (hfree : ∀ u ∈ s.tasks, u.number ≠ m → u.station ≠ some n)
    (hold : ∀ u ∈ s.tasks, u.number = m → ∀ i ∈ u.station, i = n)
    (hnew : ∀ u ∈ t.tasks, u.number = m → (u.state = .opened ↔ u.station = none) ∧
      ∀ i ∈ u.station, i = n ∧ n ≤ Config.stationCount ∧ (t.station n).isSome = true)
    (hat : n ≤ Config.stationCount → ∀ st ∈ t.station n, stationAgrees t n st) : stationLaw t := by
  obtain ⟨hheld, hone, hagree⟩ := h
  have hholds : ∀ u ∈ t.tasks, ∀ v ∈ t.tasks, u.number = m → v.number ≠ m → u.station ≠ none →
      u.station ≠ v.station := by
    intro u hu v hv hum hvm hsome he
    obtain ⟨i, hi⟩ := Option.ne_none_iff_exists'.mp hsome
    obtain ⟨hin, -⟩ := (hnew u hu hum).2 i hi
    exact hfree v ((htasks v hvm).mp hv) hvm (by rw [← he, hi, hin])
  refine ⟨fun u hu => ?_, fun u hu v hv hsome he => ?_, fun i hi st hst => ?_⟩
  · by_cases hum : u.number = m
    · obtain ⟨hopen, hst⟩ := hnew u hu hum
      refine ⟨hopen, fun i hi => ?_⟩
      obtain ⟨rfl, hle, hsome⟩ := hst i hi
      exact ⟨hle, hsome⟩
    · obtain ⟨hopen, hst⟩ := hheld u ((htasks u hum).mp hu)
      refine ⟨hopen, fun i hi => ?_⟩
      have hin : i ≠ n := fun e => hfree u ((htasks u hum).mp hu) hum (e ▸ hi)
      rw [hstations i hin]
      exact hst i hi
  · by_cases hum : u.number = m <;> by_cases hvm : v.number = m
    · exact eq_of_number hnodup hu hv (hum.trans hvm.symm)
    · exact absurd he (hholds u hu v hv hum hvm hsome)
    · exact absurd he.symm (hholds v hv u hu hvm hum (he ▸ hsome))
    · exact hone u ((htasks u hum).mp hu) v ((htasks v hvm).mp hv) hsome he
  · by_cases hin : i = n
    · subst hin
      exact hat hi st hst
    · rw [hstations i hin] at hst
      have hkept : ∀ u : Machine.Task, u.station = some i → (u ∈ t.tasks ↔ u ∈ s.tasks) := by
        intro u hui
        by_cases hum : u.number = m
        · exact ⟨fun hu => absurd ((hnew u hu hum).2 i hui).1 hin, fun hu => absurd (hold u hu hum i hui) hin⟩
        · exact htasks u hum
      obtain ⟨hcap, hfreeAt, hoffered, hbusy⟩ := hagree i hi st hst
      refine ⟨hcap, fun hidle u hu hui => hfreeAt hidle u ((hkept u hui).mp hu) hui, fun ho => ?_, fun hb => ?_⟩
      · obtain ⟨u, hu, hui, hstate⟩ := hoffered ho
        exact ⟨u, (hkept u hui).mpr hu, hui, hstate⟩
      · obtain ⟨u, hu, hui, hstate⟩ := hbusy hb
        exact ⟨u, (hkept u hui).mpr hu, hui, hstate⟩

theorem stationLaw_congr {s t : State} (htasks : t.tasks = s.tasks)
    (hstations : t.stations = s.stations) (h : stationLaw s) : stationLaw t := by
  unfold stationLaw stationAgrees State.station at *
  rw [htasks, hstations]
  exact h

end Sys2Proof.Proofs
end

section
/-!
PROOFS. Changes of one pack: what such a change leaves as it was, and what it does to the sums over the Pack Table that
the orders' counts are (R8, R66, R67).
-/

namespace Sys2Proof.Proofs

open Sys2Proof.Machine Sys2Proof.Safety

/-! ## Sums over the Pack Table -/

/-- The sum of a weight over the records of a table. -/
def tally (w : Pack → Nat) (packs : Table Pack) : Nat := (packs.map fun e => w e.2).sum

/-- The weight of the record with a tag. -/
def weighAt (w : Pack → Nat) (packs : Table Pack) (k : Nat) : Nat := ((Table.get packs k).map w).getD 0

/-- The weight does not depend on the exact place of a pack or on its wetted mark. -/
def Blind (w : Pack → Nat) : Prop := ∀ p q, aside q = aside p → w q = w p

theorem tally_erase (w : Pack → Nat) {packs : Table Pack} (hr : Table.rising packs) (k : Nat) :
    tally w (Table.erase packs k) + weighAt w packs k = tally w packs := by
  induction packs with
  | nil => rfl
  | cons e t ih =>
    obtain ⟨hhead, htail⟩ := List.pairwise_cons.mp hr
    have ih := ih htail
    obtain ⟨j, p⟩ := e
    unfold tally weighAt Table.erase at *
    rw [Table.get_cons]
    by_cases hj : j = k
    · have hnot : Table.get t k = none := Table.get_eq_none t fun hk => by
        obtain ⟨q, hq⟩ := mem_keys.mp hk
        exact Nat.lt_irrefl _ (hj ▸ hhead _ hq)
      rw [hnot, Option.map_none, Option.getD_none, Nat.add_zero] at ih
      rw [List.filter_cons_of_neg (by simp [hj]), ih, if_pos hj, Option.map_some, Option.getD_some, Nat.add_comm]
      rfl
    · rw [List.filter_cons_of_pos (by simp [hj]), if_neg hj, List.map_cons, List.map_cons, List.sum_cons,
        List.sum_cons, Nat.add_assoc, ih]

theorem tally_change_of_blind {w : Pack → Nat} (hw : Blind w) {f : Nat → Pack → Pack}
    (hf : ∀ k p, aside (f k p) = aside p) (packs : Table Pack) : tally w (Table.change packs f) = tally w packs := by
  simp only [tally, Table.change, List.map_map, Function.comp_def]
  exact congrArg List.sum (List.map_congr_left fun e _ => hw _ _ (hf _ _))

theorem erase_update (packs : Table Pack) (k : Nat) (f : Pack → Pack) :
    Table.erase (Table.update packs k f) k = Table.erase packs k := by
  induction packs with
  | nil => rfl
  | cons e t ih =>
    unfold Table.erase Table.update Table.change at *
    by_cases he : e.1 = k <;> simp [he] at ih ⊢ <;> exact ih

theorem erase_put (packs : Table Pack) (k : Nat) (p : Pack) :
    Table.erase (Table.put packs k p) k = Table.erase packs k := by
  induction packs with
  | nil => simp [Table.put, Table.erase]
  | cons e t ih =>
    obtain ⟨j, q⟩ := e
    unfold Table.put
    split_ifs with hlt heq
    · simp [Table.erase]
    · simp [Table.erase, heq]
    · unfold Table.erase at *
      simp only [List.filter_cons, ih]

theorem erase_change (packs : Table Pack) (k : Nat) (f : Nat → Pack → Pack) :
    Table.erase (Table.change packs f) k = Table.change (Table.erase packs k) f := by
  unfold Table.erase Table.change
  rw [List.filter_map]
  rfl

/-! ## A change of one pack -/

/-- The tables differ in the record with one tag alone, up to where exactly the others stand; and those stand above one
another as before. -/
structure AtOne (k : Nat) (a b : Table Pack) : Prop where
  others : ∀ j, j ≠ k → (Table.get b j).map aside = (Table.get a j).map aside
  atop : ∀ i, i ≠ k → ∀ j, j ≠ k → (atop (spot b) i j ↔ atop (spot a) i j)
  sums : ∀ w, Blind w → tally w (Table.erase b k) = tally w (Table.erase a k)

section
variable {k : Nat} {a b c : Table Pack} {s : State}

theorem AtOne.trans (h : AtOne k a b) (h' : AtOne k b c) : AtOne k a c where
  others j hj := (h'.others j hj).trans (h.others j hj)
  atop i hi j hj := (h'.atop i hi j hj).trans (h.atop i hi j hj)
  sums w hw := (h'.sums w hw).trans (h.sums w hw)

theorem atOne_of_get (hget : ∀ j, j ≠ k → Table.get b j = Table.get a j)
    (herase : Table.erase b k = Table.erase a k) : AtOne k a b where
  others j hj := congrArg _ (hget j hj)
  atop i hi j hj := atop_congr (congrArg (Option.bind · _) (hget i hi)) (congrArg (Option.bind · _) (hget j hj))
  sums w _ := congrArg (tally w) herase

theorem atOne_refl (k : Nat) (a : Table Pack) : AtOne k a a := atOne_of_get (fun _ _ => rfl) rfl

theorem atOne_update (k : Nat) (a : Table Pack) (f : Pack → Pack) : AtOne k a (Table.update a k f) :=
  atOne_of_get (fun _ hj => Table.get_update_other a f hj) (erase_update a k f)

theorem atOne_put (k : Nat) (a : Table Pack) (p : Pack) : AtOne k a (Table.put a k p) :=
  atOne_of_get (fun _ hj => Table.get_put_other a p hj) (erase_put a k p)

theorem atOne_erase (k : Nat) (a : Table Pack) : AtOne k a (Table.erase a k) :=
  atOne_of_get (fun _ hj => get_erase_other a hj) (by simp [Table.erase])

theorem aside_settle (l : Location) (p : Pack) : aside (p.settle l) = aside p := by
  unfold Pack.settle
  split
  · rfl
  · rename_i m hm
    split_ifs
    · simp [aside, hm]
    · rfl

theorem unplaced_settle (l : Location) (p : Pack) :
    { p.settle l with location := none } = { p with location := none } := by
  unfold Pack.settle
  split
  · rfl
  · split_ifs <;> rfl

theorem packs_removeFromStack {tag : Nat} {l : Location} (h : spot s.packs tag = some l) :
    (removeFromStack tag s).packs =
      Table.update (Table.change s.packs fun _ p => p.settle l) tag fun p => { p with location := none } := by
  have hl : (Table.get s.packs tag).bind Pack.location = some l := h
  rw [removeFromStack, hl]

theorem get_removeFromStack_self (s : State) (tag : Nat) :
    Table.get (removeFromStack tag s).packs tag =
      (Table.get s.packs tag).map fun p => { p with location := none } := by
  cases hp : Table.get s.packs tag with
  | none =>
    have : spot s.packs tag = none := by rw [spot, hp]; rfl
    rw [removeFromStack_of_spot_none this, hp, Option.map_none]
  | some p =>
    cases hl : p.location with
    | none =>
      have : spot s.packs tag = none := by rw [spot, hp]; exact hl
      rw [removeFromStack_of_spot_none this, hp, Option.map_some, Option.some.injEq, ← hl]
    | some l =>
      have : spot s.packs tag = some l := by rw [spot, hp]; exact hl
      rw [packs_removeFromStack this, Table.get_update_self, Table.get_change, hp, Option.map_some, Option.map_some,
        unplaced_settle, Option.map_some]

theorem atOne_removeFromStack (hapart : Apart (spot s.packs)) (tag : Nat) :
    AtOne tag s.packs (removeFromStack tag s).packs := by
  cases hspot : spot s.packs tag with
  | none => rw [removeFromStack_of_spot_none hspot]; exact atOne_refl _ _
  | some l =>
    refine ⟨fun j hj => ?_, fun i hi j hj => ?_, fun w hw => ?_⟩
    · rw [packs_removeFromStack hspot, Table.get_update_other _ _ hj, Table.get_change, Option.map_map]
      exact Option.map_congr fun p _ => aside_settle l p
    · rw [← atop_leaves hapart hspot hi hj]
      exact atop_congr (spot_removeFromStack hspot i) (spot_removeFromStack hspot j)
    · rw [packs_removeFromStack hspot, erase_update, erase_change]
      exact tally_change_of_blind hw (fun _ p => aside_settle l p) _

theorem atOne_putDown (hapart : Apart (spot s.packs)) (bay stack tag : Nat) (f : Pack → Pack) :
    AtOne tag s.packs (putDown bay stack tag f s).packs := by
  rw [packs_putDown]
  exact (atOne_removeFromStack hapart tag).trans (atOne_update _ _ _)

theorem atOne_retirePack (hapart : Apart (spot s.packs)) (tag : Nat) :
    AtOne tag s.packs (retirePack tag s).packs :=
  (atOne_removeFromStack hapart tag).trans (atOne_erase _ _)

theorem AtOne.tally (h : AtOne k a b) (ha : Table.rising a) (hb : Table.rising b) {w : Pack → Nat} (hw : Blind w) :
    tally w b + weighAt w a k = tally w a + weighAt w b k := by
  have hfrom := tally_erase w ha k
  have hto := tally_erase w hb k
  have hsame := h.sums w hw
  omega

end

/-! ## The counts of an order -/

/-- One for a pack reserved for the line (R66). -/
def countsFor (r : LineRef) (p : Pack) : Nat := if p.reservation = some r then 1 else 0

/-- One for a pack that is LOADED for the line (R66). -/
def loadedFor (r : LineRef) (p : Pack) : Nat := if p.reservation = some r ∧ p.state = .loaded then 1 else 0

/-- The mass of a pack reserved for the order (R67). -/
def massFor (h : Nat) (p : Pack) : Nat := if p.reservation.map LineRef.handle = some h then p.mass else 0

/-- The counts of an order are those of the packs reserved for it (R66, R67). -/
def CountsAt (packs : Table Pack) (h : Nat) (o : Order) : Prop :=
  o.committed = tally (massFor h) packs ∧
    ∀ i l, nth o.lines i = some l →
      l.allocated = tally (countsFor ⟨h, i⟩) packs ∧ l.loaded = tally (loadedFor ⟨h, i⟩) packs

/-- Laws 6 and 7 as they tie counts to packs, said of tags and handles (R66, R67). -/
structure Counted (packs : Table Pack) (orders : Table Order) : Prop where
  live : ∀ k p r, Table.get packs k = some p → p.reservation = some r →
    ∃ o, Table.get orders r.handle = some o ∧ (nth o.lines r.line).isSome = true
  counts : ∀ h o, Table.get orders h = some o → CountsAt packs h o

theorem blind_countsFor (r : LineRef) : Blind (countsFor r) := fun p q h => by
  unfold countsFor
  rw [(aside_eq h).2.1]

theorem blind_loadedFor (r : LineRef) : Blind (loadedFor r) := fun p q h => by
  unfold loadedFor
  rw [(aside_eq h).1, (aside_eq h).2.1]

theorem blind_massFor (h : Nat) : Blind (massFor h) := fun p q hpq => by
  obtain ⟨-, hres, -, -, hmass, -⟩ := aside_eq hpq
  unfold massFor
  rw [hres, hmass]

theorem sum_ite_one {α : Type} (p : α → Prop) [DecidablePred p] (l : List α) :
    (l.map fun a => if p a then 1 else 0).sum = (l.filter fun a => decide (p a)).length := by
  induction l with
  | nil => rfl
  | cons a l ih => by_cases h : p a <;> simp [h, ih, Nat.add_comm]

theorem sum_ite {α : Type} (p : α → Prop) [DecidablePred p] (f : α → Nat) (l : List α) :
    (l.map fun a => if p a then f a else 0).sum = ((l.filter fun a => decide (p a)).map f).sum := by
  induction l with
  | nil => rfl
  | cons a l ih => by_cases h : p a <;> simp [h, ih]

theorem tally_countsFor (s : State) (r : LineRef) : tally (countsFor r) s.packs = (packsOfLine s r).length :=
  sum_ite_one (fun e : Nat × Pack => e.2.reservation = some r) s.packs

theorem tally_loadedFor (s : State) (r : LineRef) :
    tally (loadedFor r) s.packs = ((packsOfLine s r).filter fun e => decide (e.2.state = .loaded)).length := by
  rw [packsOfLine, List.filter_filter]
  refine (sum_ite_one (fun e : Nat × Pack => e.2.reservation = some r ∧ e.2.state = .loaded) s.packs).trans ?_
  simp only [Bool.decide_and, Bool.and_comm]

theorem tally_massFor (s : State) (h : Nat) :
    tally (massFor h) s.packs = ((packsOfOrder s h).map fun e => e.2.mass).sum :=
  sum_ite (fun e : Nat × Pack => e.2.reservation.map LineRef.handle = some h) (fun e => e.2.mass) s.packs

theorem nth_eq_some_iff {α : Type} {l : List α} {n : Nat} {a : α} :
    nth l n = some a ↔ ∃ i, n = i + 1 ∧ l[i]? = some a := by
  unfold nth
  split_ifs with hn
  · simp [hn]
  · constructor
    · exact fun h => ⟨n - 1, by omega, h⟩
    · rintro ⟨i, rfl, h⟩
      exact h

theorem countsAt_iff (s : State) (h : Nat) (o : Order) :
    CountsAt s.packs h o ↔ o.committed = ((packsOfOrder s h).map fun e => e.2.mass).sum ∧
      ∀ i, i < o.lines.length → ∀ l ∈ o.lines[i]?,
        l.allocated = (packsOfLine s ⟨h, i + 1⟩).length ∧
          l.loaded = ((packsOfLine s ⟨h, i + 1⟩).filter fun e => decide (e.2.state = .loaded)).length := by
  unfold CountsAt
  rw [tally_massFor]
  simp only [tally_countsFor, tally_loadedFor, nth_eq_some_iff]
  refine and_congr_right fun _ => ⟨fun hall i _ l hl => hall (i + 1) l ⟨i, rfl, hl⟩, ?_⟩
  rintro hall _ l ⟨i, rfl, hl⟩
  exact hall i (List.getElem?_eq_some_iff.mp hl).1 l hl

theorem counted_iff {s : State} (hk : keyLaw s) : Counted s.packs s.orders ↔ countLaw s := by
  obtain ⟨hr, ho⟩ := hk
  constructor
  · intro h
    refine ⟨fun e he r hres => ?_, fun o hmem => (countsAt_iff s o.1 o.2).mp (h.counts _ _ (Table.get_of_mem ho hmem))⟩
    obtain ⟨o, hget, hline⟩ := h.live e.1 e.2 r (Table.get_of_mem hr he) hres
    exact ⟨_, Table.mem_of_get hget, rfl, hline⟩
  · rintro ⟨hlive, hcounts⟩
    refine ⟨fun k p r hp hres => ?_, fun h o hget => (countsAt_iff s h o).mpr (hcounts _ (Table.mem_of_get hget))⟩
    obtain ⟨o, hmem, hhandle, hline⟩ := hlive _ (Table.mem_of_get hp) r hres
    exact ⟨o.2, hhandle ▸ Table.get_of_mem ho hmem, hline⟩

/-! ## What a change of one pack does to the counts -/

/-- What a record counts for: the line it is reserved for, its mass, and whether it is LOADED. -/
def burden (p : Pack) : Option (LineRef × Nat × Bool) :=
  p.reservation.map fun r => (r, p.mass, decide (p.state = .loaded))

/-- What the record with a tag counts for. -/
def burdenAt (packs : Table Pack) (k : Nat) : Option (LineRef × Nat × Bool) := (Table.get packs k).bind burden

theorem weighAt_countsFor (r : LineRef) (packs : Table Pack) (k : Nat) :
    weighAt (countsFor r) packs k = ((burdenAt packs k).map fun b => if b.1 = r then 1 else 0).getD 0 := by
  unfold weighAt burdenAt
  cases Table.get packs k with
  | none => rfl
  | some p =>
    simp only [Option.map_some, Option.getD_some, Option.bind_some, countsFor, burden]
    cases p.reservation <;> simp

theorem weighAt_loadedFor (r : LineRef) (packs : Table Pack) (k : Nat) :
    weighAt (loadedFor r) packs k =
      ((burdenAt packs k).map fun b => if b.1 = r ∧ b.2.2 = true then 1 else 0).getD 0 := by
  unfold weighAt burdenAt
  cases Table.get packs k with
  | none => rfl
  | some p =>
    simp only [Option.map_some, Option.getD_some, Option.bind_some, loadedFor, burden]
    cases p.reservation <;> simp

theorem weighAt_massFor (h : Nat) (packs : Table Pack) (k : Nat) :
    weighAt (massFor h) packs k = ((burdenAt packs k).map fun b => if b.1.handle = h then b.2.1 else 0).getD 0 := by
  unfold weighAt burdenAt
  cases Table.get packs k with
  | none => rfl
  | some p =>
    simp only [Option.map_some, Option.getD_some, Option.bind_some, massFor, burden]
    cases p.reservation <;> simp

/-- What the laws of counts see of an order. -/
def countView (o : Order) : Nat × List (Nat × Nat) := (o.committed, o.lines.map fun l => (l.allocated, l.loaded))

theorem countView_line {o o' : Order} (h : countView o' = countView o) (i : Nat) :
    (nth o'.lines i).map (fun l => (l.allocated, l.loaded)) = (nth o.lines i).map fun l => (l.allocated, l.loaded) := by
  rw [← nth_map, ← nth_map]
  exact congrArg (nth · i) (congrArg Prod.snd h)

theorem CountsAt.congr {packs : Table Pack} {h : Nat} {o o' : Order} (hv : countView o' = countView o)
    (hc : CountsAt packs h o) : CountsAt packs h o' := by
  refine ⟨(congrArg Prod.fst hv).trans hc.1, fun i l hl => ?_⟩
  have hline := countView_line hv i
  rw [hl, Option.map_some, eq_comm, Option.map_eq_some_iff] at hline
  obtain ⟨l', hl', he⟩ := hline
  obtain ⟨hal, hlo⟩ := hc.2 i l' hl'
  exact ⟨(congrArg Prod.fst he).symm.trans hal, (congrArg Prod.snd he).symm.trans hlo⟩

theorem Counted.congr_orders {packs : Table Pack} {orders orders' : Table Order} (h : Counted packs orders)
    (hv : ∀ n, (Table.get orders' n).map countView = (Table.get orders n).map countView) : Counted packs orders' := by
  refine ⟨fun k p r hp hres => ?_, fun n o hget => ?_⟩
  · obtain ⟨o, ho, hline⟩ := h.live k p r hp hres
    have hn := hv r.handle
    rw [ho, Option.map_some, Option.map_eq_some_iff] at hn
    obtain ⟨o', ho', he⟩ := hn
    refine ⟨o', ho', ?_⟩
    simpa only [Option.isSome_map, hline] using congrArg Option.isSome (countView_line he r.line)
  · have hn := hv n
    rw [hget, Option.map_some, eq_comm, Option.map_eq_some_iff] at hn
    obtain ⟨o', ho', he⟩ := hn
    exact (h.counts n o' ho').congr he.symm

section
variable {k : Nat} {a b : Table Pack} {orders : Table Order} {r : LineRef} {mass : Nat} {h : Nat} {o : Order}

/-- An order counts as before where the changed pack counts as before for it. -/
theorem CountsAt.same (hat : AtOne k a b) (ha : Table.rising a) (hb : Table.rising b)
    (hm : weighAt (massFor h) b k = weighAt (massFor h) a k)
    (hc : ∀ i, weighAt (countsFor ⟨h, i⟩) b k = weighAt (countsFor ⟨h, i⟩) a k)
    (hl : ∀ i, weighAt (loadedFor ⟨h, i⟩) b k = weighAt (loadedFor ⟨h, i⟩) a k)
    (hcounts : CountsAt a h o) : CountsAt b h o := by
  obtain ⟨hmass, hlines⟩ := hcounts
  refine ⟨?_, fun i l hli => ?_⟩
  · have := hat.tally ha hb (blind_massFor h)
    omega
  · obtain ⟨hal, hlo⟩ := hlines i l hli
    have h1 := hat.tally ha hb (blind_countsFor ⟨h, i⟩)
    have h2 := hat.tally ha hb (blind_loadedFor ⟨h, i⟩)
    have := hc i
    have := hl i
    exact ⟨by omega, by omega⟩

/-- The counts stand where the changed pack counts for what it did. -/
theorem Counted.same (hat : AtOne k a b) (ha : Table.rising a) (hb : Table.rising b)
    (he : burdenAt b k = burdenAt a k) (hcounts : Counted a orders) : Counted b orders := by
  refine ⟨fun j p r hp hres => ?_, fun n o ho => ?_⟩
  · by_cases hj : j = k
    · subst hj
      rw [burdenAt, hp, burdenAt, Option.bind_some, burden, hres, Option.map_some] at he
      obtain ⟨q, hq, hqb⟩ := Option.bind_eq_some_iff.mp he.symm
      obtain ⟨v, hv, hvr⟩ := Option.map_eq_some_iff.mp hqb
      exact hcounts.live j q r hq (hv.trans (congrArg some (congrArg Prod.fst hvr)))
    · have hmap := hat.others j hj
      rw [hp, Option.map_some, eq_comm, Option.map_eq_some_iff] at hmap
      obtain ⟨q, hq, hqp⟩ := hmap
      exact hcounts.live j q r hq ((aside_eq hqp).2.1.trans hres)
  · refine CountsAt.same hat ha hb ?_ (fun i => ?_) (fun i => ?_) (hcounts.counts n o ho)
    · rw [weighAt_massFor, weighAt_massFor, he]
    · rw [weighAt_countsFor, weighAt_countsFor, he]
    · rw [weighAt_loadedFor, weighAt_loadedFor, he]

/-- A change of the pack and of the order it counts for, before or after: the other orders count as before. -/
theorem Counted.step {f : Order → Order} (hat : AtOne k a b) (ha : Table.rising a) (hb : Table.rising b)
    (hfrom : ∀ c, burdenAt a k = some c → c.1.handle = h) (hto : ∀ c, burdenAt b k = some c → c.1.handle = h)
    (hlive : ∀ c o, burdenAt b k = some c → Table.get orders h = some o → (nth o.lines c.1.line).isSome = true)
    (hthere : burdenAt b k ≠ none → ∃ o, Table.get orders h = some o)
    (hlines : ∀ o i, (nth (f o).lines i).isSome = (nth o.lines i).isSome)
    (hcount : ∀ o, Table.get orders h = some o → CountsAt a h o → CountsAt b h (f o))
    (hcounts : Counted a orders) : Counted b (Table.update orders h f) := by
  have hget : ∀ n i o, Table.get orders n = some o → (nth o.lines i).isSome = true →
      ∃ o', Table.get (Table.update orders h f) n = some o' ∧ (nth o'.lines i).isSome = true := by
    intro n i o ho hline
    by_cases hn : n = h
    · subst hn
      exact ⟨f o, by rw [Table.get_update_self, ho]; rfl, (hlines o i).trans hline⟩
    · exact ⟨o, by rw [Table.get_update_other _ _ hn, ho], hline⟩
  refine ⟨fun j p r hp hres => ?_, fun n o ho => ?_⟩
  · by_cases hj : j = k
    · subst hj
      have hbur : burdenAt b j = some (r, p.mass, decide (p.state = .loaded)) := by
        rw [burdenAt, hp, Option.bind_some, burden, hres, Option.map_some]
      obtain ⟨o, ho⟩ := hthere (by rw [hbur]; simp)
      have hhandle : r.handle = h := hto _ hbur
      rw [hhandle]
      exact hget h r.line o ho (hlive _ o hbur ho)
    · have hmap := hat.others j hj
      rw [hp, Option.map_some, eq_comm, Option.map_eq_some_iff] at hmap
      obtain ⟨q, hq, hqp⟩ := hmap
      obtain ⟨o, ho, hline⟩ := hcounts.live j q r hq ((aside_eq hqp).2.1.trans hres)
      exact hget _ _ o ho hline
  · by_cases hn : n = h
    · subst hn
      rw [Table.get_update_self, Option.map_eq_some_iff] at ho
      obtain ⟨o', ho', rfl⟩ := ho
      exact hcount o' ho' (hcounts.counts n o' ho')
    · rw [Table.get_update_other _ _ hn] at ho
      have hzero : ∀ {packs : Table Pack} {g : LineRef × Nat × Bool → Nat},
          (∀ c, burdenAt packs k = some c → c.1.handle = h) → (∀ c, c.1.handle = h → g c = 0) →
          ((burdenAt packs k).map g).getD 0 = 0 := by
        intro packs g hc hg
        cases hbur : burdenAt packs k with
        | none => rfl
        | some c => exact hg c (hc c hbur)
      have hne : ∀ c : LineRef × Nat × Bool, c.1.handle = h → ∀ i, c.1 ≠ ⟨n, i⟩ := by
        rintro c rfl i hci
        exact hn (congrArg LineRef.handle hci).symm
      refine CountsAt.same hat ha hb ?_ (fun i => ?_) (fun i => ?_) (hcounts.counts n o ho)
      · rw [weighAt_massFor, weighAt_massFor, hzero hto fun c hc => if_neg fun e => hn (e.symm.trans hc),
          hzero hfrom fun c hc => if_neg fun e => hn (e.symm.trans hc)]
      · rw [weighAt_countsFor, weighAt_countsFor, hzero hto fun c hc => if_neg (hne c hc i),
          hzero hfrom fun c hc => if_neg (hne c hc i)]
      · rw [weighAt_loadedFor, weighAt_loadedFor, hzero hto fun c hc => if_neg fun e => hne c hc i e.1,
          hzero hfrom fun c hc => if_neg fun e => hne c hc i e.1]

/-- An order whose line lost a pack. -/
def lowered (line mass : Nat) (o : Order) : Order :=
  { o with
    lines := changeNth o.lines line fun l => { l with allocated := l.allocated - 1 }
    committed := o.committed - mass }

theorem lowerCounts_eq (r : LineRef) (mass : Nat) (s : State) :
    lowerCounts r mass s = changeOrder r.handle (lowered r.line mass) s := rfl

theorem raiseCounts_eq (r : LineRef) (mass : Nat) (s : State) :
    raiseCounts r mass s = changeOrder r.handle (served r.line mass) s := rfl

theorem isSome_nth {α : Type} {l l' : List α} (h : l'.length = l.length) (n : Nat) :
    (nth l' n).isSome = (nth l n).isSome := by
  unfold nth
  split_ifs
  · rfl
  · by_cases hn : n - 1 < l.length
    · rw [List.getElem?_eq_getElem hn, List.getElem?_eq_getElem (h ▸ hn)]
      rfl
    · rw [List.getElem?_eq_none (Nat.le_of_not_lt hn), List.getElem?_eq_none (h ▸ Nat.le_of_not_lt hn)]

/-- A line as one pack's change leaves it: the named line changed, the others as they were. -/
theorem nth_changeNth_eq_some {α : Type} {l : List α} {n i : Nat} {f : α → α} {x : α}
    (h : nth (changeNth l n f) i = some x) : (i = n ∧ ∃ y, nth l i = some y ∧ x = f y) ∨ (i ≠ n ∧ nth l i = some x) := by
  by_cases hi : i = n
  · subst hi
    rw [nth_changeNth_self, Option.map_eq_some_iff] at h
    obtain ⟨y, hy, he⟩ := h
    exact Or.inl ⟨rfl, y, hy, he.symm⟩
  · rw [nth_changeNth_of_ne l f hi] at h
    exact Or.inr ⟨hi, h⟩

/-- A release (R139): the pack counts for nothing any more, and its line's counts fall. -/
theorem Counted.lower (hat : AtOne k a b) (ha : Table.rising a) (hb : Table.rising b)
    (hfrom : burdenAt a k = some (r, mass, false)) (hto : burdenAt b k = none) (hcounts : Counted a orders) :
    Counted b (Table.update orders r.handle (lowered r.line mass)) := by
  refine Counted.step hat ha hb (fun c hc => ?_) (fun c hc => ?_) (fun c o hc => ?_) (fun hne => absurd hto hne)
    (fun o i => isSome_nth (length_changeNth _ _ _) i) (fun o _ hco => ?_) hcounts
  · cases hfrom.symm.trans hc; rfl
  · rw [hto] at hc; cases hc
  · rw [hto] at hc; cases hc
  · obtain ⟨hmass, hlines⟩ := hco
    refine ⟨?_, fun i l hl => ?_⟩
    · have := hat.tally ha hb (blind_massFor r.handle)
      rw [weighAt_massFor, weighAt_massFor, hfrom, hto] at this
      simp only [Option.map_some, Option.getD_some, if_true, Option.map_none, Option.getD_none] at this
      show o.committed - mass = _
      omega
    · have hc := hat.tally ha hb (blind_countsFor ⟨r.handle, i⟩)
      have hd := hat.tally ha hb (blind_loadedFor ⟨r.handle, i⟩)
      rw [weighAt_countsFor, weighAt_countsFor, hfrom, hto] at hc
      rw [weighAt_loadedFor, weighAt_loadedFor, hfrom, hto] at hd
      simp only [Option.map_some, Option.getD_some, Option.map_none, Option.getD_none, Bool.false_eq_true, and_false,
        if_false] at hc hd
      rcases nth_changeNth_eq_some hl with ⟨rfl, y, hy, rfl⟩ | ⟨hi, hy⟩
      · obtain ⟨hal, hlo⟩ := hlines _ y hy
        rw [if_pos rfl] at hc
        exact ⟨by show y.allocated - 1 = _; omega, by show y.loaded = _; omega⟩
      · obtain ⟨hal, hlo⟩ := hlines i l hy
        rw [if_neg fun e => hi (congrArg LineRef.line e).symm] at hc
        exact ⟨by omega, by omega⟩

/-- A reservation (R102): the pack counts for a line of a live order, whose counts rise. -/
theorem Counted.raise (hat : AtOne k a b) (ha : Table.rising a) (hb : Table.rising b) (hfrom : burdenAt a k = none)
    (hto : burdenAt b k = some (r, mass, false)) (ho : Table.get orders r.handle = some o)
    (hline : (nth o.lines r.line).isSome = true) (hcounts : Counted a orders) :
    Counted b (Table.update orders r.handle (served r.line mass)) := by
  refine Counted.step hat ha hb (fun c hc => ?_) (fun c hc => ?_) (fun c o' hc ho' => ?_) (fun _ => ⟨o, ho⟩)
    (fun o i => isSome_nth (length_changeNth _ _ _) i) (fun o _ hco => ?_) hcounts
  · rw [hfrom] at hc; cases hc
  · cases hto.symm.trans hc; rfl
  · cases hto.symm.trans hc
    cases ho.symm.trans ho'
    exact hline
  · obtain ⟨hmass, hlines⟩ := hco
    refine ⟨?_, fun i l hl => ?_⟩
    · have := hat.tally ha hb (blind_massFor r.handle)
      rw [weighAt_massFor, weighAt_massFor, hfrom, hto] at this
      simp only [Option.map_some, Option.getD_some, if_true, Option.map_none, Option.getD_none] at this
      show o.committed + mass = _
      omega
    · have hc := hat.tally ha hb (blind_countsFor ⟨r.handle, i⟩)
      have hd := hat.tally ha hb (blind_loadedFor ⟨r.handle, i⟩)
      rw [weighAt_countsFor, weighAt_countsFor, hfrom, hto] at hc
      rw [weighAt_loadedFor, weighAt_loadedFor, hfrom, hto] at hd
      simp only [Option.map_some, Option.getD_some, Option.map_none, Option.getD_none, Bool.false_eq_true, and_false,
        if_false] at hc hd
      rcases nth_changeNth_eq_some hl with ⟨rfl, y, hy, rfl⟩ | ⟨hi, hy⟩
      · obtain ⟨hal, hlo⟩ := hlines _ y hy
        rw [if_pos rfl] at hc
        exact ⟨by show y.allocated + 1 = _; omega, by show y.loaded = _; omega⟩
      · obtain ⟨hal, hlo⟩ := hlines i l hy
        rw [if_neg fun e => hi (congrArg LineRef.line e).symm] at hc
        exact ⟨by omega, by omega⟩

theorem lines_loadOne (n : Nat) (o : Order) :
    (o.loadOne n).lines = changeNth o.lines n fun l => { l with loaded := l.loaded + 1 } := by
  rw [loadOne_eq]

theorem committed_loadOne (n : Nat) (o : Order) : (o.loadOne n).committed = o.committed := by
  rw [loadOne_eq]

/-- A drop to the truck (R69): the pack counts as LOADED for its line. -/
theorem Counted.load (hat : AtOne k a b) (ha : Table.rising a) (hb : Table.rising b)
    (hfrom : burdenAt a k = some (r, mass, false)) (hto : burdenAt b k = some (r, mass, true))
    (hcounts : Counted a orders) : Counted b (Table.update orders r.handle (Order.loadOne r.line)) := by
  obtain ⟨p, hp, hpb⟩ := Option.bind_eq_some_iff.mp hfrom
  obtain ⟨v, hv, hvr⟩ := Option.map_eq_some_iff.mp hpb
  obtain ⟨live, hlive, hline⟩ := hcounts.live k p r hp (hv.trans (congrArg some (congrArg Prod.fst hvr)))
  refine Counted.step hat ha hb (fun c hc => ?_) (fun c hc => ?_) (fun c o' hc ho' => ?_) (fun _ => ⟨live, hlive⟩)
    (fun o i => isSome_nth (by rw [lines_loadOne, length_changeNth]) i) (fun o _ hco => ?_) hcounts
  · cases hfrom.symm.trans hc; rfl
  · cases hto.symm.trans hc; rfl
  · cases hto.symm.trans hc
    cases hlive.symm.trans ho'
    exact hline
  · obtain ⟨hmass, hlines⟩ := hco
    refine ⟨?_, fun i l hl => ?_⟩
    · have := hat.tally ha hb (blind_massFor r.handle)
      rw [weighAt_massFor, weighAt_massFor, hfrom, hto] at this
      rw [committed_loadOne]
      simp only [Option.map_some] at this
      omega
    · have hc := hat.tally ha hb (blind_countsFor ⟨r.handle, i⟩)
      have hd := hat.tally ha hb (blind_loadedFor ⟨r.handle, i⟩)
      rw [weighAt_countsFor, weighAt_countsFor, hfrom, hto] at hc
      rw [weighAt_loadedFor, weighAt_loadedFor, hfrom, hto] at hd
      simp only [Option.map_some, Option.getD_some, Bool.false_eq_true, and_false, and_true, if_false] at hc hd
      rw [lines_loadOne] at hl
      rcases nth_changeNth_eq_some hl with ⟨rfl, y, hy, rfl⟩ | ⟨hi, hy⟩
      · obtain ⟨hal, hlo⟩ := hlines _ y hy
        rw [if_pos rfl] at hd
        exact ⟨by show y.allocated = _; omega, by show y.loaded + 1 = _; omega⟩
      · obtain ⟨hal, hlo⟩ := hlines i l hy
        rw [if_neg fun e => hi (congrArg LineRef.line e).symm] at hd
        exact ⟨by omega, by omega⟩

end

end Sys2Proof.Proofs
end

section
/-!
PROOFS. The laws of the work as one invariant, and what leaves it as it was: claims that end, postings, flags, and the
judgement of CLOSING (R31, R36, R37, R66, R67, R119, R157).
-/

namespace Sys2Proof.Proofs

open Sys2Proof.Machine Sys2Proof.Safety

/-! ## What the shared operations leave -/

section
variable (s : State) (tag : Nat)

@[simp] theorem tasks_clearStarved : (clearStarved s).tasks = s.tasks := by rw [clearStarved_eq]
@[simp] theorem stations_clearStarved : (clearStarved s).stations = s.stations := by rw [clearStarved_eq]
@[simp] theorem port_clearStarved : (clearStarved s).port = s.port := by rw [clearStarved_eq]
@[simp] theorem clearing_clearStarved : (clearStarved s).clearing = s.clearing := by rw [clearStarved_eq]
theorem orders_clearStarved : (clearStarved s).orders = Table.change s.orders fun _ o => o.unstarved := by
  rw [clearStarved_eq]

variable (named : Option Nat) (before : Table Pack)

@[simp] theorem packs_observe : (observe named before s).packs = s.packs := observe_packs _ _ _
@[simp] theorem tasks_observe : (observe named before s).tasks = s.tasks := by
  obtain ⟨w, m, a, e⟩ := observe_frame named before s
  rw [e]
@[simp] theorem stations_observe : (observe named before s).stations = s.stations := by
  obtain ⟨w, m, a, e⟩ := observe_frame named before s
  rw [e]
@[simp] theorem orders_observe : (observe named before s).orders = s.orders := by
  obtain ⟨w, m, a, e⟩ := observe_frame named before s
  rw [e]
@[simp] theorem port_observe : (observe named before s).port = s.port := by
  obtain ⟨w, m, a, e⟩ := observe_frame named before s
  rw [e]
@[simp] theorem clearing_observe : (observe named before s).clearing = s.clearing := by
  obtain ⟨w, m, a, e⟩ := observe_frame named before s
  rw [e]

@[simp] theorem packs_judgeClosing : (judgeClosing s).packs = s.packs := by
  rcases judgeClosing_cases s with e | e | e <;> rw [e] <;> rfl
@[simp] theorem tasks_judgeClosing : (judgeClosing s).tasks = s.tasks := by
  rcases judgeClosing_cases s with e | e | e <;> rw [e] <;> rfl
@[simp] theorem orders_judgeClosing : (judgeClosing s).orders = s.orders := by
  rcases judgeClosing_cases s with e | e | e <;> rw [e] <;> rfl
@[simp] theorem port_judgeClosing : (judgeClosing s).port = s.port := by
  rcases judgeClosing_cases s with e | e | e <;> rw [e] <;> rfl
@[simp] theorem clearing_judgeClosing : (judgeClosing s).clearing = s.clearing := by
  rcases judgeClosing_cases s with e | e | e <;> rw [e] <;> rfl

@[simp] theorem packs_endClaim : (endClaim named before s).packs = s.packs := by simp [endClaim]
@[simp] theorem tasks_endClaim : (endClaim named before s).tasks = s.tasks := by simp [endClaim]
@[simp] theorem port_endClaim : (endClaim named before s).port = s.port := by simp [endClaim]
@[simp] theorem clearing_endClaim : (endClaim named before s).clearing = s.clearing := by simp [endClaim]

@[simp] theorem tasks_removeFromStack : (removeFromStack tag s).tasks = s.tasks := by
  obtain ⟨p, e⟩ := removeFromStack_frame tag s
  rw [e]
@[simp] theorem stations_removeFromStack : (removeFromStack tag s).stations = s.stations := by
  obtain ⟨p, e⟩ := removeFromStack_frame tag s
  rw [e]
@[simp] theorem orders_removeFromStack : (removeFromStack tag s).orders = s.orders := by
  obtain ⟨p, e⟩ := removeFromStack_frame tag s
  rw [e]
@[simp] theorem port_removeFromStack : (removeFromStack tag s).port = s.port := by
  obtain ⟨p, e⟩ := removeFromStack_frame tag s
  rw [e]
@[simp] theorem clearing_removeFromStack : (removeFromStack tag s).clearing = s.clearing := by
  obtain ⟨p, e⟩ := removeFromStack_frame tag s
  rw [e]

@[simp] theorem packs_dismiss (station : Option Nat) : (dismiss station s).packs = s.packs := by rw [dismiss_eq]
@[simp] theorem tasks_dismiss (station : Option Nat) : (dismiss station s).tasks = s.tasks := by rw [dismiss_eq]
@[simp] theorem stations_dismiss (station : Option Nat) :
    (dismiss station s).stations = dismissed station s.stations := by rw [dismiss_eq]
@[simp] theorem orders_dismiss (station : Option Nat) : (dismiss station s).orders = s.orders := by rw [dismiss_eq]
@[simp] theorem port_dismiss (station : Option Nat) : (dismiss station s).port = s.port := by rw [dismiss_eq]
@[simp] theorem clearing_dismiss (station : Option Nat) : (dismiss station s).clearing = s.clearing := by
  rw [dismiss_eq]

@[simp] theorem packs_retireTask (n : Nat) : (retireTask n s).packs = s.packs := by simp [retireTask]
@[simp] theorem tasks_retireTask (n : Nat) :
    (retireTask n s).tasks = s.tasks.filter fun t => decide (t.number ≠ n) := retireTask_tasks n s
@[simp] theorem stations_retireTask (n : Nat) : (retireTask n s).stations = s.stations := by simp [retireTask]
@[simp] theorem port_retireTask (n : Nat) : (retireTask n s).port = s.port := by simp [retireTask]
@[simp] theorem clearing_retireTask (n : Nat) : (retireTask n s).clearing = s.clearing := by simp [retireTask]
theorem orders_retireTask (n : Nat) :
    (retireTask n s).orders = Table.change s.orders fun _ o => o.unstarved := by
  rw [retireTask, orders_clearStarved]

end

/-! ## What the counts see of the orders -/

/-- What the laws of counts see of the orders. -/
def SameCounts (a b : Table Order) : Prop := ∀ n, (Table.get b n).map countView = (Table.get a n).map countView

theorem SameCounts.refl (a : Table Order) : SameCounts a a := fun _ => rfl

theorem SameCounts.trans {a b c : Table Order} (h : SameCounts a b) (h' : SameCounts b c) : SameCounts a c :=
  fun n => (h' n).trans (h n)

theorem sameCounts_change {f : Nat → Order → Order} (hf : ∀ k o, countView (f k o) = countView o) (a : Table Order) :
    SameCounts a (Table.change a f) := fun n => by
  rw [Table.get_change, Option.map_map]
  exact Option.map_congr fun o _ => hf n o

theorem sameCounts_update {f : Order → Order} (hf : ∀ o, countView (f o) = countView o) (h : Nat) (a : Table Order) :
    SameCounts a (Table.update a h f) :=
  sameCounts_change (fun k o => by split_ifs; exacts [hf o, rfl]) a

theorem countView_unstarved (o : Order) : countView o.unstarved = countView o := by
  simp [countView, Order.unstarved, Function.comp_def]

theorem sameCounts_unstarved (a : Table Order) : SameCounts a (Table.change a fun _ o => o.unstarved) :=
  sameCounts_change (fun _ => countView_unstarved) a

theorem sameCounts_clearStarved (s : State) : SameCounts s.orders (clearStarved s).orders :=
  orders_clearStarved s ▸ sameCounts_unstarved _

theorem sameCounts_retireTask (n : Nat) (s : State) : SameCounts s.orders (retireTask n s).orders :=
  orders_retireTask s n ▸ sameCounts_unstarved _

theorem map_changeNth_of_same {α β : Type} {l : List α} {n : Nat} {f : α → α} {view : α → β}
    (h : ∀ a, view (f a) = view a) : (changeNth l n f).map view = l.map view := by
  unfold changeNth
  split_ifs
  · rfl
  · apply List.ext_getElem?
    intro i
    simp only [List.getElem?_map, List.getElem?_modify]
    split_ifs <;> simp [Function.comp_def, h]

/-! ## The laws of the work -/

/-- The laws that tie packs, tasks, stations and orders together, while the part's blocks work. -/
structure Bound (s : State) : Prop where
  tied : Tied s.packs s.tasks
  manned : stationLaw s
  dug : Dug s.packs s.tasks
  counted : Counted s.packs s.orders

theorem bound_iff {s : State} (hk : keyLaw s) :
    Bound s ↔ placeLaw s ∧ stationLaw s ∧ linkLaw s ∧ digLaw s ∧ countLaw s := by
  constructor
  · intro h
    obtain ⟨hplace, hlink⟩ := (tied_iff hk.1).mp h.tied
    exact ⟨hplace, h.manned, hlink, (dug_iff hk.1).mp h.dug, (counted_iff hk).mp h.counted⟩
  · rintro ⟨hplace, hman, hlink, hdig, hcount⟩
    exact ⟨(tied_iff hk.1).mpr ⟨hplace, hlink⟩, hman, (dug_iff hk.1).mpr hdig, (counted_iff hk).mpr hcount⟩

/-- The laws see the same of both states. -/
structure Alike (s t : State) : Prop where
  packs : t.packs = s.packs
  tasks : t.tasks = s.tasks
  stations : t.stations = s.stations
  orders : SameCounts s.orders t.orders

theorem Alike.refl (s : State) : Alike s s := ⟨rfl, rfl, rfl, .refl _⟩

theorem Alike.trans {s t u : State} (h : Alike s t) (h' : Alike t u) : Alike s u :=
  ⟨h'.packs.trans h.packs, h'.tasks.trans h.tasks, h'.stations.trans h.stations, h.orders.trans h'.orders⟩

theorem Bound.of_alike {s t : State} (h : Bound s) (ha : Alike s t) : Bound t := by
  refine ⟨?_, stationLaw_congr ha.tasks ha.stations h.manned, ?_, ?_⟩
  · rw [ha.packs, ha.tasks]; exact h.tied
  · rw [ha.packs, ha.tasks]; exact h.dug
  · rw [ha.packs]; exact h.counted.congr_orders ha.orders

theorem alike_of_eq {s t : State} (hp : t.packs = s.packs) (hk : t.tasks = s.tasks) (hn : t.stations = s.stations)
    (ho : t.orders = s.orders) : Alike s t := ⟨hp, hk, hn, ho ▸ .refl _⟩

theorem alike_observe (named : Option Nat) (before : Table Pack) (s : State) : Alike s (observe named before s) :=
  alike_of_eq (by simp) (by simp) (by simp) (by simp)

theorem alike_clearStarved (s : State) : Alike s (clearStarved s) :=
  ⟨by simp, by simp, by simp, sameCounts_clearStarved s⟩

theorem alike_changeOrder {f : Order → Order} (hf : ∀ o, countView (f o) = countView o) (h : Nat) (s : State) :
    Alike s (changeOrder h f s) := ⟨rfl, rfl, rfl, sameCounts_update hf h _⟩

theorem alike_post (k : EventKind) (s : State) : Alike s (post k s) := alike_of_eq rfl rfl rfl rfl

theorem alike_postIf (c : Bool) (k : EventKind) (s : State) : Alike s (postIf c k s) := by
  cases c
  · exact .refl _
  · exact alike_post k s

/-- A station off shift holds nothing and has no capacity (R118, R119). -/
theorem stationAgrees_offShift {s : State} {n : Nat} {st : Station} (hcap : st.capacity = none)
    (hstate : st.state = .offShift) (hfree : ∀ t ∈ s.tasks, t.station ≠ some n) : stationAgrees s n st := by
  refine ⟨iff_of_true hcap hstate, fun _ => hfree, fun h => ?_, fun h => ?_⟩
  · rw [hstate] at h; cases h
  · rw [hstate] at h; cases h

/-- With no task live every station may go off shift. -/
theorem stationLaw_allOff {s t : State} (htasks : t.tasks = [])
    (hst : t.stations = s.stations.map Station.offShift) : stationLaw t := by
  refine ⟨by simp [htasks], by simp [htasks], fun n _ st hn => ?_⟩
  rw [State.station, hst, nth_map, Option.mem_def, Option.map_eq_some_iff] at hn
  obtain ⟨st', -, rfl⟩ := hn
  exact stationAgrees_offShift rfl rfl (by simp [htasks])

theorem stationLaw_judgeClosing {s : State} (h : stationLaw s) : stationLaw (judgeClosing s) := by
  unfold judgeClosing
  split_ifs with hc ha
  · exact stationLaw_congr (s := s) rfl rfl h
  · exact stationLaw_allOff (s := s) hc.2.2 rfl
  · exact h

theorem Bound.judgeClosing {s : State} (h : Bound s) : Bound (judgeClosing s) := by
  obtain ⟨htied, hman, hdug, hcount⟩ := h
  refine ⟨?_, stationLaw_judgeClosing hman, ?_, ?_⟩
  · simpa using htied
  · simpa using hdug
  · simpa using hcount

theorem Bound.endClaim {s : State} (h : Bound s) (named : Option Nat) (before : Table Pack) :
    Bound (endClaim named before s) := (h.of_alike (alike_observe named before s)).judgeClosing

/-- What a command of the working part finds: unique keys, stacks without a gap, and the laws of the work. -/
structure Good (s : State) : Prop where
  keys : keyLaw s
  tiers : tierLaw s
  bound : Bound s

theorem Good.apart {s : State} (h : Good s) : Apart (spot s.packs) := apart_of_tierLaw h.keys.1 h.tiers

end Sys2Proof.Proofs
end

section
/-!
PROOFS. The laws of the work under a change of one pack that no task moves: its birth, its moves and holds, and its
retirement (R44, R49 to R53).
-/

namespace Sys2Proof.Proofs

open Sys2Proof.Machine Sys2Proof.Safety

section
variable {packs packs' : Table Pack} {tasks : List Machine.Task} {k : Nat} {p : Pack} {t : Machine.Task}

/-! ## Packs at rest -/

theorem Tied.task_of_rest (h : Tied packs tasks) (hp : Table.get packs k = some p) (hrest : ¬ atWork p) :
    p.task = none := by
  refine (h.shaped k p hp).task ?_
  unfold atWork at hrest
  cases hs : p.state <;> simp_all

/-- The subject of a FETCH that is not LIFTED is RESERVED (R37). -/
theorem Tied.reserved_of_fetch (h : Tied packs tasks) (ht : t ∈ tasks) (hfetch : t.isFetch = true)
    (hstate : t.state ≠ .lifted) : stateAt packs t.subject = some .reserved := by
  obtain ⟨p, hp, -, hfits⟩ := h.subject t ht
  unfold Machine.Task.isFetch at hfetch
  unfold subjectFits at hfits
  split at hfetch
  · rename_i r hkind
    rw [hkind, if_neg hstate] at hfits
    rw [stateAt, hp, Option.map_some, hfits.2]
  · cases hfetch
  · cases hfetch

theorem Tied.reserved_of_offered (h : Tied packs tasks) :
    ∀ t ∈ tasks, t.isFetch = true → (t.state = .offered ∨ t.state = .accepted) →
      stateAt packs t.subject = some .reserved := by
  rintro t ht hfetch hstate
  refine h.reserved_of_fetch ht hfetch ?_
  rcases hstate with hs | hs <;> rw [hs] <;> exact nofun

theorem Tied.number_ne_zero (h : Tied packs tasks) (ht : t ∈ tasks) : t.number ≠ 0 := by
  have := (h.range t ht).1
  omega

theorem Tied.rest (h : Tied packs tasks) (hat : AtOne k packs packs')
    (hbefore : ∀ p, Table.get packs k = some p → ¬ atWork p)
    (hafter : ∀ p, Table.get packs' k = some p → Shaped p ∧ ¬ atWork p) : Tied packs' tasks := by
  refine h.step (m := 0) hat.others (fun _ _ => Iff.rfl) h.numbers
    (fun p hp => Or.inl (h.task_of_rest hp (hbefore p hp))) (fun u hu h0 => absurd h0 (h.number_ne_zero hu))
    (fun u hu h0 => absurd h0 (h.number_ne_zero hu)) fun p hp => ?_
  obtain ⟨hshape, hrest⟩ := hafter p hp
  exact ⟨hshape, fun hwork => absurd hwork hrest⟩

theorem stateAt_eq_some_iff {st : PackState} :
    stateAt packs k = some st ↔ ∃ p, Table.get packs k = some p ∧ p.state = st := by
  rw [stateAt, Option.map_eq_some_iff]

theorem not_reserved_of_rest (h : ∀ p, Table.get packs k = some p → ¬ atWork p) :
    stateAt packs k ≠ some .reserved := fun hr => by
  obtain ⟨p, hp, hs⟩ := stateAt_eq_some_iff.mp hr
  exact h p hp (Or.inl hs)

theorem not_moving_of_rest (h : ∀ p, Table.get packs k = some p → ¬ atWork p) :
    stateAt packs k ≠ some .moving := fun hr => by
  obtain ⟨p, hp, hs⟩ := stateAt_eq_some_iff.mp hr
  exact h p hp (Or.inr (Or.inl hs))

/-- A pack at rest stands above no RESERVED one (R36). -/
theorem Dug.not_atop_of_rest (h : Dug packs tasks) (hrest : ∀ p, Table.get packs k = some p → ¬ atWork p) {j : Nat}
    (hj : stateAt packs j = some .reserved) : ¬ atop (spot packs) k j :=
  fun hatop => not_moving_of_rest hrest (h.cover k j hj hatop)

theorem Dug.rest (h : Dug packs tasks) (ht : Tied packs tasks) (hat : AtOne k packs packs')
    (hbefore : ∀ p, Table.get packs k = some p → ¬ atWork p)
    (hafter : ∀ p, Table.get packs' k = some p → ¬ atWork p)
    (hatop : ∀ j, j ≠ k → stateAt packs j = some .reserved → ¬ atop (spot packs') k j) : Dug packs' tasks := by
  refine h.step (m := 0) hat.others hat.atop (fun u hu _ => ⟨hu, fun hk => ?_⟩) ht.reserved_of_offered
    (fun hr => absurd hr (not_reserved_of_rest hafter)) (fun j hj hres hkj => absurd hkj (hatop j hj hres))
    (fun hr => absurd hr (not_reserved_of_rest hbefore)) fun u hu h0 => absurd h0 (ht.number_ne_zero hu)
  obtain ⟨p, hp, -⟩ := ht.subject u hu
  exact hbefore p (hk ▸ hp) (ht.atWork_subject hu hp)

end

/-- A change of a pack at rest that keeps what the pack counts for keeps the laws of the work, where the pack does not
come to stand above a RESERVED one. -/
theorem Bound.rest {s t : State} {k : Nat} (h : Bound s) (hat : AtOne k s.packs t.packs)
    (hr : Table.rising s.packs) (hr' : Table.rising t.packs) (htasks : t.tasks = s.tasks)
    (hstations : t.stations = s.stations) (horders : SameCounts s.orders t.orders)
    (hbefore : ∀ p, Table.get s.packs k = some p → ¬ atWork p)
    (hafter : ∀ p, Table.get t.packs k = some p → Shaped p ∧ ¬ atWork p)
    (hburden : burdenAt t.packs k = burdenAt s.packs k)
    (hatop : ∀ j, j ≠ k → stateAt s.packs j = some .reserved → ¬ atop (spot t.packs) k j) : Bound t := by
  refine ⟨?_, stationLaw_congr htasks hstations h.manned, ?_, ?_⟩
  · rw [htasks]
    exact h.tied.rest hat hbefore hafter
  · rw [htasks]
    exact h.dug.rest h.tied hat hbefore (fun p hp => (hafter p hp).2) hatop
  · exact (h.counted.same hat hr hr' hburden).congr_orders horders

/-! ## Where a pack put down comes to stand -/

section
variable {s : State} {tag : Nat} {b k : Nat} {f : Pack → Pack}

/-- Nothing stands above a pack put down (R7). -/
theorem not_atop_putDown (hr : Table.rising s.packs) (ht : tierLaw s) (hlive : tag ∈ s.packs.keys) (i : Nat) :
    ¬ atop (spot (putDown b k tag f s).packs) i tag := by
  rintro ⟨l, ⟨b', k', n⟩, hl, hi, hbay, hstack, hlt⟩
  have hne : i ≠ tag := by
    rintro rfl
    rw [hi] at hl
    cases hl
    exact Nat.lt_irrefl _ hlt
  rw [spot_putDown hlive, arrives, if_pos rfl] at hl
  rw [spot_putDown hlive, arrives, if_neg hne] at hi
  cases hl
  cases hbay
  cases hstack
  have hstacked := stacked_of_tierLaw (rising_removeFromStack tag hr) (tierLaw_removeFromStack hr ht tag) b k
  exact absurd ((hstacked.1 n).mp ⟨i, hi⟩) (Nat.not_lt.mpr (Nat.le_of_lt hlt))

/-- A pack put down stands above no pack but those of the stack it was put on (R7). -/
theorem atop_putDown (hlive : tag ∈ s.packs.keys) {j : Nat} (hj : j ≠ tag)
    (h : atop (spot (putDown b k tag f s).packs) tag j) : ∃ i, spot s.packs j = some ⟨b, k, i⟩ := by
  obtain ⟨⟨b', k', n⟩, m, hl, hm, hbay, hstack, -⟩ := h
  rw [spot_putDown hlive, arrives, if_neg hj] at hl
  rw [spot_putDown hlive, arrives, if_pos rfl] at hm
  cases hm
  cases hbay
  cases hstack
  cases hspot : spot s.packs tag with
  | none =>
    rw [removeFromStack_of_spot_none hspot] at hl
    exact ⟨n, hl⟩
  | some m =>
    rw [spot_removeFromStack hspot, leaves, if_neg hj, Option.map_eq_some_iff] at hl
    obtain ⟨l, hl, hset⟩ := hl
    obtain ⟨b'', k'', i⟩ := l
    refine ⟨i, ?_⟩
    unfold settled at hset
    split_ifs at hset <;> simp_all

/-- A pack put down where the checks of R6 take it stands above no RESERVED one. -/
theorem not_atop_reserved_putDown {disabled : Status} (hcheck : putDownCheck s b k disabled = none) (hlive : tag ∈ s.packs.keys) (j : Nat) (hj : j ≠ tag)
    (hres : stateAt s.packs j = some .reserved) : ¬ atop (spot (putDown b k tag f s).packs) tag j := by
  intro hatop
  obtain ⟨i, hi⟩ := atop_putDown hlive hj hatop
  obtain ⟨p, hp, hpl⟩ := Option.bind_eq_some_iff.mp hi
  obtain ⟨q, hq, hqs⟩ := stateAt_eq_some_iff.mp hres
  cases hp.symm.trans hq
  have hfree : ¬ holdsReserved s b k = true := by
    unfold putDownCheck at hcheck
    split_ifs at hcheck with h1 h2 h3 h4
    exact h4
  exact hfree ((holdsReserved_iff s b k).mpr ⟨(j, p), mem_stackList.mpr ⟨Table.mem_of_get hp, i, hpl⟩, hqs⟩)

theorem not_atop_removeFromStack (s : State) (tag j : Nat) : ¬ atop (spot (removeFromStack tag s).packs) tag j :=
  not_atop_of_upper_none (spot_removeFromStack_self s tag) j

end

/-! ## Records of packs at rest -/

theorem shaped_stored {p : Pack} (hs : p.state = .stored) (hl : p.location.isSome = true) (hr : p.reservation = none)
    (ht : p.task = none) (hh : p.hold = none) : Shaped p ∧ ¬ atWork p := by
  refine ⟨⟨iff_of_true hl (Or.inl hs), ?_, fun _ => ht, fun _ => hr, fun h => ?_⟩, ?_⟩
  · rw [hh, hs]; simp
  · rw [hs] at h; cases h
  · unfold atWork
    rw [hs]
    simp

theorem shaped_held {p : Pack} {why : HoldReason} (hs : p.state = .held) (hr : p.reservation = none)
    (ht : p.task = none) (hh : p.hold = some why) (hl : p.location.isSome = true ↔ why = .damaged) :
    Shaped p ∧ ¬ atWork p := by
  refine ⟨⟨?_, ?_, fun _ => ht, fun _ => hr, fun h => ?_⟩, ?_⟩
  · rw [hl, hs, hh]; simp
  · rw [hh, hs]; simp
  · rw [hs] at h; cases h
  · unfold atWork
    rw [hs]
    simp

theorem burdenAt_of_none {packs : Table Pack} {k : Nat}
    (h : ∀ p, Table.get packs k = some p → p.reservation = none) : burdenAt packs k = none := by
  unfold burdenAt
  cases hp : Table.get packs k with
  | none => rfl
  | some p => rw [Option.bind_some, burden, h p hp, Option.map_none]

/-! ## The changes -/

section
variable {s : State} {tag : Nat} {p : Pack}

/-- A STORED or HELD pack, and what is said of it. -/
theorem Bound.idle (h : Bound s) (hp : Table.get s.packs tag = some p) (hs : p.state = .stored ∨ p.state = .held) :
    ¬ atWork p ∧ p.reservation = none ∧ p.task = none := by
  have hshape := h.tied.shaped tag p hp
  refine ⟨?_, hshape.reservation (hs.imp_right Or.inr), hshape.task (hs.imp_right Or.inr)⟩
  unfold atWork
  rcases hs with hs | hs <;> rw [hs] <;> simp

theorem forall_get {packs : Table Pack} {k : Nat} {p : Pack} {P : Pack → Prop} (hp : Table.get packs k = some p)
    (h : P p) : ∀ q, Table.get packs k = some q → P q := fun q hq => by
  rw [hp] at hq
  cases hq
  exact h

/-- A birth (R44). -/
theorem Bound.bear (h : Good s) (hfree : Table.get s.packs tag = none) {b k : Nat} {disabled : Status}
    (hcheck : putDownCheck s b k disabled = none) (hs : p.state = .stored)
    (hl : p.location = some ⟨b, k, height s b k⟩) (hr : p.reservation = none) (ht : p.task = none)
    (hh : p.hold = none) : Bound (bear tag p s) := by
  refine Bound.of_alike (s := { s with packs := Table.put s.packs tag p }) ?_
    ((alike_clearStarved _).trans (alike_observe _ _ _))
  refine h.bound.rest (k := tag) (atOne_put tag s.packs p) h.keys.1 (Table.rising_put tag p h.keys.1) rfl rfl (.refl _)
    (fun q hq => by rw [hfree] at hq; cases hq) ?_ ?_ fun j hj hres hatop => ?_
  · exact forall_get (Table.get_put_self _ _ _) (shaped_stored hs (by rw [hl]; rfl) hr ht hh)
  · rw [burdenAt_of_none (forall_get (Table.get_put_self _ _ _) hr),
      burdenAt_of_none fun q hq => by rw [hfree] at hq; cases hq]
  · obtain ⟨l, m, hj', hm, hbay, hstack, -⟩ := hatop
    rw [spot_put _ _ hl, arrives, if_neg hj] at hj'
    rw [spot_put _ _ hl, arrives, if_pos rfl] at hm
    cases hm
    obtain ⟨q, hq, hql⟩ := Option.bind_eq_some_iff.mp hj'
    obtain ⟨q', hq', hqs⟩ := stateAt_eq_some_iff.mp hres
    cases hq.symm.trans hq'
    have hnone : ¬ holdsReserved s b k = true := by
      unfold putDownCheck at hcheck
      split_ifs at hcheck with h1 h2 h3 h4
      exact h4
    refine hnone ((holdsReserved_iff s b k).mpr ⟨(j, q), mem_stackList.mpr ⟨Table.mem_of_get hq, l.tier, ?_⟩, hqs⟩)
    rw [hql]
    cases l
    simp_all

/-- A put-down of a pack at rest (R49, R51). -/
theorem Bound.putDown (h : Good s) (hp : Table.get s.packs tag = some p) (hidle : p.state = .stored ∨ p.state = .held)
    {b k : Nat} {disabled : Status} (hcheck : putDownCheck s b k disabled = none) {f : Pack → Pack}
    (hf : ∀ l, Shaped { f { p with location := none } with location := some l } ∧ ¬ atWork (f { p with location := none }))
    (hr : (f { p with location := none }).reservation = none) : Bound (putDown b k tag f s) := by
  obtain ⟨hrest, hnone, -⟩ := h.bound.idle hp hidle
  have hlive : tag ∈ s.packs.keys := mem_keys_iff_get.mpr ⟨p, hp⟩
  have hget : Table.get (Machine.putDown b k tag f s).packs tag =
      some { f { p with location := none } with
        location := some ⟨b, k, height (removeFromStack tag s) b k⟩, wetted := p.wetted || rainsOn s b } := by
    rw [packs_putDown, Table.get_update_self, get_removeFromStack_self, hp, Option.map_some, Option.map_some]
  refine h.bound.rest (k := tag) (atOne_putDown h.apart b k tag f) h.keys.1 (rising_putDown b k tag f h.keys.1) rfl rfl
    (.refl _) (forall_get hp hrest) (forall_get hget ?_) ?_ fun j => not_atop_reserved_putDown hcheck hlive j
  · obtain ⟨hshape, hwork⟩ := hf ⟨b, k, height (removeFromStack tag s) b k⟩
    exact ⟨shaped_of_aside (by simp [aside]) hshape, hwork⟩
  · rw [burdenAt_of_none (forall_get hget hr), burdenAt_of_none (forall_get hp hnone)]

/-- A change in place of a pack at rest (R50, R51). -/
theorem Bound.changePack (h : Good s) (hp : Table.get s.packs tag = some p)
    (hidle : p.state = .stored ∨ p.state = .held) {f : Pack → Pack} (hf : Shaped (f p) ∧ ¬ atWork (f p))
    (hl : ∀ q, (f q).location = q.location) (hr : (f p).reservation = none) : Bound (changePack tag f s) := by
  obtain ⟨hrest, hnone, -⟩ := h.bound.idle hp hidle
  have hget : Table.get (Table.update s.packs tag f) tag = some (f p) := by
    rw [Table.get_update_self, hp, Option.map_some]
  refine h.bound.rest (k := tag) (atOne_update tag s.packs f) h.keys.1 (Table.rising_update tag f h.keys.1) rfl rfl
    (.refl _) (forall_get hp hrest) (forall_get hget hf) ?_ fun j hj hres hatop => ?_
  · exact (burdenAt_of_none (forall_get hget hr)).trans (burdenAt_of_none (forall_get hp hnone)).symm
  · refine h.bound.dug.not_atop_of_rest (forall_get hp hrest) hres ?_
    have hspot : ∀ i, spot (Table.update s.packs tag f) i = spot s.packs i :=
      spot_change_of_location fun i q => by split_ifs; exacts [hl q, rfl]
    exact (atop_congr (hspot tag) (hspot j)).mp hatop

/-- A retirement (R52). -/
theorem Bound.retirePack (h : Good s) (hp : Table.get s.packs tag = some p)
    (hidle : p.state = .stored ∨ p.state = .held) : Bound (retirePack tag s) := by
  obtain ⟨hrest, hnone, -⟩ := h.bound.idle hp hidle
  have hget : Table.get (Machine.retirePack tag s).packs tag = none := Table.get_erase_self _ _
  have hgone : ∀ q, Table.get (Machine.retirePack tag s).packs tag ≠ some q := fun q hq => by
    rw [hget] at hq; cases hq
  refine h.bound.rest (k := tag) (atOne_retirePack h.apart tag) h.keys.1
    (Table.rising_erase tag (rising_removeFromStack tag h.keys.1)) rfl rfl (.refl _) (forall_get hp hrest)
    (fun q hq => absurd hq (hgone q)) ?_ fun j _ _ => not_atop_of_upper_none ?_ j
  · rw [burdenAt_of_none fun q hq => absurd hq (hgone q), burdenAt_of_none (forall_get hp hnone)]
  · rw [spot, hget]; rfl

end

end Sys2Proof.Proofs
end

section
/-!
PROOFS. The laws of the work under a change of one task and of the station it concerns: offers, acceptances, lapses and
returns to OPEN (R119, R123, R128, R129, R136 to R138).
-/

namespace Sys2Proof.Proofs

open Sys2Proof.Machine Sys2Proof.Safety

/-! ## One task for another -/

/-- The tasks with one record in the place of the task with its number. -/
def replaced (y : Machine.Task) (tasks : List Machine.Task) : List Machine.Task :=
  tasks.map fun u => if u.number = y.number then y else u

section
variable {tasks : List Machine.Task} {x y u : Machine.Task} {m : Nat}

theorem numbers_replaced (y : Machine.Task) (tasks : List Machine.Task) :
    (replaced y tasks).map Machine.Task.number = tasks.map Machine.Task.number := by
  rw [replaced, List.map_map]
  refine List.map_congr_left fun u _ => ?_
  simp only [Function.comp]
  split_ifs with h
  · exact h.symm
  · rfl

theorem mem_replaced_of_ne (hu : u.number ≠ y.number) : u ∈ replaced y tasks ↔ u ∈ tasks := by
  unfold replaced
  rw [List.mem_map]
  constructor
  · rintro ⟨v, hv, hvu⟩
    split_ifs at hvu
    · exact absurd (congrArg Machine.Task.number hvu).symm hu
    · exact hvu ▸ hv
  · exact fun h => ⟨u, h, if_neg hu⟩

theorem eq_of_mem_replaced (hu : u ∈ replaced y tasks) (hm : u.number = y.number) : u = y := by
  obtain ⟨v, -, hvu⟩ := List.mem_map.mp hu
  split_ifs at hvu with h
  · exact hvu.symm
  · exact absurd (hvu ▸ hm) h

theorem mem_replaced_self (hx : x ∈ tasks) (hy : y.number = x.number) : y ∈ replaced y tasks :=
  List.mem_map.mpr ⟨x, hx, if_pos hy.symm⟩

/-- A change of the task with a number, where a task has it. -/
theorem map_eq_replaced (hnodup : (tasks.map Machine.Task.number).Nodup) (hx : x ∈ tasks) {f : Machine.Task → Machine.Task}
    (hf : (f x).number = x.number) : (tasks.map fun u => if u.number = x.number then f u else u) = replaced (f x) tasks := by
  refine List.map_congr_left fun u hu => ?_
  rw [hf]
  split_ifs with h
  · rw [eq_of_number hnodup hu hx h]
  · rfl

theorem mem_retired_of_ne (hu : u.number ≠ m) : u ∈ tasks.filter (fun t => decide (t.number ≠ m)) ↔ u ∈ tasks := by
  simp [hu]

theorem number_ne_of_mem_retired (hu : u ∈ tasks.filter fun t => decide (t.number ≠ m)) : u.number ≠ m := by
  simpa using (List.mem_filter.mp hu).2

theorem nodup_retired (hnodup : (tasks.map Machine.Task.number).Nodup) (p : Machine.Task → Bool) :
    ((tasks.filter p).map Machine.Task.number).Nodup := hnodup.sublist (List.filter_sublist.map _)

theorem nodup_added (hnodup : (tasks.map Machine.Task.number).Nodup) (hy : y.number ∉ tasks.map Machine.Task.number) :
    ((tasks ++ [y]).map Machine.Task.number).Nodup := by
  rw [List.map_append, List.nodup_append]
  refine ⟨hnodup, by simp, fun a ha b hb hab => hy ?_⟩
  rw [List.map_cons, List.map_nil, List.mem_singleton] at hb
  exact hb ▸ hab ▸ ha

theorem mem_added_of_ne (hu : u.number ≠ y.number) : u ∈ tasks ++ [y] ↔ u ∈ tasks := by
  rw [List.mem_append, List.mem_singleton, or_iff_left]
  rintro rfl
  exact hu rfl

theorem eq_of_mem_added (hy : y.number ∉ tasks.map Machine.Task.number) (hu : u ∈ tasks ++ [y])
    (hm : u.number = y.number) : u = y := by
  rcases List.mem_append.mp hu with h | h
  · exact absurd (hm ▸ List.mem_map_of_mem h) hy
  · exact List.mem_singleton.mp h

end

/-! ## Stations -/

section
variable {s t : State} {x y u : Machine.Task} {n : Nat} {st : Station} {g : Station → Station}

theorem station_changed (hst : t.stations = changeNth s.stations n g) : t.station n = (s.station n).map g := by
  rw [State.station, hst, nth_changeNth_self, State.station]

theorem station_changed_ne (hst : t.stations = changeNth s.stations n g) : ∀ i, i ≠ n → t.station i = s.station i := by
  intro i hi
  rw [State.station, hst, nth_changeNth_of_ne _ _ hi, State.station]

/-- Only one task is held by a station (R119). -/
theorem stationLaw_alone (h : stationLaw s) (hx : x ∈ s.tasks) (hn : x.station = some n) :
    ∀ u ∈ s.tasks, u.number ≠ x.number → u.station ≠ some n := by
  intro u hu hne hun
  refine hne (congrArg Machine.Task.number (h.2.1 u hu x hx ?_ (hun.trans hn.symm)))
  rw [hun]
  exact nofun

theorem stationLaw_holder (h : stationLaw s) (hx : x ∈ s.tasks) (hn : x.station = some n) :
    n ≤ Config.stationCount ∧ (s.station n).isSome = true ∧ x.state ≠ .opened := by
  obtain ⟨hopen, hheld⟩ := h.1 x hx
  obtain ⟨hle, hsome⟩ := hheld n hn
  exact ⟨hle, hsome, fun ho => by rw [hopen.mp ho] at hn; cases hn⟩

theorem stationLaw_opened (h : stationLaw s) (hx : x ∈ s.tasks) : x.state = .opened ↔ x.station = none := (h.1 x hx).1

/-- A station that holds a task is on shift, so it has a lift capacity (R118, R119). -/
theorem stationLaw_onShift (h : stationLaw s) (hx : x ∈ s.tasks) (hn : x.station = some n)
    (hst : s.station n = some st) : st.capacity ≠ none := by
  obtain ⟨hle, -, -⟩ := stationLaw_holder h hx hn
  obtain ⟨hcap, hfree, -⟩ := h.2.2 n hle st hst
  exact fun hnone => hfree (Or.inl (hcap.mp hnone)) x hx hn

theorem agrees_idle (hcap : st.capacity ≠ none) (hs : st.state = .idle) (hfree : ∀ u ∈ t.tasks, u.station ≠ some n) :
    stationAgrees t n st := by
  refine ⟨iff_of_false hcap ?_, fun _ => hfree, fun h => ?_, fun h => ?_⟩
  · rw [hs]; exact nofun
  · rw [hs] at h; cases h
  · rw [hs] at h; cases h

theorem agrees_offered (hcap : st.capacity ≠ none) (hs : st.state = .offered) (hu : u ∈ t.tasks)
    (hn : u.station = some n) (hstate : u.state = .offered) : stationAgrees t n st := by
  refine ⟨iff_of_false hcap ?_, fun h => ?_, fun _ => ⟨u, hu, hn, hstate⟩, fun h => ?_⟩
  · rw [hs]; exact nofun
  · rw [hs] at h; rcases h with h | h <;> cases h
  · rw [hs] at h; cases h

theorem agrees_busy (hcap : st.capacity ≠ none) (hs : st.state = .busy) (hu : u ∈ t.tasks)
    (hn : u.station = some n) (hstate : u.state = .accepted ∨ u.state = .lifted) : stationAgrees t n st := by
  refine ⟨iff_of_false hcap ?_, fun h => ?_, fun h => ?_, fun _ => ⟨u, hu, hn, hstate⟩⟩
  · rw [hs]; exact nofun
  · rw [hs] at h; rcases h with h | h <;> cases h
  · rw [hs] at h; cases h

/-- A task takes another record: law 8 holds where the station the two concern agrees with it. -/
theorem stationLaw_replaced (h : stationLaw s) (hnodup : (s.tasks.map Machine.Task.number).Nodup) (hx : x ∈ s.tasks)
    (hy : y.number = x.number) (htasks : t.tasks = replaced y s.tasks)
    (hstations : ∀ i, i ≠ n → t.station i = s.station i)
    (hfree : ∀ u ∈ s.tasks, u.number ≠ x.number → u.station ≠ some n) (hxn : ∀ i ∈ x.station, i = n)
    (hopen : y.state = .opened ↔ y.station = none)
    (hyn : ∀ i ∈ y.station, i = n ∧ n ≤ Config.stationCount ∧ (t.station n).isSome = true)
    (hat : n ≤ Config.stationCount → ∀ st ∈ t.station n, stationAgrees t n st) : stationLaw t := by
  refine stationLaw_step h (m := y.number) (n := n) ?_ (fun u hu => ?_) hstations (hy ▸ hfree) (fun u hu hm => ?_)
    (fun u hu hm => ?_) hat
  · rw [htasks, numbers_replaced]
    exact hnodup
  · rw [htasks]
    exact mem_replaced_of_ne hu
  · rw [eq_of_number hnodup hu hx (hm.trans hy)]
    exact hxn
  · rw [htasks] at hu
    rw [eq_of_mem_replaced hu hm]
    exact ⟨hopen, hyn⟩

/-- A task leaves the pool: law 8 holds where the station that held it agrees. -/
theorem stationLaw_retired (h : stationLaw s) (hnodup : (s.tasks.map Machine.Task.number).Nodup) (hx : x ∈ s.tasks)
    (htasks : t.tasks = s.tasks.filter fun u => decide (u.number ≠ x.number))
    (hstations : ∀ i, i ≠ n → t.station i = s.station i)
    (hfree : ∀ u ∈ s.tasks, u.number ≠ x.number → u.station ≠ some n) (hxn : ∀ i ∈ x.station, i = n)
    (hat : n ≤ Config.stationCount → ∀ st ∈ t.station n, stationAgrees t n st) : stationLaw t := by
  refine stationLaw_step h (m := x.number) (n := n) ?_ (fun u hu => ?_) hstations hfree (fun u hu hm => ?_)
    (fun u hu hm => ?_) hat
  · rw [htasks]
    exact nodup_retired hnodup _
  · rw [htasks]
    exact mem_retired_of_ne hu
  · rw [eq_of_number hnodup hu hx hm]
    exact hxn
  · rw [htasks] at hu
    exact absurd hm (number_ne_of_mem_retired hu)

/-- A task joins the pool: law 8 holds where the station that takes it agrees. -/
theorem stationLaw_added (h : stationLaw s) (hnodup : (s.tasks.map Machine.Task.number).Nodup)
    (hy : y.number ∉ s.tasks.map Machine.Task.number) (htasks : t.tasks = s.tasks ++ [y])
    (hstations : ∀ i, i ≠ n → t.station i = s.station i) (hfree : ∀ u ∈ s.tasks, u.station ≠ some n)
    (hopen : y.state = .opened ↔ y.station = none)
    (hyn : ∀ i ∈ y.station, i = n ∧ n ≤ Config.stationCount ∧ (t.station n).isSome = true)
    (hat : n ≤ Config.stationCount → ∀ st ∈ t.station n, stationAgrees t n st) : stationLaw t := by
  refine stationLaw_step h (m := y.number) (n := n) ?_ (fun u hu => ?_) hstations (fun u hu _ => hfree u hu)
    (fun u hu hm => absurd (hm ▸ List.mem_map_of_mem hu) hy) (fun u hu hm => ?_) hat
  · rw [htasks]
    exact nodup_added hnodup hy
  · rw [htasks]
    exact mem_added_of_ne hu
  · rw [htasks] at hu
    rw [eq_of_mem_added hy hu hm]
    exact ⟨hopen, hyn⟩

/-- Without a change of task, a station that keeps its state and its having a capacity agrees as before. -/
theorem stationLaw_changed (h : stationLaw s) (htasks : t.tasks = s.tasks) (hst : t.stations = changeNth s.stations n g)
    (hg : ∀ st, s.station n = some st → (g st).state = st.state ∧ ((g st).capacity = none ↔ st.capacity = none)) :
    stationLaw t := by
  obtain ⟨hheld, hone, hagree⟩ := h
  have hsome : ∀ i, (t.station i).isSome = (s.station i).isSome := fun i => by
    rw [State.station, hst, State.station]
    exact isSome_nth (length_changeNth _ _ _) i
  refine ⟨fun u hu => ?_, htasks ▸ hone, fun i hi st hsti => ?_⟩
  · obtain ⟨hopen, hn⟩ := hheld u (htasks ▸ hu)
    exact ⟨hopen, fun i hui => by rw [hsome]; exact hn i hui⟩
  · by_cases hin : i = n
    · subst hin
      rw [station_changed hst, Option.mem_def, Option.map_eq_some_iff] at hsti
      obtain ⟨st', hst', rfl⟩ := hsti
      obtain ⟨hstate, hcap⟩ := hg st' hst'
      have := hagree i hi st' hst'
      unfold stationAgrees at this ⊢
      rw [hstate, hcap, htasks]
      exact this
    · rw [station_changed_ne hst i hin] at hsti
      have := hagree i hi st hsti
      unfold stationAgrees at this ⊢
      rw [htasks]
      exact this

end

/-! ## Tasks whose packs stay as they are -/

section
variable {packs : Table Pack} {tasks : List Machine.Task} {x y : Machine.Task}

theorem Tied.replaced (h : Tied packs tasks) (hx : x ∈ tasks) (hnumber : y.number = x.number)
    (hsubject : y.subject = x.subject) (hkind : y.kind = x.kind) (hlift : y.state = .lifted ↔ x.state = .lifted) :
    Tied packs (replaced y tasks) := by
  obtain ⟨p, hp, hpx, hfits⟩ := h.subject x hx
  obtain ⟨hlow, hhigh⟩ := h.range x hx
  refine h.step (k := x.subject) (m := y.number) (fun _ _ => rfl) (fun u hu => mem_replaced_of_ne hu)
    (numbers_replaced y tasks ▸ h.numbers) (forall_get hp (Or.inr (hnumber ▸ hpx)))
    (fun u hu hm => congrArg Machine.Task.subject (h.eq_of_number hu hx (hm.trans hnumber))) (fun u hu hm => ?_)
    (forall_get hp ⟨h.shaped _ p hp, fun _ => ⟨hnumber ▸ hpx, y, mem_replaced_self hx hnumber, rfl⟩⟩)
  cases eq_of_mem_replaced hu hm
  refine ⟨hnumber ▸ hlow, hnumber ▸ hhigh, hsubject, p, hp, hnumber ▸ hpx, ?_⟩
  unfold subjectFits at hfits ⊢
  rw [hkind]
  simpa only [hlift] using hfits

theorem Dug.replaced (h : Dug packs tasks) (ht : Tied packs tasks) (hx : x ∈ tasks) (hnumber : y.number = x.number)
    (hsubject : y.subject = x.subject) (hkind : y.kind = x.kind) (hlift : y.state = .lifted ↔ x.state = .lifted)
    (hclear : y.isFetch = true → (y.state = .offered ∨ y.state = .accepted) → ∀ i, ¬ atop (spot packs) i y.subject) :
    Dug packs (replaced y tasks) := by
  refine h.step (k := x.subject) (m := y.number) (fun _ _ => rfl) (fun _ _ _ _ => Iff.rfl) (fun u hu hm => ?_)
    ht.reserved_of_offered (fun hr i _ hi => h.cover i _ hr hi) (fun j _ hj hxj => ⟨hxj, h.cover _ j hj hxj⟩)
    (fun hr i _ hi => ⟨hr, hi⟩) fun u hu hm => ?_
  · have hin := (mem_replaced_of_ne hm).mp hu
    exact ⟨hin, fun hk => hm (hnumber ▸ congrArg Machine.Task.number (ht.eq_of_subject hin hx hk))⟩
  · cases eq_of_mem_replaced hu hm
    refine ⟨fun hfetch hstate => ?_, hclear⟩
    rw [hkind, hsubject]
    refine h.shifts x hx ?_ (fun hl => hstate (hlift.mpr hl))
    unfold Machine.Task.isFetch at hfetch ⊢
    rwa [hkind] at hfetch

end

section
variable {s t : State} {x y : Machine.Task} {n : Nat} {g : Station → Station}

/-- A task takes another record with the same subject and kind, and a station follows it. -/
theorem Bound.retask (h : Bound s) (hpacks : t.packs = s.packs) (horders : SameCounts s.orders t.orders)
    (hx : x ∈ s.tasks) (hnumber : y.number = x.number) (hsubject : y.subject = x.subject) (hkind : y.kind = x.kind)
    (hlift : y.state = .lifted ↔ x.state = .lifted)
    (hclear : y.isFetch = true → (y.state = .offered ∨ y.state = .accepted) →
      ∀ i, ¬ atop (spot s.packs) i y.subject)
    (htasks : t.tasks = replaced y s.tasks) (hman : stationLaw t) : Bound t := by
  refine ⟨?_, hman, ?_, ?_⟩
  · rw [hpacks, htasks]
    exact h.tied.replaced hx hnumber hsubject hkind hlift
  · rw [hpacks, htasks]
    exact h.dug.replaced h.tied hx hnumber hsubject hkind hlift hclear
  · rw [hpacks]
    exact h.counted.congr_orders horders

/-- The station that held a task that returns to OPEN goes IDLE or off shift. -/
theorem stationLaw_reopened (h : stationLaw s) (hnodup : (s.tasks.map Machine.Task.number).Nodup) (hx : x ∈ s.tasks)
    (hn : x.station = some n) {lapsed : Option Nat} (htasks : t.tasks = replaced (x.toOpen lapsed) s.tasks)
    (hst : t.stations = changeNth s.stations n g)
    (hg : ∀ st, s.station n = some st → st.capacity ≠ none → ((g st).state = .idle ∧ (g st).capacity ≠ none) ∨
      ((g st).state = .offShift ∧ (g st).capacity = none)) : stationLaw t := by
  have hgone : ∀ u ∈ t.tasks, u.station ≠ some n := by
    intro u hu
    rw [htasks] at hu
    by_cases hm : u.number = (x.toOpen lapsed).number
    · rw [eq_of_mem_replaced hu hm]
      exact nofun
    · exact stationLaw_alone h hx hn u ((mem_replaced_of_ne hm).mp hu) hm
  refine stationLaw_replaced (x := x) (y := x.toOpen lapsed) (n := n) h hnodup hx rfl htasks
    (station_changed_ne hst) (stationLaw_alone h hx hn)
    (fun i hi => by rw [hn] at hi; exact (Option.some.inj hi).symm) (iff_of_true rfl rfl) (fun i hi => by cases hi)
    fun _ st hstn => ?_
  rw [station_changed hst, Option.mem_def, Option.map_eq_some_iff] at hstn
  obtain ⟨st', hst', rfl⟩ := hstn
  rcases hg st' hst' (stationLaw_onShift h hx hn hst') with ⟨hidle, hcap⟩ | ⟨hoff, hcap⟩
  · exact agrees_idle hcap hidle hgone
  · exact stationAgrees_offShift hcap hoff hgone

/-- A task that a station holds, not LIFTED, returns to OPEN, and its station goes IDLE or off shift. -/
theorem Bound.reopen (h : Bound s) (hx : x ∈ s.tasks) (hn : x.station = some n) (hstate : x.state ≠ .lifted)
    (hpacks : t.packs = s.packs) (horders : SameCounts s.orders t.orders) (lapsed : Option Nat)
    (htasks : t.tasks = s.tasks.map fun u => if u.number = x.number then u.toOpen lapsed else u)
    (hst : t.stations = changeNth s.stations n g)
    (hg : ∀ st, s.station n = some st → st.capacity ≠ none → ((g st).state = .idle ∧ (g st).capacity ≠ none) ∨
      ((g st).state = .offShift ∧ (g st).capacity = none)) : Bound t := by
  have hmap : t.tasks = replaced (x.toOpen lapsed) s.tasks :=
    htasks.trans (map_eq_replaced (f := Machine.Task.toOpen lapsed) h.tied.numbers hx rfl)
  refine h.retask hpacks horders hx (y := x.toOpen lapsed) rfl rfl rfl ?_ ?_ hmap ?_
  · exact iff_of_false nofun hstate
  · exact fun _ ho => by rcases ho with ho | ho <;> cases ho
  · exact stationLaw_reopened h.manned h.tied.numbers hx hn hmap hst hg

end

end Sys2Proof.Proofs
end

section
/-!
PROOFS. The laws of the work under offers, acceptances, declines, shifts, lapses and the clock (R119 to R129, R134 to
R138).
-/

namespace Sys2Proof.Proofs

open Sys2Proof.Machine Sys2Proof.Safety

/-! ## Timers -/

/-- The record differs in its timers, suggestion or lapsed station alone. -/
def SameTask (x y : Machine.Task) : Prop :=
  y.number = x.number ∧ y.kind = x.kind ∧ y.subject = x.subject ∧ y.state = x.state ∧ y.station = x.station

theorem isFetch_of_same {x y : Machine.Task} (h : y.kind = x.kind) : y.isFetch = x.isFetch := by
  unfold Machine.Task.isFetch
  rw [h]

section
variable {packs : Table Pack} {tasks : List Machine.Task} {f : Machine.Task → Machine.Task}

theorem numbers_map (hf : ∀ u, SameTask u (f u)) :
    (tasks.map f).map Machine.Task.number = tasks.map Machine.Task.number := by
  rw [List.map_map]
  exact List.map_congr_left fun u _ => (hf u).1

theorem Tied.map (h : Tied packs tasks) (hf : ∀ u, SameTask u (f u)) : Tied packs (tasks.map f) := by
  refine ⟨by rw [numbers_map hf]; exact h.numbers, fun u hu => ?_, fun u hu => ?_, h.shaped, fun k p hp hwork => ?_⟩
  · obtain ⟨x, hx, rfl⟩ := List.mem_map.mp hu
    rw [(hf x).1]
    exact h.range x hx
  · obtain ⟨x, hx, rfl⟩ := List.mem_map.mp hu
    obtain ⟨hnumber, hkind, hsubject, hstate, -⟩ := hf x
    obtain ⟨p, hp, hpx, hfits⟩ := h.subject x hx
    refine ⟨p, hsubject ▸ hp, hnumber ▸ hpx, ?_⟩
    unfold subjectFits at hfits ⊢
    rw [hkind, hstate]
    exact hfits
  · obtain ⟨x, hx, hsub, hpx⟩ := h.owner k p hp hwork
    obtain ⟨hnumber, -, hsubject, -⟩ := hf x
    exact ⟨f x, List.mem_map_of_mem hx, hsubject.trans hsub, hnumber ▸ hpx⟩

theorem Dug.map (h : Dug packs tasks) (hf : ∀ u, SameTask u (f u)) : Dug packs (tasks.map f) := by
  refine ⟨h.cover, fun u hu hfetch hlift => ?_, fun u hu hfetch hstate => ?_⟩
  · obtain ⟨x, hx, rfl⟩ := List.mem_map.mp hu
    obtain ⟨-, hkind, hsubject, hst, -⟩ := hf x
    rw [hkind, hsubject]
    exact h.shifts x hx (isFetch_of_same hkind ▸ hfetch) (hst ▸ hlift)
  · obtain ⟨x, hx, rfl⟩ := List.mem_map.mp hu
    obtain ⟨-, hkind, hsubject, hst, -⟩ := hf x
    rw [hsubject]
    exact h.fetches x hx (isFetch_of_same hkind ▸ hfetch) (hst ▸ hstate)

end

/-- Law 8 reads of a task its state and its station. -/
theorem stationLaw_map {s t : State} {f : Machine.Task → Machine.Task} (h : stationLaw s)
    (hf : ∀ u, (f u).state = u.state ∧ (f u).station = u.station) (htasks : t.tasks = s.tasks.map f)
    (hst : t.stations = s.stations) : stationLaw t := by
  obtain ⟨hheld, hone, hagree⟩ := h
  have hstation : ∀ n, t.station n = s.station n := fun n => by rw [State.station, hst, State.station]
  refine ⟨fun u hu => ?_, fun u hu v hv => ?_, fun n hn st hstn => ?_⟩
  · rw [htasks] at hu
    obtain ⟨x, hx, rfl⟩ := List.mem_map.mp hu
    obtain ⟨hstate, hstat⟩ := hf x
    simp only [hstate, hstat, hstation]
    exact hheld x hx
  · rw [htasks] at hu hv
    obtain ⟨x, hx, rfl⟩ := List.mem_map.mp hu
    obtain ⟨y, hy, rfl⟩ := List.mem_map.mp hv
    rw [(hf x).2, (hf y).2]
    exact fun hne he => congrArg f (hone x hx y hy hne he)
  · obtain ⟨hcap, hfree, hoffered, hbusy⟩ := hagree n hn st (hstation n ▸ hstn)
    refine ⟨hcap, fun hidle u hu => ?_, fun ho => ?_, fun hb => ?_⟩
    · rw [htasks] at hu
      obtain ⟨x, hx, rfl⟩ := List.mem_map.mp hu
      rw [(hf x).2]
      exact hfree hidle x hx
    · obtain ⟨x, hx, hxn, hstate⟩ := hoffered ho
      obtain ⟨hst', hstat⟩ := hf x
      exact ⟨f x, htasks ▸ List.mem_map_of_mem hx, hstat.trans hxn, hst'.trans hstate⟩
    · obtain ⟨x, hx, hxn, hstate⟩ := hbusy hb
      obtain ⟨hst', hstat⟩ := hf x
      exact ⟨f x, htasks ▸ List.mem_map_of_mem hx, hstat.trans hxn, hst' ▸ hstate⟩

/-- Timers may run and alarms be cleared. -/
theorem Bound.mapTasks {s t : State} {f : Machine.Task → Machine.Task} (h : Bound s) (hf : ∀ u, SameTask u (f u))
    (hpacks : t.packs = s.packs) (htasks : t.tasks = s.tasks.map f) (hst : t.stations = s.stations)
    (horders : SameCounts s.orders t.orders) : Bound t := by
  refine ⟨?_, stationLaw_map h.manned (fun u => (hf u).2.2.2) htasks hst, ?_, ?_⟩
  · rw [hpacks, htasks]; exact h.tied.map hf
  · rw [hpacks, htasks]; exact h.dug.map hf
  · rw [hpacks]; exact h.counted.congr_orders horders

theorem countView_tick (o : Order) : countView o.tick = countView o := rfl

theorem Bound.tick {s : State} (h : Bound s) : Bound (tick s) := by
  unfold Machine.tick
  split_ifs
  · exact h.of_alike ⟨rfl, rfl, rfl, sameCounts_change (fun _ => countView_tick) _⟩
  · exact h.mapTasks (f := Machine.Task.tick) (fun u => ⟨rfl, rfl, rfl, rfl, rfl⟩) rfl rfl rfl
      (sameCounts_change (fun _ => countView_tick) _)
  · exact h

/-! ## Offers -/

section
variable {s : State} {x : Machine.Task} {n : Nat}

/-- A RESERVED pack with no MOVING pack above it has nothing above it (R36, R120). -/
theorem clear_of_movingAbove (h : Dug s.packs s.tasks) {tag : Nat}
    (hres : stateAt s.packs tag = some .reserved) (hmoving : movingAbove s tag = false) (i : Nat) :
    ¬ atop (spot s.packs) i tag := by
  intro hatop
  obtain ⟨q, hq, hqs⟩ := stateAt_eq_some_iff.mp (h.cover i tag hres hatop)
  obtain ⟨l, m, hl, hm, hbay, hstack, hlt⟩ := hatop
  obtain ⟨p, hp, hpl⟩ := Option.bind_eq_some_iff.mp hl
  obtain ⟨q', hq', hql⟩ := Option.bind_eq_some_iff.mp hm
  cases hq.symm.trans hq'
  have hmem : (i, q) ∈ packsAbove s tag :=
    mem_packsAbove.mpr ⟨p, l, m, hp, hpl, Table.mem_of_get hq, hql, hbay, hstack, hlt⟩
  have hyes : movingAbove s tag = true := List.any_eq_true.mpr ⟨_, hmem, decide_eq_true hqs⟩
  rw [hmoving] at hyes
  cases hyes

theorem movingAbove_of_gatesOpen {r : LineRef} {tag : Nat} (h : gatesOpen s r tag = true) :
    movingAbove s tag = false := by
  obtain ⟨-, -, -, -, -, hmoving, -⟩ := (gatesOpen_iff s r tag).mp h
  rw [← Bool.not_eq_true, movingAbove, List.any_eq_true]
  rintro ⟨e, he, hes⟩
  exact hmoving e he (of_decide_eq_true hes)

/-- A task that may be offered has nothing above its subject, where it is a FETCH (R120). -/
theorem clear_of_offerable (h : Good s) (hx : x ∈ s.tasks) (hoffer : offerable s x = true)
    (hfetch : x.isFetch = true) (i : Nat) : ¬ atop (spot s.packs) i x.subject := by
  obtain ⟨hopen, -, ⟨tag, hkind⟩ | ⟨r, -, hgates⟩⟩ := (offerable_iff s x).mp hoffer
  · unfold Machine.Task.isFetch at hfetch
    rw [hkind] at hfetch
    cases hfetch
  · refine clear_of_movingAbove h.bound.dug
      (h.bound.tied.reserved_of_fetch hx hfetch (by rw [hopen]; exact nofun)) (movingAbove_of_gatesOpen hgates) i

/-- A station that goes by an IDLE or OFF_SHIFT record holds nothing (R119). -/
theorem stationLaw_free (h : stationLaw s) (hn : n ≤ Config.stationCount) {st : Station} (hst : s.station n = some st)
    (hs : st.state = .offShift ∨ st.state = .idle) : ∀ u ∈ s.tasks, u.station ≠ some n :=
  (h.2.2 n hn st hst).2.1 hs

theorem station_idle_of_canCarry (h : canCarry s x n = true) : ∃ st, s.station n = some st ∧ st.state = .idle := by
  unfold canCarry at h
  split at h
  · cases h
  · rename_i st hst
    exact ⟨st, hst, (of_decide_eq_true h).1⟩

theorem capacity_of_onShift (h : stationLaw s) (hn : n ≤ Config.stationCount) {st : Station}
    (hst : s.station n = some st) (hs : st.state ≠ .offShift) : st.capacity ≠ none :=
  fun hc => hs ((h.2.2 n hn st hst).1.mp hc)

theorem Bound.makeOffer (h : Good s) (hx : chosenTask s = some x) (hn : chosenStation s x = some n) :
    Bound (makeOffer x n s) := by
  obtain ⟨hmem, hoffer, -⟩ := mem_offerableTasks.mp (chosenTask_mem hx)
  obtain ⟨⟨-, hn8, hqual⟩, -⟩ := (chosenStation_iff s x n).mp hn
  have hcarry : canCarry s x n = true := by
    unfold qualifies at hqual
    exact (Bool.and_eq_true_iff.mp hqual).1
  obtain ⟨st, hst, hidle⟩ := station_idle_of_canCarry hcarry
  obtain ⟨hopen, -⟩ := (offerable_iff s x).mp hoffer
  have hnone : x.station = none := (stationLaw_opened h.bound.manned hmem).mp hopen
  have hfree := stationLaw_free h.bound.manned hn8 hst (Or.inr hidle)
  have htasks : (Machine.makeOffer x n s).tasks = replaced (offeredTask s x n) s.tasks :=
    map_eq_replaced (f := fun _ => offeredTask s x n) h.bound.tied.numbers hmem rfl
  have hstations : (Machine.makeOffer x n s).stations = changeNth s.stations n fun st => { st with state := .offered } :=
    rfl
  have hself : (Machine.makeOffer x n s).station n = some { st with state := .offered } := by
    rw [station_changed hstations, hst, Option.map_some]
  refine h.bound.retask rfl (.refl _) hmem (y := offeredTask s x n) rfl rfl rfl ?_ ?_ htasks ?_
  · exact iff_of_false nofun (by rw [hopen]; exact nofun)
  · exact fun hfetch _ => clear_of_offerable (x := x) h hmem hoffer hfetch
  · refine stationLaw_replaced (x := x) (y := offeredTask s x n) (n := n) h.bound.manned h.bound.tied.numbers hmem rfl
      htasks (station_changed_ne hstations) (fun u hu _ => hfree u hu) (fun i hi => by rw [hnone] at hi; cases hi)
      (iff_of_false nofun nofun) (fun i hi => ⟨(Option.some.inj hi).symm, hn8, by rw [hself]; rfl⟩) fun _ st' hst' => ?_
    cases hself.symm.trans hst'
    exact agrees_offered (capacity_of_onShift (st := st) h.bound.manned hn8 hst (by rw [hidle]; exact nofun)) rfl
      (u := offeredTask s x n) (htasks ▸ mem_replaced_self hmem rfl) rfl rfl

theorem bound_taskOffer {t : State} (h : Good s) (hx : execTaskOffer s = .next t) : Bound t := by
  unfold execTaskOffer at hx
  cases hx
  split_ifs
  · split
    · exact h.bound
    · split
      · exact h.bound
      · exact Bound.makeOffer h ‹_› ‹_›
  · exact h.bound

/-! ## Requests of a station -/

theorem of_heldTask (h : heldTask s n = some x) : x ∈ s.tasks ∧ x.station = some n :=
  ⟨List.mem_of_find?_eq_some h, by simpa using List.find?_some h⟩

theorem of_task {m : Nat} (h : s.task m = some x) : x ∈ s.tasks ∧ x.number = m :=
  ⟨List.mem_of_find?_eq_some h, by simpa using List.find?_some h⟩

/-- A station changes in nothing that law 8 speaks of. -/
theorem Bound.restation (h : Bound s) {g : Station → Station}
    (hg : ∀ st, s.station n = some st → (g st).state = st.state ∧ ((g st).capacity = none ↔ st.capacity = none)) :
    Bound (changeStation n g s) :=
  ⟨h.tied, stationLaw_changed h.manned (t := changeStation n g s) rfl rfl hg, h.dug, h.counted⟩

/-- A station goes on shift (R125). -/
theorem Bound.goOnShift (h : Bound s) {st : Station} (hst : s.station n = some st) (hoff : st.state = .offShift)
    {g : Station → Station} (hidle : (g st).state = .idle) (hcap : (g st).capacity ≠ none) :
    Bound (changeStation n g s) := by
  by_cases hn : n ≤ Config.stationCount
  · refine ⟨h.tied, stationLaw_step (m := 0) (n := n) h.manned h.tied.numbers (fun _ _ => Iff.rfl)
      (station_changed_ne rfl) (fun u hu _ => stationLaw_free h.manned hn hst (Or.inl hoff) u hu)
      (fun u hu h0 => absurd h0 (h.tied.number_ne_zero hu)) (fun u hu h0 => absurd h0 (h.tied.number_ne_zero hu))
      fun _ st' hst' => ?_, h.dug, h.counted⟩
    rw [station_changed (s := s) (g := g) rfl, hst] at hst'
    cases hst'
    exact agrees_idle hcap hidle fun u hu => stationLaw_free h.manned hn hst (Or.inl hoff) u hu
  · refine ⟨h.tied, stationLaw_step (m := 0) (n := n) h.manned h.tied.numbers (fun _ _ => Iff.rfl)
      (station_changed_ne rfl) (fun u hu _ hun => hn (stationLaw_holder h.manned hu hun).1)
      (fun u hu h0 => absurd h0 (h.tied.number_ne_zero hu)) (fun u hu h0 => absurd h0 (h.tied.number_ne_zero hu))
      fun hle => absurd hle hn, h.dug, h.counted⟩

theorem Bound.acceptTask (h : Bound s) (hx : x ∈ s.tasks) (hn : x.station = some n) (hoffered : x.state = .offered) :
    Bound (acceptTask n x.number s) := by
  obtain ⟨hn8, hsome, -⟩ := stationLaw_holder h.manned hx hn
  obtain ⟨st, hst⟩ := Option.isSome_iff_exists.mp hsome
  let y : Machine.Task :=
    { x with state := .accepted, deadline := some (Config.ticksOfSeconds s.settings.timers.lift) }
  have htasks : (Machine.acceptTask n x.number s).tasks = replaced y s.tasks :=
    map_eq_replaced (f := fun t : Machine.Task =>
      { t with state := .accepted, deadline := some (Config.ticksOfSeconds s.settings.timers.lift) })
      h.tied.numbers hx rfl
  have hstations : (Machine.acceptTask n x.number s).stations =
      changeNth s.stations n fun st => { st with state := .busy, lapses := 0 } := rfl
  have hself : (Machine.acceptTask n x.number s).station n = some { st with state := .busy, lapses := 0 } := by
    rw [station_changed hstations, hst, Option.map_some]
  refine h.retask rfl (.refl _) hx (y := y) rfl rfl rfl ?_ ?_ htasks ?_
  · exact iff_of_false nofun (by rw [hoffered]; exact nofun)
  · exact fun hfetch _ => h.dug.fetches x hx hfetch (Or.inl hoffered)
  · refine stationLaw_replaced (x := x) (y := y) (n := n) h.manned h.tied.numbers hx rfl htasks
      (station_changed_ne hstations) (stationLaw_alone h.manned hx hn)
      (fun i hi => by rw [hn] at hi; exact (Option.some.inj hi).symm)
      (iff_of_false nofun (by show x.station ≠ none; rw [hn]; exact nofun))
      (fun i hi => ⟨by have hi' : x.station = some i := hi; rw [hn] at hi'; exact (Option.some.inj hi').symm, hn8,
        by rw [hself]; rfl⟩) fun _ st' hst' => ?_
    cases hself.symm.trans hst'
    exact agrees_busy (u := y) (stationLaw_onShift (st := st) h.manned hx hn hst) rfl (htasks ▸ mem_replaced_self hx rfl) hn
      (Or.inl rfl)

/-! ## Task timers -/

theorem of_due {m : Nat} {state : TaskState} (h : (dueTask s m state).bind Machine.Task.station = some n) :
    ∃ x ∈ s.tasks, x.number = m ∧ x.station = some n ∧ x.state = state := by
  obtain ⟨x, hdue, hn⟩ := Option.bind_eq_some_iff.mp h
  obtain ⟨hx, hs, -⟩ := dueTask_spec hdue
  obtain ⟨hmem, hm⟩ := of_task hx
  exact ⟨x, hmem, hm, hn, hs⟩

theorem bound_offerLapse {t : State} (h : Bound s) {m : Nat} (hx : execOfferLapse m s = .next t) : Bound t := by
  unfold execOfferLapse at hx
  cases hx
  split_ifs
  · split
    · exact h
    · rename_i n hdue
      obtain ⟨x, hmem, rfl, hn, hs⟩ := of_due hdue
      refine Bound.of_alike ?_ (alike_postIf _ _ _)
      refine h.reopen hmem hn (by rw [hs]; exact nofun) (g := stationLapses) rfl (.refl _) (some n) rfl rfl ?_
      intro st hst hcap
      unfold stationLapses
      split_ifs
      · exact Or.inr ⟨rfl, rfl⟩
      · exact Or.inl ⟨rfl, hcap⟩
  · exact h

theorem bound_taskLapse {t : State} (h : Bound s) {m : Nat} (hx : execTaskLapse m s = .next t) : Bound t := by
  unfold execTaskLapse at hx
  cases hx
  split_ifs
  · split
    · exact h
    · rename_i n hdue
      obtain ⟨x, hmem, rfl, hn, hs⟩ := of_due hdue
      refine Bound.of_alike ?_ (alike_post _ _)
      exact h.reopen hmem hn (by rw [hs]; exact nofun) (g := fun st => { st with state := .idle, notice := true }) rfl
        (.refl _) (some n) rfl rfl fun st _ hcap => Or.inl ⟨rfl, hcap⟩
  · exact h

theorem bound_carryOverdue {t : State} (h : Bound s) {m : Nat} (hx : execCarryOverdue m s = .next t) : Bound t := by
  unfold execCarryOverdue at hx
  cases hx
  split_ifs
  · refine Bound.of_alike ?_ (alike_post _ _)
    exact h.mapTasks (fun u => by split_ifs; exacts [⟨rfl, rfl, rfl, rfl, rfl⟩, ⟨rfl, rfl, rfl, rfl, rfl⟩]) rfl rfl rfl
      (.refl _)
  · exact h

end

end Sys2Proof.Proofs
end

section
/-!
PROOFS. The laws of the work under lifts, drops and missing reports (R130 to R133).
-/

namespace Sys2Proof.Proofs

open Sys2Proof.Machine Sys2Proof.Safety

/-! ## A task that ends -/

section
variable {packs packs' : Table Pack} {tasks tasks' : List Machine.Task} {x y : Machine.Task} {k : Nat} {p : Pack}

/-- The pack of a task that ends comes to rest. -/
theorem Tied.retire (h : Tied packs tasks) (hx : x ∈ tasks) (hat : AtOne x.subject packs packs')
    (hafter : ∀ p, Table.get packs' x.subject = some p → Shaped p ∧ ¬ atWork p) :
    Tied packs' (tasks.filter fun u => decide (u.number ≠ x.number)) := by
  obtain ⟨p, hp, hpx, -⟩ := h.subject x hx
  refine h.step (k := x.subject) (m := x.number) hat.others (fun u hu => mem_retired_of_ne hu)
    (nodup_retired h.numbers _) (forall_get hp (Or.inr hpx))
    (fun u hu hm => congrArg Machine.Task.subject (h.eq_of_number hu hx hm))
    (fun u hu hm => absurd hm (number_ne_of_mem_retired hu)) fun q hq => ?_
  obtain ⟨hshape, hrest⟩ := hafter q hq
  exact ⟨hshape, fun hwork => absurd hwork hrest⟩

theorem Dug.retire (h : Dug packs tasks) (ht : Tied packs tasks) (hx : x ∈ tasks) (hat : AtOne x.subject packs packs')
    (hafter : ∀ p, Table.get packs' x.subject = some p → ¬ atWork p)
    (hatop : ∀ j, j ≠ x.subject → stateAt packs j = some .reserved → ¬ atop (spot packs') x.subject j)
    (hclear : stateAt packs x.subject = some .reserved → ∀ i, ¬ atop (spot packs) i x.subject) :
    Dug packs' (tasks.filter fun u => decide (u.number ≠ x.number)) := by
  refine h.step (k := x.subject) (m := x.number) hat.others hat.atop (fun u hu hm => ?_) ht.reserved_of_offered
    (fun hr => absurd hr (not_reserved_of_rest hafter)) (fun j hj hres hkj => absurd hkj (hatop j hj hres))
    (fun hr i _ hi => absurd hi (hclear hr i)) fun u hu hm => absurd hm (number_ne_of_mem_retired hu)
  have hin := (mem_retired_of_ne hm).mp hu
  exact ⟨hin, fun hk => hm (congrArg Machine.Task.number (ht.eq_of_subject hin hx hk))⟩

theorem isFetch_of_reserved (h : Tied packs tasks) (hx : x ∈ tasks) (hr : stateAt packs x.subject = some .reserved) :
    x.isFetch = true ∧ x.state ≠ .lifted := by
  obtain ⟨p, hp, -, hfits⟩ := h.subject x hx
  obtain ⟨q, hq, hqs⟩ := stateAt_eq_some_iff.mp hr
  cases hp.symm.trans hq
  unfold subjectFits at hfits
  split at hfits
  · rename_i r hkind
    refine ⟨isFetch_of_kind hkind, fun hl => ?_⟩
    rw [if_pos hl, hqs] at hfits
    cases hfits.2
  · obtain ⟨-, hs⟩ := hfits
    split_ifs at hs <;> rw [hqs] at hs <;> cases hs
  · rw [hqs] at hfits
    cases hfits.2.1

end

section
variable {s t : State} {x y : Machine.Task} {n : Nat} {g : Station → Station}

/-- The station that held a task that ends becomes IDLE (R132, R133). -/
theorem stationLaw_dropped (h : stationLaw s) (hnodup : (s.tasks.map Machine.Task.number).Nodup) (hx : x ∈ s.tasks)
    (hn : x.station = some n) (htasks : t.tasks = s.tasks.filter fun u => decide (u.number ≠ x.number))
    (hst : t.stations = changeNth s.stations n g)
    (hg : ∀ st, (g st).state = .idle ∧ (g st).capacity = st.capacity) : stationLaw t := by
  refine stationLaw_retired (x := x) (n := n) h hnodup hx htasks (station_changed_ne hst) (stationLaw_alone h hx hn)
    (fun i hi => by rw [hn] at hi; exact (Option.some.inj hi).symm) fun _ st hstn => ?_
  rw [station_changed hst, Option.mem_def, Option.map_eq_some_iff] at hstn
  obtain ⟨st', hst', rfl⟩ := hstn
  obtain ⟨hidle, hcap⟩ := hg st'
  refine agrees_idle (hcap ▸ stationLaw_onShift h hx hn hst') hidle fun u hu => ?_
  rw [htasks] at hu
  exact stationLaw_alone h hx hn u ((mem_retired_of_ne (number_ne_of_mem_retired hu)).mp hu)
    (number_ne_of_mem_retired hu)

/-- A withdrawn task leaves its station IDLE, if one held it (R139). -/
theorem stationLaw_dismissed (h : stationLaw s) (hnodup : (s.tasks.map Machine.Task.number).Nodup) (hx : x ∈ s.tasks)
    (htasks : t.tasks = s.tasks.filter fun u => decide (u.number ≠ x.number))
    (hst : t.stations = dismissed x.station s.stations) : stationLaw t := by
  cases hn : x.station with
  | some n =>
    rw [hn] at hst
    exact stationLaw_dropped h hnodup hx hn htasks hst fun st => ⟨rfl, rfl⟩
  | none =>
    rw [hn] at hst
    have hzero : ∀ v : State, v.station 0 = none := fun v => by rw [State.station, nth, if_pos rfl]
    refine stationLaw_retired (x := x) (n := 0) h hnodup hx htasks (fun i _ => by rw [State.station, hst]; rfl)
      (fun u hu _ hu0 => ?_) (fun i hi => by rw [hn] at hi; cases hi) fun _ st hst0 => ?_
    · obtain ⟨-, hsome, -⟩ := stationLaw_holder h hu hu0
      rw [hzero] at hsome
      cases hsome
    · rw [hzero] at hst0
      cases hst0

end

/-! ## Lifts -/

/-- A pack as a lift by a task leaves it (R131 step 3). -/
def liftedPack (number : Nat) (p : Pack) : Pack := { p with state := .lifted, task := some number }

theorem shaped_lifted {p : Pack} (hs : p.state = .lifted) (hl : p.location = none) (hh : p.hold = none) : Shaped p := by
  constructor <;> simp [hs, hl, hh]

theorem hold_eq_none {p : Pack} (h : Shaped p) (hs : p.state ≠ .held) : p.hold = none := by
  have := h.hold
  cases hh : p.hold with
  | none => rfl
  | some why => rw [hh] at this; exact absurd (this.mp rfl) hs

section
variable {s t : State} {y : Machine.Task} {p : Pack}

/-- A lift, in what concerns packs and tasks: the pack leaves its stack, and its task is LIFTED. -/
theorem lift_packs (h : Good s) (hp : Table.get s.packs y.subject = some p)
    (hstate : p.state ≠ .held ∧ p.state ≠ .loaded) (hrange : 1 ≤ y.number ∧ y.number ≤ Config.taskCapacity)
    (hpt : p.task = none ∨ p.task = some y.number) (hlifted : y.state = .lifted)
    (hfits : subjectFits y (liftedPack y.number p))
    (hclear : p.state = .reserved → ∀ i, ¬ atop (spot s.packs) i y.subject)
    (hpacks : t.packs = Table.update (removeFromStack y.subject s).packs y.subject (liftedPack y.number))
    (htasks : ∀ u : Machine.Task, u.number ≠ y.number → (u ∈ t.tasks ↔ u ∈ s.tasks))
    (hnodup : (t.tasks.map Machine.Task.number).Nodup) (hin : y ∈ t.tasks)
    (hsame : ∀ u ∈ s.tasks, u.number = y.number → u.subject = y.subject)
    (hother : ∀ u ∈ s.tasks, u.number ≠ y.number → u.subject ≠ y.subject) (horders : SameCounts s.orders t.orders) :
    Tied t.packs t.tasks ∧ Dug t.packs t.tasks ∧ Counted t.packs t.orders := by
  have hget : Table.get t.packs y.subject = some (liftedPack y.number { p with location := none }) := by
    rw [hpacks, Table.get_update_self, get_removeFromStack_self, hp, Option.map_some, Option.map_some]
  have hat : AtOne y.subject s.packs t.packs := by
    rw [hpacks]
    exact (atOne_removeFromStack h.apart _).trans (atOne_update _ _ _)
  have hself : ∀ u ∈ t.tasks, u.number = y.number → u = y := fun u hu hm => eq_of_number hnodup hu hin hm
  have hspot : spot t.packs y.subject = none := by rw [spot, hget]; rfl
  have hnot : stateAt t.packs y.subject ≠ some .reserved := fun hr => by
    rw [stateAt, hget] at hr
    cases hr
  refine ⟨?_, ?_, ?_⟩
  · refine h.bound.tied.step (m := y.number) hat.others htasks hnodup (forall_get hp hpt) hsame (fun u hu hm => ?_)
      (forall_get hget ⟨shaped_lifted rfl rfl (hold_eq_none (p := p) (h.bound.tied.shaped _ p hp) hstate.1),
        fun _ => ⟨rfl, y, hin, rfl⟩⟩)
    cases hself u hu hm
    exact ⟨hrange.1, hrange.2, rfl, _, hget, rfl, hfits⟩
  · refine h.bound.dug.step (m := y.number) hat.others hat.atop (fun u hu hm => ?_) h.bound.tied.reserved_of_offered
      (fun hr => absurd hr hnot) (fun j _ _ hj => absurd hj (not_atop_of_upper_none hspot j)) (fun hr i _ hi => ?_)
      fun u hu hm => ?_
    · have hu' := (htasks u hm).mp hu
      exact ⟨hu', hother u hu' hm⟩
    · rw [stateAt, hp] at hr
      exact absurd hi (hclear (Option.some.inj hr) i)
    · cases hself u hu hm
      refine ⟨fun _ hl => absurd hlifted hl, fun _ ho => ?_⟩
      rw [hlifted] at ho
      rcases ho with ho | ho <;> cases ho
  · refine (h.bound.counted.same hat h.keys.1 ?_ ?_).congr_orders horders
    · rw [hpacks]
      exact Table.rising_update _ _ (rising_removeFromStack _ h.keys.1)
    · rw [burdenAt, burdenAt, hget, hp, Option.bind_some, Option.bind_some, burden, burden, liftedPack]
      simp [hstate.2]

end

section
variable {s : State} {x : Machine.Task} {n tag : Nat} {p : Pack} {st : Station}

/-- The station that lifts is on shift, and holds nothing but the task that is lifted. -/
def Takes (s : State) (n : Nat) (st : Station) (number : Nat) : Prop :=
  s.station n = some st ∧ n ≤ Config.stationCount ∧ st.capacity ≠ none ∧
    ∀ u ∈ s.tasks, u.number ≠ number → u.station ≠ some n

theorem packs_liftPack (tag task : Nat) (t : State) (h : t.packs = s.packs) :
    (liftPack tag task t).packs = Table.update (removeFromStack tag s).packs tag (liftedPack task) := by
  rw [liftPack, packs_changePack, packs_removeFromStack_congr tag h]
  rfl

theorem Bound.liftBy (h : Good s) (hx : x ∈ s.tasks) (hstate : x.state ≠ .lifted)
    (hxn : ∀ i ∈ x.station, i = n) (htakes : Takes s n st x.number)
    (hclear : x.isFetch = true → ∀ i, ¬ atop (spot s.packs) i x.subject) (suggested : Option (Nat × Nat))
    (fresh : Bool) : Bound (liftBy n x suggested fresh s) := by
  obtain ⟨hst, hn8, hcap, hfree⟩ := htakes
  obtain ⟨p, hp, hpx, hfits⟩ := h.bound.tied.subject x hx
  let y := liftedTask s n suggested x
  let u : State := changeStation n (stationLifts (subjectPlace s x) fresh)
    (liftPack x.subject x.number (changeTask x.number (liftedTask s n suggested) s))
  have hwork := h.bound.tied.atWork_subject hx hp
  have htasks : u.tasks = replaced y s.tasks := by
    simp only [u, tasks_changeStation, liftPack, tasks_changePack, tasks_removeFromStack, tasks_changeTask]
    exact map_eq_replaced (f := liftedTask s n suggested) h.bound.tied.numbers hx rfl
  have hpacks : u.packs = Table.update (removeFromStack y.subject s).packs y.subject (liftedPack y.number) :=
    packs_liftPack x.subject x.number _ rfl
  have hstations : u.stations = changeNth s.stations n (stationLifts (subjectPlace s x) fresh) := by
    simp only [u, stations_changeStation, liftPack, stations_changePack, stations_removeFromStack, stations_changeTask]
  have horders : u.orders = s.orders := by
    simp only [u, orders_changeStation, liftPack, orders_changePack, orders_removeFromStack, orders_changeTask]
  have hin : y ∈ u.tasks := htasks ▸ mem_replaced_self hx rfl
  have hself : u.station n = some (stationLifts (subjectPlace s x) fresh st) := by
    rw [station_changed hstations, hst, Option.map_some]
  obtain ⟨htied, hdug, hcounted⟩ := lift_packs (t := u) (y := y) h hp
    ⟨by rcases hwork with hs | hs | hs <;> rw [hs] <;> exact nofun,
      by rcases hwork with hs | hs | hs <;> rw [hs] <;> exact nofun⟩
    (h.bound.tied.range x hx) (Or.inr hpx) rfl
    (by
      unfold subjectFits at hfits ⊢
      show match x.kind with | .fetch _ => _ | .shift _ => _ | .giveBack => _
      cases hk : x.kind <;> rw [hk] at hfits
      · exact ⟨hfits.1, rfl⟩
      · exact ⟨hfits.1, rfl⟩
      · exact absurd hfits.2.2 hstate)
    (fun hr => hclear (isFetch_of_reserved h.bound.tied hx (by rw [stateAt, hp, Option.map_some, hr])).1) hpacks
    (fun v hv => htasks ▸ mem_replaced_of_ne hv) (by rw [htasks, numbers_replaced]; exact h.bound.tied.numbers) hin
    (fun v hv hm => (congrArg Machine.Task.subject (h.bound.tied.eq_of_number hv hx hm) : v.subject = x.subject))
    (fun v hv hm hs => hm (congrArg Machine.Task.number (h.bound.tied.eq_of_subject hv hx hs) : v.number = x.number))
    (horders ▸ .refl _)
  refine Bound.of_alike (s := u) ⟨htied, ?_, hdug, hcounted⟩ (alike_observe _ _ _)
  refine stationLaw_replaced (x := x) (y := y) (n := n) h.bound.manned h.bound.tied.numbers hx rfl htasks
    (station_changed_ne hstations) hfree hxn (iff_of_false nofun nofun)
    (fun i hi => ⟨(Option.some.inj hi).symm, hn8, by rw [hself]; rfl⟩) fun _ st' hst' => ?_
  cases hself.symm.trans hst'
  exact agrees_busy hcap rfl hin rfl (Or.inr rfl)

theorem Bound.liftUnplanned (h : Good s) (hp : Table.get s.packs tag = some p) (hstored : p.state = .stored)
    (hroom : freeTasks s ≠ 0) (hst : s.station n = some st) (hn8 : n ≤ Config.stationCount) (hcap : st.capacity ≠ none)
    (hfree : ∀ u ∈ s.tasks, u.station ≠ some n) : Bound (liftUnplanned n tag p s) := by
  obtain ⟨hrest, hres, hptask⟩ := h.bound.idle hp (Or.inl hstored)
  obtain ⟨hlow, hhigh, hfresh, -⟩ := freeTaskNumber_spec (s := s) (by unfold freeTasks Config.taskCapacity at hroom; omega)
  let y := returnTask s n tag p
  let u : State := changeStation n (stationLifts p.location true)
    (liftPack tag (freeTaskNumber s) (addTask (returnTask s n tag p) s))
  have htasks : u.tasks = s.tasks ++ [y] := by
    simp only [u, tasks_changeStation, liftPack, tasks_changePack, tasks_removeFromStack, tasks_addTask, y]
  have hpacks : u.packs = Table.update (removeFromStack y.subject s).packs y.subject (liftedPack y.number) :=
    packs_liftPack tag (freeTaskNumber s) _ rfl
  have hstations : u.stations = changeNth s.stations n (stationLifts p.location true) := by
    simp only [u, stations_changeStation, liftPack, stations_changePack, stations_removeFromStack, stations_addTask]
  have horders : u.orders = s.orders := by
    simp only [u, orders_changeStation, liftPack, orders_changePack, orders_removeFromStack, orders_addTask]
  have hin : y ∈ u.tasks := by rw [htasks]; simp
  have hself : u.station n = some (stationLifts p.location true st) := by
    rw [station_changed hstations, hst, Option.map_some]
  obtain ⟨htied, hdug, hcounted⟩ := lift_packs (t := u) (y := y) h hp
    ⟨by rw [hstored]; exact nofun, by rw [hstored]; exact nofun⟩ ⟨hlow, hhigh⟩ (Or.inl hptask) rfl
    ⟨hres, rfl, rfl⟩ (fun hr => by rw [hstored] at hr; cases hr) hpacks (fun v hv => htasks ▸ mem_added_of_ne hv)
    (htasks ▸ nodup_added h.bound.tied.numbers hfresh) hin (fun v hv hm => absurd (List.mem_map.mpr ⟨v, hv, hm⟩) hfresh)
    (fun v hv _ hs => hrest (h.bound.tied.atWork_subject hv (hs ▸ hp))) (horders ▸ .refl _)
  refine Bound.of_alike (s := u) ⟨htied, ?_, hdug, hcounted⟩ (alike_observe _ _ _)
  refine stationLaw_added (y := y) (n := n) h.bound.manned h.bound.tied.numbers hfresh htasks
    (station_changed_ne hstations) hfree (iff_of_false nofun nofun)
    (fun i hi => ⟨(Option.some.inj hi).symm, hn8, by rw [hself]; rfl⟩) fun _ st' hst' => ?_
  cases hself.symm.trans hst'
  exact agrees_busy hcap rfl hin rfl (Or.inr rfl)

end

end Sys2Proof.Proofs
end

section
/-!
PROOFS. The laws of the work under drops and missing reports (R132, R133).
-/

namespace Sys2Proof.Proofs

open Sys2Proof.Machine Sys2Proof.Safety

/-! ## The pack a station carries -/

section
variable {s : State} {x : Machine.Task} {p : Pack} {r : LineRef}

theorem lifted_subject (h : Bound s) (hx : x ∈ s.tasks) (hl : x.state = .lifted) :
    ∃ p, Table.get s.packs x.subject = some p ∧ p.task = some x.number ∧ subjectFits x p ∧ p.state = .lifted ∧
      p.location = none ∧ p.hold = none := by
  obtain ⟨p, hp, hpx, hfits⟩ := h.tied.subject x hx
  have hs : p.state = .lifted := by
    unfold subjectFits at hfits
    rw [hl] at hfits
    split at hfits
    · exact hfits.2
    · exact hfits.2
    · exact hfits.2.1
  have hshape := h.tied.shaped _ p hp
  have hhold := hold_eq_none hshape (by rw [hs]; exact nofun)
  refine ⟨p, hp, hpx, hfits, hs, ?_, hhold⟩
  have hplace := hshape.place
  rw [hs, hhold] at hplace
  cases hloc : p.location with
  | none => rfl
  | some l => rw [hloc] at hplace; simpa using hplace.mp rfl

theorem burdenAt_of_get {packs : Table Pack} {k : Nat} (hp : Table.get packs k = some p)
    (hr : p.reservation = some r) : burdenAt packs k = some (r, p.mass, decide (p.state = .loaded)) := by
  rw [burdenAt, hp, Option.bind_some, burden, hr, Option.map_some]

theorem reservation_of_fetch (hfits : subjectFits x p) (hkind : x.kind = .fetch r) : p.reservation = some r := by
  unfold subjectFits at hfits
  rw [hkind] at hfits
  exact hfits.1

theorem reservation_of_other (hfits : subjectFits x p) (hfetch : x.isFetch = false) : p.reservation = none := by
  unfold subjectFits at hfits
  unfold Machine.Task.isFetch at hfetch
  split at hfits
  · rename_i hkind
    rw [hkind] at hfetch
    cases hfetch
  · exact hfits.1
  · exact hfits.1

theorem kind_of_isFetch (h : x.isFetch = true) : ∃ r, x.kind = .fetch r := by
  unfold Machine.Task.isFetch at h
  split at h
  · exact ⟨_, ‹_›⟩
  · cases h
  · cases h

end

/-! ## Drops to the truck -/

section
variable {s : State} {x : Machine.Task} {p : Pack} {r : LineRef} {n : Nat}

theorem packs_loadLine (r : LineRef) (s : State) : (loadLine r s).packs = s.packs := by
  obtain ⟨o, m, a, e⟩ := loadLine_frame r s
  rw [e]

theorem tasks_loadLine (r : LineRef) (s : State) : (loadLine r s).tasks = s.tasks := by
  obtain ⟨o, m, a, e⟩ := loadLine_frame r s
  rw [e]

theorem stations_loadLine (r : LineRef) (s : State) : (loadLine r s).stations = s.stations := by
  obtain ⟨o, m, a, e⟩ := loadLine_frame r s
  rw [e]

/-- A pack as a drop to the truck leaves it (R132). -/
def loadedPack (p : Pack) : Pack := { p with state := .loaded, task := none }

theorem shaped_loaded {p : Pack} (hs : p.state = .loaded) (hl : p.location = none) (hh : p.hold = none)
    (ht : p.task = none) (hr : p.reservation.isSome = true) : Shaped p ∧ ¬ atWork p := by
  refine ⟨by constructor <;> simp [hs, hl, hh, ht, hr], ?_⟩
  unfold atWork
  rw [hs]
  simp

theorem Bound.dropOnTruck (h : Good s) (hx : x ∈ s.tasks) (hn : x.station = some n) (hl : x.state = .lifted)
    (hkind : x.kind = .fetch r) : Bound (dropOnTruck n x r s) := by
  obtain ⟨p, hp, hpx, hfits, hs, hloc, hhold⟩ := lifted_subject h.bound hx hl
  have hres := reservation_of_fetch hfits hkind
  let u : State := changeStation n (stationDrops none) (retireTask x.number (loadLine r (loadPack x.subject s)))
  have hpacks : u.packs = Table.update (removeFromStack x.subject s).packs x.subject loadedPack := by
    simp only [u, packs_changeStation, packs_retireTask, packs_loadLine, loadPack, packs_changePack]
    rfl
  have htasks : u.tasks = s.tasks.filter fun v => decide (v.number ≠ x.number) := by
    simp only [u, tasks_changeStation, tasks_retireTask, tasks_loadLine, loadPack, tasks_changePack,
      tasks_removeFromStack]
  have hstations : u.stations = changeNth s.stations n (stationDrops none) := by
    simp only [u, stations_changeStation, stations_retireTask, stations_loadLine, loadPack, stations_changePack,
      stations_removeFromStack]
  have horders : SameCounts (Table.update s.orders r.handle (Order.loadOne r.line)) u.orders := by
    have he : (loadLine r (loadPack x.subject s)).orders = Table.update s.orders r.handle (Order.loadOne r.line) := by
      rw [orders_loadLine, loadPack, orders_changePack, orders_removeFromStack]
    rw [← he]
    exact sameCounts_retireTask _ _
  have hget : Table.get u.packs x.subject = some (loadedPack { p with location := none }) := by
    rw [hpacks, Table.get_update_self, get_removeFromStack_self, hp, Option.map_some, Option.map_some]
  have hat : AtOne x.subject s.packs u.packs := by
    rw [hpacks]
    exact (atOne_removeFromStack h.apart _).trans (atOne_update _ _ _)
  have hafter := shaped_loaded (p := loadedPack { p with location := none }) rfl rfl hhold rfl
    (by show p.reservation.isSome = true; rw [hres]; rfl)
  have hrising : Table.rising u.packs := by
    rw [hpacks]
    exact Table.rising_update _ _ (rising_removeFromStack _ h.keys.1)
  refine Bound.endClaim (s := u) ⟨?_, ?_, ?_, ?_⟩ _ _
  · rw [htasks]
    exact h.bound.tied.retire hx hat (forall_get hget hafter)
  · exact stationLaw_dropped h.bound.manned h.bound.tied.numbers hx hn htasks hstations fun st => ⟨rfl, rfl⟩
  · rw [htasks]
    refine h.bound.dug.retire h.bound.tied hx hat (forall_get hget hafter.2) (fun j _ _ => ?_) fun hr => ?_
    · exact not_atop_of_upper_none (by rw [spot, hget]; rfl) j
    · rw [stateAt, hp, Option.map_some, hs] at hr
      cases hr
  · refine (h.bound.counted.load (k := x.subject) (r := r) (mass := p.mass) hat h.keys.1 hrising ?_ ?_).congr_orders
      horders
    · rw [burdenAt_of_get hp hres, hs]
      rfl
    · exact burdenAt_of_get (p := loadedPack { p with location := none }) hget hres

/-! ## Drops to a stack -/

theorem Bound.dropOnStack (h : Good s) (hx : x ∈ s.tasks) (hn : x.station = some n) (hl : x.state = .lifted)
    (hfetch : x.isFetch = false) {bay stack : Nat} {disabled : Status}
    (hcheck : putDownCheck s bay stack disabled = none) : Bound (dropOnStack n x bay stack s) := by
  obtain ⟨p, hp, hpx, hfits, hs, hloc, hhold⟩ := lifted_subject h.bound hx hl
  have hres := reservation_of_other hfits hfetch
  let u : State :=
    changeStation n (stationDrops (some bay)) (retireTask x.number (Machine.putDown bay stack x.subject Pack.toStored s))
  have hpacks : u.packs = (Machine.putDown bay stack x.subject Pack.toStored s).packs := by
    simp only [u, packs_changeStation, packs_retireTask]
  have htasks : u.tasks = s.tasks.filter fun v => decide (v.number ≠ x.number) := by
    simp only [u, tasks_changeStation, tasks_retireTask, tasks_putDown]
  have hstations : u.stations = changeNth s.stations n (stationDrops (some bay)) := by
    simp only [u, stations_changeStation, stations_retireTask, stations_putDown]
  have horders : SameCounts s.orders u.orders := sameCounts_retireTask _ _
  have hlive : x.subject ∈ s.packs.keys := mem_keys_iff_get.mpr ⟨p, hp⟩
  have hget : Table.get u.packs x.subject =
      some { Pack.toStored { p with location := none } with
        location := some ⟨bay, stack, height (removeFromStack x.subject s) bay stack⟩
        wetted := p.wetted || rainsOn s bay } := by
    rw [hpacks, packs_putDown, Table.get_update_self, get_removeFromStack_self, hp, Option.map_some, Option.map_some]
  have hat : AtOne x.subject s.packs u.packs := by
    rw [hpacks]
    exact atOne_putDown h.apart _ _ _ _
  have hafter := forall_get (P := fun q => Shaped q ∧ ¬ atWork q) hget (shaped_stored rfl rfl rfl rfl rfl)
  refine Bound.endClaim (s := u) ⟨?_, ?_, ?_, ?_⟩ _ _
  · rw [htasks]
    exact h.bound.tied.retire hx hat hafter
  · exact stationLaw_dropped h.bound.manned h.bound.tied.numbers hx hn htasks hstations fun st => ⟨rfl, rfl⟩
  · rw [htasks]
    refine h.bound.dug.retire h.bound.tied hx hat (fun q hq => (hafter q hq).2) (fun j hj hjr => ?_) fun hr => ?_
    · rw [hpacks]
      exact not_atop_reserved_putDown hcheck hlive j hj hjr
    · rw [stateAt, hp, Option.map_some, hs] at hr
      cases hr
  · refine (h.bound.counted.same hat h.keys.1 ?_ ?_).congr_orders horders
    · rw [hpacks]
      exact rising_putDown _ _ _ _ h.keys.1
    · rw [burdenAt_of_none (forall_get hget rfl), burdenAt_of_none (forall_get hp hres)]

/-- A FETCH subject set back on a stack, before the rain is judged (R132). -/
def setDown (n : Nat) (x : Machine.Task) (bay stack : Nat) (s : State) : State :=
  changeStation n (stationDrops (some bay))
    (lapseTask n x.number (putDown bay stack x.subject (fun p => { p with state := .reserved }) s))

theorem setBack_eq_setDown (n : Nat) (x : Machine.Task) (bay stack : Nat) (s : State) :
    setBack n x bay stack s =
      Machine.endClaim (some x.subject) s.packs (judgeRained bay x.subject (setDown n x bay stack s)) := rfl

theorem shaped_reserved {p : Pack} (hs : p.state = .reserved) (hl : p.location.isSome = true) (hh : p.hold = none) :
    Shaped p := by
  constructor <;> simp [hs, hl, hh]

theorem Bound.setDown (h : Good s) (hx : x ∈ s.tasks) (hn : x.station = some n) (hl : x.state = .lifted)
    (hkind : x.kind = .fetch r) {bay stack : Nat} {disabled : Status}
    (hcheck : putDownCheck s bay stack disabled = none) : Bound (setDown n x bay stack s) := by
  obtain ⟨p, hp, hpx, hfits, hs, hloc, hhold⟩ := lifted_subject h.bound hx hl
  have hres := reservation_of_fetch hfits hkind
  have hfetch : x.isFetch = true := isFetch_of_kind hkind
  let y : Machine.Task := x.toOpen (some n)
  let u : State := Proofs.setDown n x bay stack s
  have hpacks : u.packs = (Machine.putDown bay stack x.subject (fun p => { p with state := .reserved }) s).packs := rfl
  have htasks : u.tasks = replaced y s.tasks :=
    map_eq_replaced (f := Machine.Task.toOpen (some n)) h.bound.tied.numbers hx rfl
  have hstations : u.stations = changeNth s.stations n (stationDrops (some bay)) := rfl
  have hlive : x.subject ∈ s.packs.keys := mem_keys_iff_get.mpr ⟨p, hp⟩
  have hget : Table.get u.packs x.subject =
      some { p with
        state := .reserved
        location := some ⟨bay, stack, height (removeFromStack x.subject s) bay stack⟩
        wetted := p.wetted || rainsOn s bay } := by
    rw [hpacks, packs_putDown, Table.get_update_self, get_removeFromStack_self, hp, Option.map_some, Option.map_some]
  have hat : AtOne x.subject s.packs u.packs := by
    rw [hpacks]
    exact atOne_putDown h.apart _ _ _ _
  have hin : y ∈ u.tasks := htasks ▸ mem_replaced_self hx rfl
  have hbefore : stateAt s.packs x.subject ≠ some .reserved := fun hr => by
    rw [stateAt, hp, Option.map_some, hs] at hr
    cases hr
  have hunder : ∀ i, ¬ atop (spot u.packs) i x.subject := by
    rw [hpacks]
    exact not_atop_putDown h.keys.1 h.tiers hlive
  have habove : ∀ j, j ≠ x.subject → stateAt s.packs j = some .reserved → ¬ atop (spot u.packs) x.subject j := by
    rw [hpacks]
    exact not_atop_reserved_putDown hcheck hlive
  have hrising : Table.rising u.packs := by
    rw [hpacks]
    exact rising_putDown _ _ _ _ h.keys.1
  refine ⟨?_, ?_, ?_, ?_⟩
  · refine h.bound.tied.step (k := x.subject) (m := x.number) hat.others
      (fun v hv => by rw [show (Proofs.setDown n x bay stack s).tasks = _ from htasks]; exact mem_replaced_of_ne hv)
      (by rw [show (Proofs.setDown n x bay stack s).tasks = _ from htasks, numbers_replaced]; exact h.bound.tied.numbers)
      (forall_get hp (Or.inr hpx))
      (fun v hv hm => congrArg Machine.Task.subject (h.bound.tied.eq_of_number hv hx hm)) (fun v hv hm => ?_)
      (forall_get hget ⟨shaped_reserved rfl rfl hhold, fun _ => ⟨hpx, y, hin, rfl⟩⟩)
    rw [show (Proofs.setDown n x bay stack s).tasks = _ from htasks] at hv
    cases eq_of_mem_replaced hv hm
    obtain ⟨hlow, hhigh⟩ := h.bound.tied.range x hx
    refine ⟨hlow, hhigh, rfl, _, hget, hpx, ?_⟩
    show match x.kind with | .fetch _ => _ | .shift _ => _ | .giveBack => _
    rw [hkind]
    exact ⟨hres, rfl⟩
  · exact stationLaw_reopened (x := x) h.bound.manned h.bound.tied.numbers hx hn htasks hstations
      fun st _ hcap => Or.inl ⟨rfl, hcap⟩
  · refine h.bound.dug.step (k := x.subject) (m := x.number) hat.others hat.atop (fun v hv hm => ?_)
      h.bound.tied.reserved_of_offered (fun _ i _ hi => absurd hi (hunder i))
      (fun j hj hjr hkj => absurd hkj (habove j hj hjr))
      (fun hr => absurd hr hbefore) fun v hv hm => ?_
    · rw [show (Proofs.setDown n x bay stack s).tasks = _ from htasks] at hv
      have hv' := (mem_replaced_of_ne (y := y) hm).mp hv
      exact ⟨hv', fun hk => hm (congrArg Machine.Task.number (h.bound.tied.eq_of_subject hv' hx hk))⟩
    · rw [show (Proofs.setDown n x bay stack s).tasks = _ from htasks] at hv
      cases eq_of_mem_replaced hv hm
      refine ⟨fun hnot => ?_, fun _ ho => by rcases ho with ho | ho <;> cases ho⟩
      rw [show y.isFetch = x.isFetch from rfl, hfetch] at hnot
      cases hnot
  · refine h.bound.counted.same hat h.keys.1 hrising ?_
    rw [burdenAt_of_get hp hres, hs]
    exact burdenAt_of_get hget hres

/-! ## Missing reports -/

/-- No SHIFT digs toward a pack with nothing above it (R36). -/
theorem shiftsToWithdraw_eq_nil (h : Bound s) {tag : Nat} (hclear : ∀ i, ¬ atop (spot s.packs) i tag) :
    shiftsToWithdraw s tag = [] := by
  rw [shiftsToWithdraw, List.filter_eq_nil_iff]
  intro v hv hyes
  obtain ⟨hkind, hstate⟩ := of_decide_eq_true hyes
  have hfetch : v.isFetch = false := by unfold Machine.Task.isFetch; rw [hkind]
  obtain ⟨j, hkj, -, hatop⟩ := h.dug.shifts v hv hfetch hstate
  cases hkind.symm.trans hkj
  exact hclear _ hatop

theorem orders_lowerCountsOf {s : State} {p : Pack} (hr : p.reservation = some r) :
    lowerCountsOf p s = changeOrder r.handle (lowered r.line p.mass) s := by
  rw [lowerCountsOf, hr]
  rfl

/-- What a missing report releases (R133): the counts of a FETCH's line, and nothing for a SHIFT. -/
theorem releaseMissing_frame (h : Bound s) (hx : x ∈ s.tasks) (hstate : x.state = .offered ∨ x.state = .accepted)
    (hp : Table.get s.packs x.subject = some p) :
    (x.isFetch = false ∧ releaseMissing x s = s) ∨
      ∃ r, x.kind = .fetch r ∧ releaseMissing x s = changeOrder r.handle (lowered r.line p.mass) s := by
  obtain ⟨q, hq, -, hfits⟩ := h.tied.subject x hx
  cases hp.symm.trans hq
  cases hfetch : x.isFetch with
  | false => exact Or.inl ⟨rfl, by unfold releaseMissing; rw [hfetch, hp]⟩
  | true =>
    obtain ⟨r, hkind⟩ := kind_of_isFetch hfetch
    refine Or.inr ⟨r, hkind, ?_⟩
    have hshifts : releaseShifts x.subject s = s := by
      rw [releaseShifts, shiftsToWithdraw_eq_nil h (h.dug.fetches x hx hfetch hstate), List.foldl_nil]
    rw [← orders_lowerCountsOf (reservation_of_fetch hfits hkind)]
    unfold releaseMissing
    rw [hfetch, hp, hshifts]

theorem Bound.reportLost (h : Good s) (hx : x ∈ s.tasks) (hn : x.station = some n)
    (hstate : x.state = .offered ∨ x.state = .accepted) : Bound (reportLost n x s) := by
  obtain ⟨p, hp, hpx, hfits⟩ := h.bound.tied.subject x hx
  let v : State := releaseMissing x s
  let u : State := changeStation n (stationDrops ((subjectPlace s x).map Location.bay))
    (post .packMissing (retireTask x.number (losePack x.subject v)))
  have hframe := releaseMissing_frame h.bound hx hstate hp
  have hv : v.packs = s.packs ∧ v.tasks = s.tasks ∧ v.stations = s.stations := by
    rcases hframe with ⟨-, e⟩ | ⟨r, -, e⟩
    · rw [show v = s from e]
      exact ⟨rfl, rfl, rfl⟩
    · rw [show v = changeOrder r.handle (lowered r.line p.mass) s from e]
      exact ⟨rfl, rfl, rfl⟩
  obtain ⟨hvp, hvt, hvs⟩ := hv
  have hpacks : u.packs = Table.update (removeFromStack x.subject s).packs x.subject (Pack.toHeld .missing) := by
    simp only [u, packs_changeStation, packs_post, packs_retireTask, losePack, packs_changePack,
      packs_removeFromStack_congr x.subject hvp]
  have htasks : u.tasks = s.tasks.filter fun w => decide (w.number ≠ x.number) := by
    simp only [u, tasks_changeStation, tasks_post, tasks_retireTask, losePack, tasks_changePack,
      tasks_removeFromStack, hvt]
  have hstations : u.stations =
      changeNth s.stations n (stationDrops ((subjectPlace s x).map Location.bay)) := by
    simp only [u, stations_changeStation, stations_post, stations_retireTask, losePack, stations_changePack,
      stations_removeFromStack, hvs]
  have horders : SameCounts v.orders u.orders := by
    have he : (losePack x.subject v).orders = v.orders := by
      rw [losePack, orders_changePack, orders_removeFromStack]
    rw [← he]
    exact sameCounts_retireTask _ _
  have hget : Table.get u.packs x.subject = some (Pack.toHeld .missing { p with location := none }) := by
    rw [hpacks, Table.get_update_self, get_removeFromStack_self, hp, Option.map_some, Option.map_some]
  have hat : AtOne x.subject s.packs u.packs := by
    rw [hpacks]
    exact (atOne_removeFromStack h.apart _).trans (atOne_update _ _ _)
  have hafter := forall_get (P := fun q => Shaped q ∧ ¬ atWork q) hget
    (shaped_held (why := .missing) rfl rfl rfl rfl (iff_of_false (by simp [Pack.toHeld]) nofun))
  have hrising : Table.rising u.packs := by
    rw [hpacks]
    exact Table.rising_update _ _ (rising_removeFromStack _ h.keys.1)
  have hnone : burdenAt u.packs x.subject = none := burdenAt_of_none (forall_get hget rfl)
  refine Bound.endClaim (s := u) ⟨?_, ?_, ?_, ?_⟩ _ _
  · rw [htasks]
    exact h.bound.tied.retire hx hat hafter
  · exact stationLaw_dropped h.bound.manned h.bound.tied.numbers hx hn htasks hstations
      fun st => by unfold stationDrops; split <;> exact ⟨rfl, rfl⟩
  · rw [htasks]
    refine h.bound.dug.retire h.bound.tied hx hat (fun q hq => (hafter q hq).2) (fun j _ _ => ?_) fun hr => ?_
    · exact not_atop_of_upper_none (by rw [spot, hget]; rfl) j
    · exact h.bound.dug.fetches x hx (isFetch_of_reserved h.bound.tied hx hr).1 hstate
  · refine Counted.congr_orders (orders := v.orders) ?_ horders
    rcases hframe with ⟨hfetch, e⟩ | ⟨r, hkind, e⟩
    · rw [show v.orders = s.orders from congrArg State.orders e]
      refine h.bound.counted.same hat h.keys.1 hrising ?_
      rw [hnone, burdenAt_of_none (forall_get hp (reservation_of_other hfits hfetch))]
    · rw [show v.orders = Table.update s.orders r.handle (lowered r.line p.mass) from congrArg State.orders e]
      have hres := reservation_of_fetch hfits hkind
      refine h.bound.counted.lower hat h.keys.1 hrising ?_ hnone
      have hs : p.state ≠ .loaded := by
        rcases h.bound.tied.atWork_subject hx hp with hs | hs | hs <;> rw [hs] <;> exact nofun
      rw [burdenAt_of_get hp hres, decide_eq_false hs]

end

end Sys2Proof.Proofs
end

section
/-!
PROOFS. The laws of the work under the release of a reservation (R139): SHIFT by SHIFT for all but law 4, which a release
keeps only as a whole.
-/

namespace Sys2Proof.Proofs

open Sys2Proof.Machine Sys2Proof.Safety

/-! ## One withdrawal -/

/-- The laws of the work but law 4, with the keys of the Pack Table. -/
structure Loose (s : State) : Prop where
  rising : Table.rising s.packs
  tied : Tied s.packs s.tasks
  manned : stationLaw s
  counted : Counted s.packs s.orders

section
variable {s t : State} {x : Machine.Task} {p : Pack} {tag : Nat}

theorem Good.loose (h : Good s) : Loose s := ⟨h.keys.1, h.bound.tied, h.bound.manned, h.bound.counted⟩

/-- The record of an unlifted SHIFT's pack. -/
theorem Tied.shift_subject {packs : Table Pack} {tasks : List Machine.Task} (h : Tied packs tasks) (hx : x ∈ tasks)
    (hkind : x.kind = .shift tag) (hstate : x.state ≠ .lifted) :
    ∃ p, Table.get packs x.subject = some p ∧ p.state = .moving ∧ p.reservation = none ∧ p.location.isSome = true := by
  obtain ⟨p, hp, -, hfits⟩ := h.subject x hx
  unfold subjectFits at hfits
  rw [hkind] at hfits
  obtain ⟨hres, hs⟩ := hfits
  rw [if_neg hstate] at hs
  exact ⟨p, hp, hs, hres, (h.shaped _ p hp).place.mpr (Or.inr (Or.inr (Or.inl hs)))⟩

theorem Loose.withdrawShift (h : Loose s) (hx : x ∈ s.tasks) (hkind : x.kind = .shift tag) (hstate : x.state ≠ .lifted) :
    Loose (withdrawShift s x) := by
  obtain ⟨p, hp, -, hres, hloc⟩ := h.tied.shift_subject hx hkind hstate
  have hpacks : (Machine.withdrawShift s x).packs = Table.update s.packs x.subject Pack.toStored := by
    rw [Machine.withdrawShift, withdraw, packs_changePack, packs_retireTask, packs_dismiss]
  have htasks : (Machine.withdrawShift s x).tasks = s.tasks.filter fun u => decide (u.number ≠ x.number) := by
    rw [Machine.withdrawShift, withdraw, tasks_changePack, tasks_retireTask, tasks_dismiss]
  have hstations : (Machine.withdrawShift s x).stations = dismissed x.station s.stations := by
    rw [Machine.withdrawShift, withdraw, stations_changePack, stations_retireTask, stations_dismiss]
  have horders : SameCounts s.orders (Machine.withdrawShift s x).orders := by
    rw [Machine.withdrawShift, withdraw, orders_changePack, ← orders_dismiss s x.station]
    exact sameCounts_retireTask _ _
  have hget : Table.get (Table.update s.packs x.subject Pack.toStored) x.subject = some p.toStored := by
    rw [Table.get_update_self, hp, Option.map_some]
  have hat := atOne_update x.subject s.packs Pack.toStored
  have hrising := Table.rising_update x.subject Pack.toStored h.rising
  refine ⟨hpacks ▸ hrising, ?_, stationLaw_dismissed h.manned h.tied.numbers hx htasks hstations, ?_⟩
  · rw [hpacks, htasks]
    exact h.tied.retire hx hat (forall_get hget (shaped_stored rfl hloc rfl rfl rfl))
  · rw [hpacks]
    refine (h.counted.same hat h.rising hrising ?_).congr_orders horders
    rw [burdenAt_of_none (forall_get hget rfl), burdenAt_of_none (forall_get hp hres)]

theorem Loose.withdrawShifts (h : Loose s) (gone : List Machine.Task) (hnodup : (gone.map Machine.Task.number).Nodup)
    (hgone : ∀ x ∈ gone, x ∈ s.tasks ∧ x.kind = .shift tag ∧ x.state ≠ .lifted) :
    Loose (gone.foldl Machine.withdrawShift s) := by
  induction gone generalizing s with
  | nil => exact h
  | cons x gone ih =>
    obtain ⟨hx, hkind, hstate⟩ := hgone x List.mem_cons_self
    rw [List.map_cons, List.nodup_cons] at hnodup
    refine ih (h.withdrawShift hx hkind hstate) hnodup.2 fun y hy => ?_
    obtain ⟨hymem, hy'⟩ := hgone y (List.mem_cons_of_mem _ hy)
    have hne : y.number ≠ x.number := fun he => hnodup.1 (he ▸ List.mem_map_of_mem hy)
    refine ⟨?_, hy'⟩
    rw [Machine.withdrawShift, withdraw, tasks_changePack, tasks_retireTask, tasks_dismiss]
    exact (mem_retired_of_ne hne).mpr hymem

theorem mem_shiftsToWithdraw : x ∈ shiftsToWithdraw s tag ↔ x ∈ s.tasks ∧ x.kind = .shift tag ∧ x.state ≠ .lifted := by
  rw [shiftsToWithdraw, List.mem_filter, decide_eq_true_eq]

theorem Loose.releaseShifts (h : Loose s) (tag : Nat) : Loose (releaseShifts tag s) :=
  h.withdrawShifts (tag := tag) _ (nodup_retired h.tied.numbers _) fun _ hx => mem_shiftsToWithdraw.mp hx

/-! ## What a release leaves of the other packs -/

theorem get_releaseShifts (tag j : Nat) (s : State) :
    Table.get (Machine.releaseShifts tag s).packs j =
      (Table.get s.packs j).map fun q =>
        if j ∈ (shiftsToWithdraw s tag).map Machine.Task.subject then q.toStored else q := by
  rw [Machine.releaseShifts, packs_foldl_withdrawShift]
  exact Table.get_change s.packs
    (fun i q => if i ∈ (shiftsToWithdraw s tag).map Machine.Task.subject then q.toStored else q) j

theorem get_releaseShifts_of_not_mem {j : Nat} (hj : j ∉ (shiftsToWithdraw s tag).map Machine.Task.subject) :
    Table.get (Machine.releaseShifts tag s).packs j = Table.get s.packs j := by
  rw [get_releaseShifts]
  simp only [if_neg hj, Option.map_id']

/-- A pack that is not MOVING is left by the withdrawal of SHIFT tasks. -/
theorem get_releaseShifts_of_not_moving (h : Tied s.packs s.tasks) {j : Nat}
    (hj : stateAt s.packs j ≠ some .moving) : Table.get (Machine.releaseShifts tag s).packs j = Table.get s.packs j := by
  refine get_releaseShifts_of_not_mem fun hmem => ?_
  obtain ⟨x, hx, rfl⟩ := List.mem_map.mp hmem
  obtain ⟨hin, hkind, hstate⟩ := mem_shiftsToWithdraw.mp hx
  obtain ⟨p, hp, hs, -⟩ := h.shift_subject hin hkind hstate
  exact hj (stateAt_eq_some_iff.mpr ⟨p, hp, hs⟩)

theorem spot_releaseShifts (tag j : Nat) (s : State) :
    spot (Machine.releaseShifts tag s).packs j = spot s.packs j := by
  rw [spot, get_releaseShifts, spot]
  cases Table.get s.packs j with
  | none => rfl
  | some q => rw [Option.map_some, Option.bind_some, Option.bind_some]; split_ifs <;> rfl

theorem tasks_releaseShifts (tag : Nat) (s : State) :
    (Machine.releaseShifts tag s).tasks =
      s.tasks.filter fun u => decide (u.number ∉ (shiftsToWithdraw s tag).map Machine.Task.number) := by
  rw [Machine.releaseShifts, tasks_foldl_withdrawShift]

/-- Law 4 in what a release leaves: fewer RESERVED packs and fewer tasks. -/
theorem Dug.thin {packs packs' : Table Pack} {tasks tasks' : List Machine.Task} (h : Dug packs tasks)
    (hspot : ∀ j, spot packs' j = spot packs j) (htasks : ∀ u ∈ tasks', u ∈ tasks)
    (hreserved : ∀ j, stateAt packs' j = some .reserved → stateAt packs j = some .reserved)
    (hmoving : ∀ i j, stateAt packs' j = some .reserved → atop (spot packs) i j → stateAt packs i = some .moving →
      stateAt packs' i = some .moving)
    (hserved : ∀ u ∈ tasks', u.state ≠ .lifted → ∀ j, u.kind = .shift j → stateAt packs j = some .reserved →
      stateAt packs' j = some .reserved) : Dug packs' tasks' := by
  have he : spot packs' = spot packs := funext hspot
  refine ⟨fun i j hj hij => ?_, fun u hu hfetch hlift => ?_, fun u hu => ?_⟩
  · rw [he] at hij
    exact hmoving i j hj hij (h.cover i j (hreserved j hj) hij)
  · obtain ⟨j, hkind, hj, hij⟩ := h.shifts u (htasks u hu) hfetch hlift
    exact ⟨j, hkind, hserved u hu hlift j hkind hj, he ▸ hij⟩
  · rw [he]
    exact h.fetches u (htasks u hu)

theorem tierLaw_of_spot (hr : Table.rising s.packs) (hr' : Table.rising t.packs)
    (hspot : ∀ j, spot t.packs j = spot s.packs j) (h : tierLaw s) : tierLaw t := by
  rw [tierLaw_iff hr', show spot t.packs = spot s.packs from funext hspot]
  exact (tierLaw_iff hr).mp h

/-! ## The release of a reservation at rest -/

theorem fetchOf_eq (h : Tied s.packs s.tasks) (hx : x ∈ s.tasks) (hsubject : x.subject = tag)
    (hfetch : x.isFetch = true) : fetchOf s tag = some x := by
  cases hf : fetchOf s tag with
  | none =>
    have := List.find?_eq_none.mp hf x hx
    simp [hsubject, hfetch] at this
  | some y =>
    have hy := List.find?_some hf
    simp only [Bool.and_eq_true, decide_eq_true_eq] at hy
    rw [h.eq_of_subject (List.mem_of_find?_eq_some hf) hx (hy.1.trans hsubject.symm)]

/-- The FETCH of a RESERVED pack (R37). -/
theorem fetch_of_reserved (h : Tied s.packs s.tasks) (hp : Table.get s.packs tag = some p) (hs : p.state = .reserved) :
    ∃ x ∈ s.tasks, x.subject = tag ∧ x.state ≠ .lifted ∧ ∃ r, x.kind = .fetch r ∧ p.reservation = some r := by
  obtain ⟨x, hx, hsubject, -⟩ := h.owner tag p hp (Or.inl hs)
  subst hsubject
  obtain ⟨hfetch, hstate⟩ := isFetch_of_reserved h hx (stateAt_eq_some_iff.mpr ⟨p, hp, hs⟩)
  obtain ⟨q, hq, -, hfits⟩ := h.subject x hx
  cases hp.symm.trans hq
  obtain ⟨r, hkind⟩ := kind_of_isFetch hfetch
  exact ⟨x, hx, rfl, hstate, r, hkind, reservation_of_fetch hfits hkind⟩

/-- What a release at rest makes of the pack: STORED or HELD, with nothing reserved. -/
def Frees (after : Pack → Pack) : Prop :=
  ∀ p : Pack, p.location.isSome = true →
    Shaped (after p) ∧ ¬ atWork (after p) ∧ (after p).reservation = none ∧ (after p).location = p.location

theorem frees_toStored : Frees Pack.toStored := fun p hp => by
  obtain ⟨hshape, hrest⟩ := shaped_stored (p := p.toStored) rfl hp rfl rfl rfl
  exact ⟨hshape, hrest, rfl, rfl⟩

theorem frees_toDamaged : Frees (Pack.toHeld .damaged) := fun p hp => by
  obtain ⟨hshape, hrest⟩ := shaped_held (p := p.toHeld .damaged) (why := .damaged) rfl rfl rfl rfl (iff_of_true hp rfl)
  exact ⟨hshape, hrest, rfl, rfl⟩

/-- A release keeps law 4: no MOVING pack that it frees stands above a RESERVED pack other than the released one. -/
theorem Dug.release {w : State} (h : Good s) (hres : stateAt s.packs tag = some .reserved)
    (hspot : ∀ j, spot w.packs j = spot s.packs j)
    (hother : ∀ j, j ≠ tag → Table.get w.packs j = Table.get (Machine.releaseShifts tag s).packs j)
    (hself : stateAt w.packs tag ≠ some .reserved)
    (htasks : ∀ u ∈ w.tasks, u ∈ (Machine.releaseShifts tag s).tasks) : Dug w.packs w.tasks := by
  have hin : ∀ u ∈ w.tasks, u ∈ s.tasks ∧ u ∉ shiftsToWithdraw s tag := by
    intro u hu
    have hu' := htasks u hu
    rw [tasks_releaseShifts, List.mem_filter, decide_eq_true_eq] at hu'
    exact ⟨hu'.1, fun hmem => hu'.2 (List.mem_map_of_mem hmem)⟩
  have hreserved : ∀ j, stateAt w.packs j = some .reserved → j ≠ tag ∧ stateAt s.packs j = some .reserved := by
    intro j hj
    have hne : j ≠ tag := fun e => hself (e ▸ hj)
    refine ⟨hne, ?_⟩
    obtain ⟨q, hq, hqs⟩ := stateAt_eq_some_iff.mp hj
    rw [hother j hne, get_releaseShifts, Option.map_eq_some_iff] at hq
    obtain ⟨q', hq', hqe⟩ := hq
    split_ifs at hqe
    · rw [← hqe] at hqs
      cases hqs
    · exact stateAt_eq_some_iff.mpr ⟨q', hq', hqe ▸ hqs⟩
  refine h.bound.dug.thin hspot (fun u hu => (hin u hu).1) (fun j hj => (hreserved j hj).2) (fun i j hj hij hi => ?_)
    fun u hu hlift j hkj hj => ?_
  · obtain ⟨hne, hjs⟩ := hreserved j hj
    have hit : i ≠ tag := by
      rintro rfl
      rw [hres] at hi
      cases hi
    rw [stateAt, hother i hit, get_releaseShifts_of_not_mem, ← stateAt, hi]
    intro hgone
    obtain ⟨y, hy, rfl⟩ := List.mem_map.mp hgone
    obtain ⟨hyin, hykind, hystate⟩ := mem_shiftsToWithdraw.mp hy
    obtain ⟨j', hkj', hj', hatop⟩ := h.bound.dug.shifts y hyin
      (by unfold Machine.Task.isFetch; rw [hykind]) hystate
    cases hykind.symm.trans hkj'
    rcases atop_linear h.apart hij hatop hne with hab | hab
    · have := h.bound.dug.cover _ _ hjs hab
      rw [hj'] at this
      cases this
    · have := h.bound.dug.cover _ _ hj' hab
      rw [hjs] at this
      cases this
  · have hjt : j ≠ tag := by
      rintro rfl
      exact (hin u hu).2 (mem_shiftsToWithdraw.mpr ⟨(hin u hu).1, hkj, hlift⟩)
    rw [stateAt, hother j hjt, get_releaseShifts_of_not_moving h.bound.tied (by rw [hj]; exact nofun), ← stateAt, hj]

theorem rising_orders_withdrawShifts (gone : List Machine.Task) (h : Table.rising s.orders) :
    Table.rising (gone.foldl Machine.withdrawShift s).orders := by
  induction gone generalizing s with
  | nil => exact h
  | cons y gone ih =>
    refine ih ?_
    rw [Machine.withdrawShift, withdraw, orders_changePack, orders_retireTask, orders_dismiss]
    exact Table.rising_change _ h

theorem Good.releaseAtRest (h : Good s) (hp : Table.get s.packs tag = some p) (hs : p.state = .reserved)
    {after : Pack → Pack} (hafter : Frees after) : Good (releaseAtRest tag after s) := by
  have hloose := h.loose.releaseShifts tag
  have hvget : Table.get (Machine.releaseShifts tag s).packs tag = some p := by
    rw [get_releaseShifts_of_not_moving h.bound.tied, hp]
    rw [stateAt, hp, Option.map_some, hs]
    exact nofun
  obtain ⟨f, hf, hsubject, hfstate, r, hkind, hres⟩ := fetch_of_reserved hloose.tied hvget hs
  have hwork : atWork p := Or.inl hs
  have hloc : p.location.isSome = true := (h.bound.tied.shaped tag p hp).place.mpr (Or.inr (Or.inl hs))
  have he := releaseAtRest_eq after hp hres rfl (fetchOf_eq hloose.tied hf hsubject (isFetch_of_kind hkind))
  generalize hv : Machine.releaseShifts tag s = v at hloose hvget hf he
  let w : State := Machine.releaseAtRest tag after s
  have hpacks : w.packs = Table.update v.packs tag after := by
    simp only [w, he, packs_changePack, lowerCounts, packs_changeOrder, withdraw, packs_retireTask, packs_dismiss]
  have htasks : w.tasks = v.tasks.filter fun u => decide (u.number ≠ f.number) := by
    simp only [w, he, tasks_changePack, lowerCounts, tasks_changeOrder, withdraw, tasks_retireTask, tasks_dismiss]
  have hstations : w.stations = dismissed f.station v.stations := by
    simp only [w, he, stations_changePack, lowerCounts, stations_changeOrder, withdraw, stations_retireTask,
      stations_dismiss]
  have horders : w.orders =
      Table.update (Table.change v.orders fun _ o => o.unstarved) r.handle (lowered r.line p.mass) := by
    simp only [w, he, orders_changePack, lowerCounts_eq, orders_changeOrder, withdraw, orders_retireTask,
      orders_dismiss]
  obtain ⟨hshape, hrest, hnone, hplace⟩ := hafter p hloc
  have hget : Table.get w.packs tag = some (after p) := by
    rw [hpacks, Table.get_update_self, hvget, Option.map_some]
  have hother : ∀ j, j ≠ tag → Table.get w.packs j = Table.get v.packs j := fun j hj => by
    rw [hpacks, Table.get_update_other _ _ hj]
  have hat : AtOne tag v.packs w.packs := hpacks ▸ atOne_update _ _ _
  have hrising : Table.rising w.packs := hpacks ▸ Table.rising_update _ _ hloose.rising
  have hspot : ∀ j, spot w.packs j = spot s.packs j := fun j => by
    rw [← spot_releaseShifts tag j s, hv]
    by_cases hj : j = tag
    · subst hj
      rw [spot, hget, spot, hvget]
      exact hplace
    · rw [spot, hother j hj, spot]
  refine ⟨⟨hrising, ?_⟩, tierLaw_of_spot h.keys.1 hrising hspot h.tiers, ?_, ?_, ?_, ?_⟩
  · show Table.rising w.orders
    rw [horders]
    have hvo : Table.rising v.orders := hv ▸ rising_orders_withdrawShifts _ h.keys.2
    exact Table.rising_update _ _ (Table.rising_change _ hvo)
  · show Tied w.packs w.tasks
    rw [htasks]
    exact hloose.tied.retire hf (hsubject ▸ hat) (hsubject ▸ forall_get hget ⟨hshape, hrest⟩)
  · exact stationLaw_dismissed hloose.manned hloose.tied.numbers hf htasks hstations
  · show Dug w.packs w.tasks
    refine Dug.release h (stateAt_eq_some_iff.mpr ⟨p, hp, hs⟩) hspot (fun j hj => hv ▸ hother j hj) (fun hr => ?_)
      fun u hu => ?_
    · obtain ⟨q, hq, hqs⟩ := stateAt_eq_some_iff.mp hr
      cases hget.symm.trans hq
      exact hrest (Or.inl hqs)
    · rw [htasks] at hu
      exact hv ▸ (List.mem_filter.mp hu).1
  · show Counted w.packs w.orders
    rw [horders]
    refine Counted.lower (k := tag) (mass := p.mass) hat hloose.rising hrising ?_
      (burdenAt_of_none (forall_get hget hnone)) (hloose.counted.congr_orders (sameCounts_unstarved _))
    rw [burdenAt_of_get hvget hres, hs]
    rfl

end

end Sys2Proof.Proofs
end

section
/-!
PROOFS. The laws of the work under the end of an order (R76 to R79): its reservations are released one by one, and its
LOADED packs leave it together.
-/

namespace Sys2Proof.Proofs

open Sys2Proof.Machine Sys2Proof.Safety

/-! ## The release of a LIFTED pack -/

section
variable {s : State} {x : Machine.Task} {p : Pack} {tag : Nat} {r : LineRef} {n : Nat} {st : Station}

/-- A station whose task is LIFTED is BUSY (R119). -/
theorem stationLaw_busy (h : stationLaw s) (hx : x ∈ s.tasks) (hn : x.station = some n) (hl : x.state = .lifted)
    (hst : s.station n = some st) : st.state = .busy := by
  obtain ⟨hle, -⟩ := stationLaw_holder h hx hn
  obtain ⟨-, hfree, hoffered, -⟩ := h.2.2 n hle st hst
  cases hs : st.state with
  | offShift => exact absurd hn (hfree (Or.inl hs) x hx)
  | idle => exact absurd hn (hfree (Or.inr hs) x hx)
  | offered =>
    obtain ⟨u, hu, hun, hus⟩ := hoffered hs
    cases h.2.1 u hu x hx (by rw [hun]; exact nofun) (hun.trans hn.symm)
    rw [hl] at hus
    cases hus
  | busy => rfl

theorem releaseLifted_unfold (h : Bound s) (hx : x ∈ s.tasks) (hsubject : x.subject = tag)
    (hkind : x.kind = .fetch r) (hn : x.station = some n) (hp : Table.get s.packs tag = some p)
    (hres : p.reservation = some r) (hs : p.state = .lifted) :
    releaseLifted tag s =
      changePack tag (fun q => { q with reservation := none })
        (lowerCounts r p.mass
          (changeStation n (fun st => { st with notice := true })
            (changeTask x.number
              (fun u => { u with kind := .giveBack, suggested := suggestFromStation s (some n) }) s))) := by
  have hnil : shiftsToWithdraw s tag = [] := by
    rw [List.eq_nil_iff_forall_not_mem]
    intro v hv
    obtain ⟨hv', hvk, hvs⟩ := mem_shiftsToWithdraw.mp hv
    obtain ⟨j, hj, hjr, -⟩ := h.dug.shifts v hv' (by unfold Machine.Task.isFetch; rw [hvk]) hvs
    cases hvk.symm.trans hj
    rw [stateAt, hp, Option.map_some, hs] at hjr
    cases hjr
  have hv : s = releaseShifts tag s := by rw [releaseShifts, hnil, List.foldl_nil]
  exact releaseLifted_eq hp hres hv (fetchOf_eq h.tied hx hsubject (isFetch_of_kind hkind)) hn

/-- The FETCH of a LIFTED pack with a reservation (R37). -/
theorem fetch_of_lifted (h : Bound s) (hp : Table.get s.packs tag = some p) (hs : p.state = .lifted)
    (hres : p.reservation = some r) :
    ∃ x ∈ s.tasks, x.subject = tag ∧ x.state = .lifted ∧ x.kind = .fetch r ∧ ∃ n, x.station = some n := by
  obtain ⟨x, hx, hsubject, -⟩ := h.tied.owner tag p hp (Or.inr (Or.inr hs))
  subst hsubject
  obtain ⟨q, hq, -, hfits⟩ := h.tied.subject x hx
  cases hp.symm.trans hq
  unfold subjectFits at hfits
  split at hfits
  · rename_i r' hkind
    obtain ⟨hr, hst⟩ := hfits
    have hl : x.state = .lifted := by
      by_contra hne
      rw [if_neg hne, hs] at hst
      cases hst
    refine ⟨x, hx, rfl, hl, ?_, ?_⟩
    · rw [hkind, Option.some.inj (hr.symm.trans hres)]
    · refine Option.ne_none_iff_exists'.mp fun hnone => ?_
      have := (stationLaw_opened h.manned hx).mpr hnone
      rw [hl] at this
      cases this
  · rw [hres] at hfits
    cases hfits.1
  · rw [hres] at hfits
    cases hfits.1

theorem Good.releaseLifted (h : Good s) (hp : Table.get s.packs tag = some p) (hs : p.state = .lifted)
    (hres : p.reservation = some r) :
    Good (releaseLifted tag s) ∧
      (∀ j, j ≠ tag → Table.get (releaseLifted tag s).packs j = Table.get s.packs j) ∧
      Table.get (releaseLifted tag s).packs tag = some { p with reservation := none } := by
  obtain ⟨x, hx, hsubject, hl, hkind, n, hn⟩ := fetch_of_lifted h.bound hp hs hres
  have he := releaseLifted_unfold h.bound hx hsubject hkind hn hp hres hs
  subst hsubject
  let y : Machine.Task := { x with kind := .giveBack, suggested := suggestFromStation s (some n) }
  let w : State := Machine.releaseLifted x.subject s
  obtain ⟨hn8, hsome, -⟩ := stationLaw_holder h.bound.manned hx hn
  obtain ⟨st, hst⟩ := Option.isSome_iff_exists.mp hsome
  obtain ⟨q, hq, hpx, hfits⟩ := h.bound.tied.subject x hx
  cases hp.symm.trans hq
  obtain ⟨hlow, hhigh⟩ := h.bound.tied.range x hx
  have hshape := h.bound.tied.shaped _ p hp
  have hpacks : w.packs = Table.update s.packs x.subject fun q => { q with reservation := none } := by
    simp only [w, he, packs_changePack, lowerCounts, packs_changeOrder, packs_changeStation, packs_changeTask]
  have htasks : w.tasks = replaced y s.tasks := by
    simp only [w, he, tasks_changePack, lowerCounts, tasks_changeOrder, tasks_changeStation, tasks_changeTask]
    exact map_eq_replaced (f := fun u : Machine.Task =>
      { u with kind := .giveBack, suggested := suggestFromStation s (some n) }) h.bound.tied.numbers hx rfl
  have hstations : w.stations = changeNth s.stations n fun st => { st with notice := true } := by
    simp only [w, he, stations_changePack, lowerCounts, stations_changeOrder, stations_changeStation,
      stations_changeTask]
  have horders : w.orders = Table.update s.orders r.handle (lowered r.line p.mass) := by
    simp only [w, he, orders_changePack, lowerCounts_eq, orders_changeOrder, orders_changeStation, orders_changeTask]
  have hget : Table.get w.packs x.subject = some { p with reservation := none } := by
    rw [hpacks, Table.get_update_self, hp, Option.map_some]
  have hat : AtOne x.subject s.packs w.packs := hpacks ▸ atOne_update _ _ _
  have hrising : Table.rising w.packs := hpacks ▸ Table.rising_update _ _ h.keys.1
  have hspot : ∀ j, spot w.packs j = spot s.packs j := by
    rw [hpacks]
    exact spot_change_of_location fun i q => by split_ifs <;> rfl
  have hin : y ∈ w.tasks := htasks ▸ mem_replaced_self hx rfl
  have hself : w.station n = some { st with notice := true } := by
    rw [station_changed hstations, hst, Option.map_some]
  have hloc : spot s.packs x.subject = none := by
    obtain ⟨q, hq, -, -, -, hnone, -⟩ := lifted_subject h.bound hx hl
    cases hp.symm.trans hq
    rw [spot, hp]
    exact hnone
  have hnot : ∀ {packs : Table Pack} {q : Pack}, Table.get packs x.subject = some q → q.state = .lifted →
      stateAt packs x.subject ≠ some .reserved := fun hg hq hr => by
    rw [stateAt, hg, Option.map_some, hq] at hr
    cases hr
  refine ⟨⟨⟨hrising, ?_⟩, tierLaw_of_spot h.keys.1 hrising hspot h.tiers, ?_, ?_, ?_, ?_⟩, fun j hj => ?_, hget⟩
  · show Table.rising w.orders
    rw [horders]
    exact Table.rising_update _ _ h.keys.2
  · show Tied w.packs w.tasks
    refine h.bound.tied.step (k := x.subject) (m := y.number) hat.others (fun u hu => htasks ▸ mem_replaced_of_ne hu)
      (by rw [htasks, numbers_replaced]; exact h.bound.tied.numbers) (forall_get hp (Or.inr hpx))
      (fun u hu hm => (congrArg Machine.Task.subject (h.bound.tied.eq_of_number hu hx hm) : u.subject = x.subject))
      (fun u hu hm => ?_) (forall_get hget ⟨⟨?_, hshape.hold, ?_, fun _ => rfl, ?_⟩, fun _ => ⟨hpx, y, hin, rfl⟩⟩)
    · rw [htasks] at hu
      cases eq_of_mem_replaced hu hm
      exact ⟨hlow, hhigh, rfl, _, hget, hpx, rfl, hs, hl⟩
    · exact hshape.place
    · exact hshape.task
    · intro hload
      have hload' : p.state = .loaded := hload
      rw [hs] at hload'
      cases hload'
  · show stationLaw w
    refine stationLaw_replaced (x := x) (y := y) (n := n) h.bound.manned h.bound.tied.numbers hx rfl htasks
      (station_changed_ne hstations) (stationLaw_alone h.bound.manned hx hn)
      (fun i hi => by rw [hn] at hi; exact (Option.some.inj hi).symm) (show x.state = .opened ↔ x.station = none from stationLaw_opened h.bound.manned hx)
      (fun i hi => ⟨by have hi' : x.station = some i := hi; rw [hn] at hi'; exact (Option.some.inj hi').symm, hn8,
        by rw [hself]; rfl⟩) fun _ st' hst' => ?_
    cases hself.symm.trans hst'
    exact agrees_busy (u := y) (stationLaw_onShift (st := st) h.bound.manned hx hn hst)
      (stationLaw_busy (st := st) h.bound.manned hx hn hl hst) hin hn (Or.inr hl)
  · show Dug w.packs w.tasks
    refine h.bound.dug.step (k := x.subject) (m := y.number) hat.others hat.atop (fun u hu hm => ?_)
      h.bound.tied.reserved_of_offered (fun hr => absurd hr (hnot hget hs))
      (fun j _ _ hj => absurd hj (not_atop_of_upper_none ((hspot _).trans hloc) j))
      (fun hr => absurd hr (hnot hp hs)) fun u hu hm => ?_
    · rw [htasks] at hu
      have hu' := (mem_replaced_of_ne hm).mp hu
      exact ⟨hu', fun hk => hm (congrArg Machine.Task.number (h.bound.tied.eq_of_subject hu' hx hk) :
        u.number = x.number)⟩
    · rw [htasks] at hu
      cases eq_of_mem_replaced hu hm
      exact ⟨fun _ hne => absurd hl hne, fun hf => by cases hf⟩
  · show Counted w.packs w.orders
    rw [horders]
    refine h.bound.counted.lower (k := x.subject) hat h.keys.1 hrising ?_ (burdenAt_of_none (forall_get hget rfl))
    rw [burdenAt_of_get hp hres, hs]
    rfl
  · rw [show (Machine.releaseLifted x.subject s).packs = _ from hpacks]
    exact Table.get_update_other _ _ hj

end

/-! ## The release of an order's reservations -/

section
variable {s : State} {h : Nat}

theorem get_releaseAtRest_other (ht : Tied s.packs s.tasks) {tag j : Nat} {after : Pack → Pack} (hj : j ≠ tag)
    (hstate : stateAt s.packs j ≠ some .moving) :
    Table.get (releaseAtRest tag after s).packs j = Table.get s.packs j := by
  cases hp : Table.get s.packs tag with
  | none => rw [releaseAtRest, hp]
  | some p =>
    rw [packs_releaseAtRest after hp, Table.get_update_other _ _ hj, get_releaseShifts_of_not_moving ht hstate]

theorem mem_tagsOf (hr : Table.rising s.packs) {st : PackState} {tag : Nat} :
    tag ∈ tagsOf s st h ↔
      ∃ p, Table.get s.packs tag = some p ∧ p.state = st ∧ p.reservation.map LineRef.handle = some h := by
  rw [tagsOf, mem_keys]
  constructor
  · rintro ⟨p, hp⟩
    obtain ⟨hmem, hyes⟩ := List.mem_filter.mp hp
    obtain ⟨hs, hres⟩ := of_decide_eq_true hyes
    exact ⟨p, Table.get_of_mem hr hmem, hs, hres⟩
  · rintro ⟨p, hp, hs, hres⟩
    exact ⟨p, List.mem_filter.mpr ⟨Table.mem_of_get hp, decide_eq_true ⟨hs, hres⟩⟩⟩

theorem nodup_tagsOf (hr : Table.rising s.packs) (st : PackState) : (tagsOf s st h).Nodup :=
  List.Nodup.of_map (fun n : Nat => n)
    (by
      rw [List.map_id']
      refine List.Pairwise.imp (fun {a b} hlt => Nat.ne_of_lt hlt) (R := fun a b => a < b) ?_
      rw [tagsOf, Table.keys, List.pairwise_map]
      exact hr.filter _)

/-- What is not STORED after a release to STORED was so before, and is not the released pack. -/
theorem get_releaseAtRest_back {tag j : Nat} {p q : Pack} (hp : Table.get s.packs tag = some p)
    (hq : Table.get (releaseAtRest tag Pack.toStored s).packs j = some q) (hs : q.state ≠ .stored) :
    j ≠ tag ∧ Table.get s.packs j = some q := by
  rw [packs_releaseAtRest _ hp] at hq
  have hne : j ≠ tag := by
    rintro rfl
    rw [Table.get_update_self, Option.map_eq_some_iff] at hq
    obtain ⟨q', -, rfl⟩ := hq
    exact hs rfl
  rw [Table.get_update_other _ _ hne, get_releaseShifts, Option.map_eq_some_iff] at hq
  obtain ⟨q', hq', hqe⟩ := hq
  split_ifs at hqe
  · rw [← hqe] at hs
    exact absurd rfl hs
  · exact ⟨hne, hqe ▸ hq'⟩

/-- The release of RESERVED packs, one by one (R76). -/
theorem Good.releaseReserved (hg : Good s) (l : List Nat) (hnodup : l.Nodup)
    (hl : ∀ tag ∈ l, stateAt s.packs tag = some .reserved) :
    Good (l.foldl (fun u t => Machine.releaseAtRest t Pack.toStored u) s) ∧
      (∀ j, j ∉ l → stateAt s.packs j ≠ some .moving →
        Table.get (l.foldl (fun u t => Machine.releaseAtRest t Pack.toStored u) s).packs j = Table.get s.packs j) ∧
      ∀ j q, Table.get (l.foldl (fun u t => Machine.releaseAtRest t Pack.toStored u) s).packs j = some q →
        q.state ≠ .stored → j ∉ l ∧ Table.get s.packs j = some q := by
  induction l generalizing s with
  | nil => exact ⟨hg, fun _ _ _ => rfl, fun j q hq _ => ⟨List.not_mem_nil, hq⟩⟩
  | cons tag l ih =>
    obtain ⟨hnot, hnodup⟩ := List.nodup_cons.mp hnodup
    obtain ⟨p, hp, hs⟩ := stateAt_eq_some_iff.mp (hl tag List.mem_cons_self)
    have hkept : ∀ j, j ≠ tag → stateAt s.packs j ≠ some .moving →
        Table.get (Machine.releaseAtRest tag Pack.toStored s).packs j = Table.get s.packs j :=
      fun j hj hm => get_releaseAtRest_other hg.bound.tied hj hm
    obtain ⟨hgood, hget, hback⟩ := ih (hg.releaseAtRest hp hs frees_toStored) hnodup fun j hj => by
      have hjs := hl j (List.mem_cons_of_mem _ hj)
      rw [stateAt, hkept j (fun e => hnot (e ▸ hj)) (by rw [hjs]; exact nofun), ← stateAt, hjs]
    refine ⟨hgood, fun j hj hm => ?_, fun j q hq hqs => ?_⟩
    · obtain ⟨hne, hj⟩ := not_or.mp (List.mem_cons.not.mp hj)
      have hsame := hkept j hne hm
      refine (hget j hj ?_).trans hsame
      rw [stateAt, hsame, ← stateAt]
      exact hm
    · obtain ⟨hjl, hj⟩ := hback j q hq hqs
      obtain ⟨hne, hjs⟩ := get_releaseAtRest_back hp hj hqs
      exact ⟨fun hmem => (List.mem_cons.mp hmem).elim hne hjl, hjs⟩

theorem Good.releaseLifteds (hg : Good s) (l : List Nat) (hnodup : l.Nodup)
    (hl : ∀ tag ∈ l, ∃ p r, Table.get s.packs tag = some p ∧ p.state = .lifted ∧ p.reservation = some r) :
    Good (l.foldl (fun u t => Machine.releaseLifted t u) s) ∧
      (∀ j, j ∉ l → Table.get (l.foldl (fun u t => Machine.releaseLifted t u) s).packs j = Table.get s.packs j) ∧
      ∀ j ∈ l, ∀ q, Table.get (l.foldl (fun u t => Machine.releaseLifted t u) s).packs j = some q →
        q.reservation = none := by
  induction l generalizing s with
  | nil => exact ⟨hg, fun _ _ => rfl, fun j hj => absurd hj List.not_mem_nil⟩
  | cons tag l ih =>
    obtain ⟨hnot, hnodup⟩ := List.nodup_cons.mp hnodup
    obtain ⟨p, r, hp, hs, hres⟩ := hl tag List.mem_cons_self
    obtain ⟨hnext, hother, hself⟩ := hg.releaseLifted hp hs hres
    obtain ⟨hgood, hget, hgone⟩ := ih hnext hnodup fun j hj => by
      obtain ⟨q, v, hq, hqs⟩ := hl j (List.mem_cons_of_mem _ hj)
      exact ⟨q, v, by rw [hother j fun e => hnot (e ▸ hj), hq], hqs⟩
    refine ⟨hgood, fun j hj => ?_, fun j hj q hq => ?_⟩
    · obtain ⟨hne, hj⟩ := not_or.mp (List.mem_cons.not.mp hj)
      exact (hget j hj).trans (hother j hne)
    · by_cases hjl : j ∈ l
      · exact hgone j hjl q hq
      · rcases List.mem_cons.mp hj with rfl | hj
        · have hq' := (hget j hjl).symm.trans hq
          cases hself.symm.trans hq'
          rfl
        · exact absurd hj hjl

/-- After the release of an order's reservations only LOADED packs are reserved for it (R76). -/
theorem Good.releaseOrder (hg : Good s) (h : Nat) :
    Good (releaseOrder h s) ∧
      ∀ j q, Table.get (releaseOrder h s).packs j = some q → q.reservation.map LineRef.handle = some h →
        q.state = .loaded := by
  have hr := hg.keys.1
  obtain ⟨hgood, hget, hback⟩ := hg.releaseReserved (tagsOf s .reserved h) (nodup_tagsOf hr _) fun tag htag => by
    obtain ⟨p, hp, hs, -⟩ := (mem_tagsOf hr).mp htag
    exact stateAt_eq_some_iff.mpr ⟨p, hp, hs⟩
  generalize hu : (tagsOf s .reserved h).foldl (fun u t => Machine.releaseAtRest t Pack.toStored u) s = u at *
  have hlifted : ∀ tag ∈ tagsOf s .lifted h, Table.get u.packs tag = Table.get s.packs tag := by
    intro tag htag
    obtain ⟨p, hp, hs, -⟩ := (mem_tagsOf hr).mp htag
    refine hget tag (fun hmem => ?_) (by rw [stateAt, hp, Option.map_some, hs]; exact nofun)
    obtain ⟨q, hq, hqs, -⟩ := (mem_tagsOf hr).mp hmem
    cases hp.symm.trans hq
    rw [hs] at hqs
    cases hqs
  obtain ⟨hgood', hget', hgone⟩ := hgood.releaseLifteds (tagsOf s .lifted h) (nodup_tagsOf hr _) fun tag htag => by
    obtain ⟨p, hp, hs, hres⟩ := (mem_tagsOf hr).mp htag
    obtain ⟨v, hv, -⟩ := Option.map_eq_some_iff.mp hres
    exact ⟨p, v, (hlifted tag htag).trans hp, hs, hv⟩
  have he : Machine.releaseOrder h s = (tagsOf s .lifted h).foldl (fun u t => Machine.releaseLifted t u) u := by
    rw [Machine.releaseOrder, hu]
  rw [he]
  refine ⟨hgood', fun j q hq hres => ?_⟩
  have hnot : j ∉ tagsOf s .lifted h := fun hmem => by
    rw [hgone j hmem q hq] at hres
    cases hres
  have hq' := (hget' j hnot).symm.trans hq
  have hshape := hgood.bound.tied.shaped j q hq'
  have hstate : ¬ (q.state = .stored ∨ q.state = .moving ∨ q.state = .held) := fun hs => by
    rw [hshape.reservation hs] at hres
    cases hres
  obtain ⟨hjl, hjs⟩ := hback j q hq' fun hs => hstate (Or.inl hs)
  cases hs : q.state with
  | loaded => rfl
  | stored => exact absurd (Or.inl hs) hstate
  | moving => exact absurd (Or.inr (Or.inl hs)) hstate
  | held => exact absurd (Or.inr (Or.inr hs)) hstate
  | reserved => exact absurd ((mem_tagsOf hr).mpr ⟨q, hjs, hs, hres⟩) hjl
  | lifted => exact absurd ((mem_tagsOf hr).mpr ⟨q, hjs, hs, hres⟩) hnot

end

end Sys2Proof.Proofs
end

section
/-!
PROOFS. The laws of the work under CANCEL and DEPART (R77 to R79), wettings (R152 to R154), holds, and FETCH subjects set
back (R132).
-/

namespace Sys2Proof.Proofs

open Sys2Proof.Machine Sys2Proof.Safety

/-! ## LOADED packs leave their order -/

/-- The counts of every order but one are those of the packs reserved for it. -/
structure CountedBut (h : Nat) (packs : Table Pack) (orders : Table Order) : Prop where
  live : ∀ k p r, Table.get packs k = some p → p.reservation = some r → r.handle ≠ h →
    ∃ o, Table.get orders r.handle = some o ∧ (nth o.lines r.line).isSome = true
  counts : ∀ n o, n ≠ h → Table.get orders n = some o → CountsAt packs n o

section
variable {k h : Nat} {a b : Table Pack} {orders : Table Order}

theorem Counted.but (hc : Counted a orders) (h : Nat) : CountedBut h a orders :=
  ⟨fun k p r hp hr _ => hc.live k p r hp hr, fun n o _ ho => hc.counts n o ho⟩

theorem CountedBut.leave (hat : AtOne k a b) (ha : Table.rising a) (hb : Table.rising b)
    (hfrom : ∀ c, burdenAt a k = some c → c.1.handle = h) (hto : burdenAt b k = none)
    (hc : CountedBut h a orders) : CountedBut h b orders := by
  refine ⟨fun j p r hp hres hne => ?_, fun n o hn ho => ?_⟩
  · have hj : j ≠ k := by
      rintro rfl
      rw [burdenAt_of_get hp hres] at hto
      cases hto
    have hmap := hat.others j hj
    rw [hp, Option.map_some, eq_comm, Option.map_eq_some_iff] at hmap
    obtain ⟨q, hq, hqp⟩ := hmap
    exact hc.live j q r hq ((aside_eq hqp).2.1.trans hres) hne
  · have hzero : ∀ {g : LineRef × Nat × Bool → Nat}, (∀ c, c.1.handle = h → g c = 0) →
        ((burdenAt a k).map g).getD 0 = 0 := by
      intro g hg
      cases hbur : burdenAt a k with
      | none => rfl
      | some c => exact hg c (hfrom c hbur)
    have hne : ∀ c : LineRef × Nat × Bool, c.1.handle = h → ∀ i, c.1 ≠ ⟨n, i⟩ := by
      rintro c rfl i hci
      exact hn (congrArg LineRef.handle hci).symm
    refine CountsAt.same hat ha hb ?_ (fun i => ?_) (fun i => ?_) (hc.counts n o hn ho)
    · rw [weighAt_massFor, weighAt_massFor, hto, hzero fun c hch => if_neg fun e => hn (e.symm.trans hch)]
      rfl
    · rw [weighAt_countsFor, weighAt_countsFor, hto, hzero fun c hch => if_neg (hne c hch i)]
      rfl
    · rw [weighAt_loadedFor, weighAt_loadedFor, hto, hzero fun c hch => if_neg fun e => hne c hch i e.1]
      rfl

/-- Once no pack is reserved for it, an order may leave the table (R79). -/
theorem CountedBut.retire (hc : CountedBut h a orders)
    (hnone : ∀ k p, Table.get a k = some p → p.reservation.map LineRef.handle ≠ some h) :
    Counted a (Table.erase orders h) := by
  refine ⟨fun k p r hp hres => ?_, fun n o ho => ?_⟩
  · have hne : r.handle ≠ h := fun e => hnone k p hp (by rw [hres, Option.map_some, e])
    rw [get_erase_other _ hne]
    exact hc.live k p r hp hres hne
  · have hne : n ≠ h := by
      rintro rfl
      rw [Table.get_erase_self] at ho
      cases ho
    rw [get_erase_other _ hne] at ho
    exact hc.counts n o hne ho

end

/-- The laws of the work while the LOADED packs of an order leave it. -/
structure Ending (h : Nat) (s : State) : Prop where
  rising : Table.rising s.packs
  apart : Apart (spot s.packs)
  tied : Tied s.packs s.tasks
  manned : stationLaw s
  dug : Dug s.packs s.tasks
  counted : CountedBut h s.packs s.orders

/-- What is done with one LOADED pack (R77, R78): its record rests, off every stack, with nothing reserved, or it is
retired; every other record stays as it was. -/
def Unloads (f : Nat → State → State) : Prop :=
  ∀ s tag p, Table.rising s.packs → Table.get s.packs tag = some p → p.state = .loaded → p.location = none →
    (f tag s).tasks = s.tasks ∧ (f tag s).stations = s.stations ∧ (f tag s).orders = s.orders ∧
      Table.rising (f tag s).packs ∧ AtOne tag s.packs (f tag s).packs ∧
      (∀ j, j ≠ tag → Table.get (f tag s).packs j = Table.get s.packs j) ∧
      ∀ q, Table.get (f tag s).packs tag = some q →
        (Shaped q ∧ ¬ atWork q) ∧ q.reservation = none ∧ q.location = none

theorem unloads_unconfirm : Unloads fun t u => changePack t (Pack.toHeld .loadedUnconfirmed) u := by
  intro s tag p hr hp hs hl
  have hget : Table.get (Table.update s.packs tag (Pack.toHeld .loadedUnconfirmed)) tag =
      some (p.toHeld .loadedUnconfirmed) := by rw [Table.get_update_self, hp, Option.map_some]
  refine ⟨rfl, rfl, rfl, Table.rising_update _ _ hr, atOne_update _ _ _,
    fun j hj => Table.get_update_other _ _ hj, forall_get hget ⟨?_, rfl, hl⟩⟩
  exact shaped_held (why := .loadedUnconfirmed) rfl rfl rfl rfl
    (iff_of_false (by show ¬ p.location.isSome = true; rw [hl]; exact nofun) nofun)

theorem unloads_depart : Unloads fun t u => retirePack t u := by
  intro s tag p hr hp hs hl
  have hstill : removeFromStack tag s = s := removeFromStack_of_spot_none (by rw [spot, hp]; exact hl)
  have hpacks : (retirePack tag s).packs = Table.erase s.packs tag := by
    show Table.erase (removeFromStack tag s).packs tag = _
    rw [hstill]
  refine ⟨rfl, rfl, rfl, ?_, ?_, fun j hj => ?_, fun q hq => ?_⟩
  · exact hpacks ▸ Table.rising_erase _ hr
  · exact hpacks ▸ atOne_erase _ _
  · exact hpacks ▸ get_erase_other _ hj
  · have hq' : Table.get (Table.erase s.packs tag) tag = some q := hpacks ▸ hq
    rw [Table.get_erase_self] at hq'
    cases hq'

section
variable {s : State} {h : Nat} {f : Nat → State → State}

/-- A LOADED pack stands in no stack (R31). -/
theorem Tied.loaded_unplaced {packs : Table Pack} {tasks : List Machine.Task} (ht : Tied packs tasks) {tag : Nat}
    {p : Pack} (hp : Table.get packs tag = some p) (hs : p.state = .loaded) : p.location = none := by
  have hshape := ht.shaped tag p hp
  have hplace := hshape.place
  rw [hs, hold_eq_none hshape (by rw [hs]; exact nofun)] at hplace
  cases hl : p.location with
  | none => rfl
  | some l => rw [hl] at hplace; simpa using hplace.mp rfl

theorem Ending.unload (he : Ending h s) (hf : Unloads f) {tag : Nat} {p : Pack} (hp : Table.get s.packs tag = some p)
    (hs : p.state = .loaded) (hres : p.reservation.map LineRef.handle = some h) : Ending h (f tag s) := by
  have hl := he.tied.loaded_unplaced hp hs
  obtain ⟨htasks, hstations, horders, hrising, hat, hother, hafter⟩ := hf s tag p he.rising hp hs hl
  have hrest : ¬ atWork p := by
    unfold atWork
    rw [hs]
    simp
  have hnone : spot (f tag s).packs tag = none := by
    rw [spot]
    cases hq : Table.get (f tag s).packs tag with
    | none => rfl
    | some q => exact (hafter q hq).2.2
  have hspot : spot (f tag s).packs = spot s.packs := by
    funext j
    by_cases hj : j = tag
    · subst hj
      rw [hnone, spot, hp]
      exact hl.symm
    · rw [spot, hother j hj, spot]
  refine ⟨hrising, hspot ▸ he.apart, ?_, stationLaw_congr htasks hstations he.manned, ?_, ?_⟩
  · rw [htasks]
    exact he.tied.rest hat (forall_get hp hrest) fun q hq => (hafter q hq).1
  · rw [htasks]
    exact he.dug.rest he.tied hat (forall_get hp hrest) (fun q hq => (hafter q hq).1.2)
      fun j _ _ => not_atop_of_upper_none hnone j
  · rw [horders]
    refine he.counted.leave hat he.rising hrising (fun c hc => ?_) (burdenAt_of_none fun q hq => (hafter q hq).2.1)
    obtain ⟨v, hv, hvh⟩ := Option.map_eq_some_iff.mp hres
    rw [burdenAt_of_get hp hv] at hc
    cases hc
    exact hvh

theorem Ending.unloads (he : Ending h s) (hf : Unloads f) (l : List Nat) (hnodup : l.Nodup)
    (hl : ∀ tag ∈ l, ∃ p, Table.get s.packs tag = some p ∧ p.state = .loaded ∧
      p.reservation.map LineRef.handle = some h) :
    Ending h (l.foldl (fun u t => f t u) s) ∧
      (l.foldl (fun u t => f t u) s).orders = s.orders ∧
      ∀ j q, Table.get (l.foldl (fun u t => f t u) s).packs j = some q →
        q.reservation.map LineRef.handle = some h → j ∉ l ∧ Table.get s.packs j = some q := by
  induction l generalizing s with
  | nil => exact ⟨he, rfl, fun j q hq _ => ⟨List.not_mem_nil, hq⟩⟩
  | cons tag l ih =>
    obtain ⟨hnot, hnodup⟩ := List.nodup_cons.mp hnodup
    obtain ⟨p, hp, hs, hres⟩ := hl tag List.mem_cons_self
    obtain ⟨-, -, horders, -, -, hother, hafter⟩ := hf s tag p he.rising hp hs (he.tied.loaded_unplaced hp hs)
    obtain ⟨hend, horders', hback⟩ := ih (he.unload hf hp hs hres) hnodup fun j hj => by
      obtain ⟨q, hq, hqs⟩ := hl j (List.mem_cons_of_mem _ hj)
      exact ⟨q, by rw [hother j fun e => hnot (e ▸ hj), hq], hqs⟩
    refine ⟨hend, horders'.trans horders, fun j q hq hqh => ?_⟩
    obtain ⟨hjl, hj⟩ := hback j q hq hqh
    have hne : j ≠ tag := by
      rintro rfl
      rw [(hafter q hj).2.1] at hqh
      cases hqh
    exact ⟨fun hmem => (List.mem_cons.mp hmem).elim hne hjl, (hother j hne).symm.trans hj⟩

/-- The end of an order (R77 to R79). -/
theorem Bound.endOrder (hg : Good s) (hf : Unloads f) (h : Nat) :
    Bound (endOrder (fun h u => (tagsOf u .loaded h).foldl (fun u t => f t u) u) h s) := by
  obtain ⟨hgood, hloaded⟩ := hg.releaseOrder h
  generalize hu : releaseOrder h s = u at hgood hloaded
  have hstart : Ending h u := ⟨hgood.keys.1, hgood.apart, hgood.bound.tied, hgood.bound.manned, hgood.bound.dug,
    hgood.bound.counted.but h⟩
  obtain ⟨hend, horders, hback⟩ := hstart.unloads hf (tagsOf u .loaded h) (nodup_tagsOf hgood.keys.1 _) fun tag htag =>
    (mem_tagsOf hgood.keys.1).mp htag
  unfold Machine.endOrder
  rw [hu]
  show Bound (Machine.endClaim none s.packs (retireOrder h ((tagsOf u .loaded h).foldl (fun u t => f t u) u)))
  generalize (tagsOf u .loaded h).foldl (fun u t => f t u) u = v at hend horders hback
  refine Bound.endClaim (s := retireOrder h v) ⟨hend.tied, stationLaw_congr (s := v) rfl rfl hend.manned, hend.dug, ?_⟩ _ _
  refine hend.counted.retire fun j q hq hqh => ?_
  obtain ⟨hnot, hj⟩ := hback j q hq hqh
  exact hnot ((mem_tagsOf hgood.keys.1).mpr ⟨q, hj, hloaded j q hj hqh, hqh⟩)

end

/-! ## Wettings and holds -/

section
variable {s t : State} {tag : Nat} {p : Pack}

/-- Packs and tasks stay tied where every record is as it was, up to its exact place and its wetted mark. -/
theorem Tied.of_aside {packs packs' : Table Pack} {tasks : List Machine.Task} (h : Tied packs tasks)
    (hothers : ∀ j, (Table.get packs' j).map aside = (Table.get packs j).map aside) : Tied packs' tasks := by
  have hback : ∀ {j q}, Table.get packs' j = some q → ∃ q', Table.get packs j = some q' ∧ aside q = aside q' := by
    intro j q hq
    have hj := hothers j
    rw [hq, Option.map_some, eq_comm, Option.map_eq_some_iff] at hj
    obtain ⟨q', hq', he⟩ := hj
    exact ⟨q', hq', he.symm⟩
  refine ⟨h.numbers, h.range, fun u hu => ?_, fun j q hq => ?_, fun j q hq hwork => ?_⟩
  · obtain ⟨q, hq, hqu, hfits⟩ := h.subject u hu
    have hj := hothers u.subject
    rw [hq, Option.map_some, Option.map_eq_some_iff] at hj
    obtain ⟨q', hq', he⟩ := hj
    exact ⟨q', hq', (aside_eq he).2.2.1.trans hqu, subjectFits_of_aside he hfits⟩
  · obtain ⟨q', hq', he⟩ := hback hq
    exact shaped_of_aside he (h.shaped j q' hq')
  · obtain ⟨q', hq', he⟩ := hback hq
    obtain ⟨hs, -, htask, -⟩ := aside_eq he
    rw [htask]
    exact h.owner j q' hq' (by unfold atWork at hwork ⊢; rwa [← hs])

/-- A change of wetted marks is nothing to the laws of the work. -/
theorem Good.rewet (h : Good s) {f : Nat → Pack → Pack} (hf : ∀ k q, aside (f k q) = aside q)
    (hl : ∀ k q, (f k q).location = q.location) (hpacks : t.packs = Table.change s.packs f) (htasks : t.tasks = s.tasks)
    (hstations : t.stations = s.stations) (horders : t.orders = s.orders) : Good t := by
  have hspot : ∀ j, spot t.packs j = spot s.packs j := hpacks ▸ spot_change_of_location hl
  have hrising : Table.rising t.packs := hpacks ▸ Table.rising_change _ h.keys.1
  have hothers : ∀ j, (Table.get t.packs j).map aside = (Table.get s.packs j).map aside := fun j => by
    rw [hpacks, Table.get_change, Option.map_map]
    exact Option.map_congr fun q _ => hf j q
  have hstate : ∀ j, stateAt t.packs j = stateAt s.packs j := fun j => stateAt_of_aside (hothers j)
  refine ⟨⟨hrising, horders ▸ h.keys.2⟩, tierLaw_of_spot h.keys.1 hrising hspot h.tiers,
    htasks ▸ h.bound.tied.of_aside hothers, stationLaw_congr htasks hstations h.bound.manned, ?_, ?_⟩
  · rw [htasks]
    exact h.bound.dug.thin hspot (fun u hu => hu) (fun j hj => hstate j ▸ hj) (fun i _ _ _ hi => (hstate i).trans hi)
      fun _ _ _ j _ hj => (hstate j).trans hj
  · rw [horders]
    have htally : ∀ w, Blind w → tally w t.packs = tally w s.packs := fun w hw =>
      hpacks ▸ tally_change_of_blind hw hf s.packs
    refine ⟨fun j q r hq hr => ?_, fun n o ho => ?_⟩
    · have hj := hothers j
      rw [hq, Option.map_some, eq_comm, Option.map_eq_some_iff] at hj
      obtain ⟨q', hq', he⟩ := hj
      exact h.bound.counted.live j q' r hq' ((aside_eq he).2.1.trans hr)
    · obtain ⟨hmass, hlines⟩ := h.bound.counted.counts n o ho
      refine ⟨(htally _ (blind_massFor n)).symm ▸ hmass, fun i l hli => ?_⟩
      rw [htally _ (blind_countsFor _), htally _ (blind_loadedFor _)]
      exact hlines i l hli

theorem Good.judgeWetted (h : Good s) (tag : Nat) : Good (judgeWetted s tag) := by
  unfold Machine.judgeWetted
  split
  · exact h
  · split
    · split_ifs
      · exact h.releaseAtRest ‹_› ‹_› frees_toStored
      · exact h
    · exact h

theorem Good.endClaim (h : Good s) (named : Option Nat) (before : Table Pack) : Good (endClaim named before s) := by
  refine ⟨⟨?_, ?_⟩, ?_, h.bound.endClaim named before⟩
  · rw [packs_endClaim]
    exact h.keys.1
  · rw [(orders_endClaim named before s).1]
    exact h.keys.2
  · refine tierLaw_of_spot h.keys.1 ?_ ?_ h.tiers
    · rw [packs_endClaim]
      exact h.keys.1
    · rw [packs_endClaim]
      exact fun _ => rfl

theorem Good.judgeWetteds (h : Good s) (l : List Nat) : Good (l.foldl Machine.judgeWetted s) := by
  induction l generalizing s with
  | nil => exact h
  | cons tag l ih => exact ih (h.judgeWetted tag)

theorem Good.wetStack (h : Good s) (b k : Nat) : Good (wetStack s b k) := by
  refine Good.endClaim (Good.judgeWetteds ?_ _) none s.packs
  refine h.rewet (f := fun _ p => if p.inStack b k then { p with wetted := true } else p) (fun _ q => ?_)
    (fun _ q => ?_) rfl rfl rfl rfl
  · split_ifs <;> rfl
  · split_ifs <;> rfl

theorem Good.wetBay (h : Good s) (b : Nat) : Good (wetBay b s) := by
  unfold Machine.wetBay
  generalize List.range (s.bay b).stackCount = l
  induction l generalizing s with
  | nil => exact h
  | cons k l ih => exact ih (h.wetStack b k)

theorem Bound.hold_reserved (h : Good s) (hp : Table.get s.packs tag = some p) (hs : p.state = .reserved)
    (named : Option Nat) (before : Table Pack) :
    Bound (Machine.endClaim named before (releaseAtRest tag (Pack.toHeld .damaged) s)) :=
  (h.releaseAtRest hp hs frees_toDamaged).bound.endClaim named before

theorem Good.of_packs (h : Good s) (hb : Bound t) (hr : Table.rising t.packs) (ht : tierLaw t)
    (ho : t.orders = s.orders) : Good t := ⟨⟨hr, ho ▸ h.keys.2⟩, ht, hb⟩

theorem tierLaw_of_packs (he : t.packs = s.packs) (hr : Table.rising s.packs) (h : tierLaw s) : tierLaw t :=
  tierLaw_of_spot hr (he ▸ hr) (fun _ => he ▸ rfl) h

theorem Bound.setBack (h : Good s) {x : Machine.Task} {n : Nat} (hx : x ∈ s.tasks) (hn : x.station = some n)
    (hl : x.state = .lifted) (hfetch : x.isFetch = true) {bay stack : Nat} {disabled : Status}
    (hcheck : putDownCheck s bay stack disabled = none) : Bound (setBack n x bay stack s) := by
  obtain ⟨r, hkind⟩ := kind_of_isFetch hfetch
  rw [setBack_eq_setDown]
  have hgood : Good (Proofs.setDown n x bay stack s) :=
    h.of_packs (Bound.setDown h hx hn hl hkind hcheck)
      (rising_putDown bay stack x.subject (fun p => { p with state := .reserved }) h.keys.1)
      (tierLaw_of_packs (s := Machine.putDown bay stack x.subject (fun p => { p with state := .reserved }) s) rfl
        (rising_putDown _ _ _ _ h.keys.1) (tierLaw_putDown h.keys.1 h.tiers _ _ _ _)) rfl
  refine Bound.endClaim ?_ _ _
  unfold judgeRained
  split_ifs
  · exact (hgood.judgeWetted _).bound
  · exact hgood.bound

end

end Sys2Proof.Proofs
end

section
/-!
PROOFS. The laws of the work under the reservation (R102), the takeover (R103, R104) and the engine that makes them.
-/

namespace Sys2Proof.Proofs

open Sys2Proof.Machine Sys2Proof.Safety

/-! ## A new OPEN task -/

section
variable {s t : State} {y : Machine.Task} {p : Pack} {tag : Nat} {f : Pack → Pack}

theorem station_zero (s : State) : s.station 0 = none := rfl

theorem stationLaw_newOpen (h : stationLaw s) (hnodup : (s.tasks.map Machine.Task.number).Nodup)
    (hy : y.number ∉ s.tasks.map Machine.Task.number) (hopen : y.state = .opened) (hnone : y.station = none)
    (htasks : t.tasks = s.tasks ++ [y]) (hst : t.stations = s.stations) : stationLaw t := by
  refine stationLaw_added (n := 0) h hnodup hy htasks (fun i _ => by rw [State.station, hst, State.station])
    (fun u hu hu0 => ?_) (iff_of_true hopen hnone) (fun i hi => by rw [hnone] at hi; cases hi)
    fun _ st hst0 => by rw [station_zero] at hst0; cases hst0
  obtain ⟨-, hsome, -⟩ := stationLaw_holder h hu hu0
  rw [station_zero] at hsome
  cases hsome

/-- A STORED pack is given a new OPEN task (R102, R117). -/
theorem Tied.give {packs : Table Pack} {tasks : List Machine.Task} (h : Tied packs tasks)
    (hp : Table.get packs y.subject = some p) (hs : p.state = .stored)
    (hrange : 1 ≤ y.number ∧ y.number ≤ Config.taskCapacity) (hy : y.number ∉ tasks.map Machine.Task.number)
    (hf : Shaped (f p) ∧ (f p).task = some y.number ∧ subjectFits y (f p)) :
    Tied (Table.update packs y.subject f) (tasks ++ [y]) := by
  obtain ⟨hshape, hnamed, hfits⟩ := hf
  have hget : Table.get (Table.update packs y.subject f) y.subject = some (f p) := by
    rw [Table.get_update_self, hp, Option.map_some]
  refine h.step (k := y.subject) (m := y.number) (atOne_update _ _ _).others (fun u hu => mem_added_of_ne hu)
    (nodup_added h.numbers hy) (forall_get hp (Or.inl ((h.shaped _ p hp).task (Or.inl hs))))
    (fun u hu hm => absurd (hm ▸ List.mem_map_of_mem hu) hy) (fun u hu hm => ?_)
    (forall_get hget ⟨hshape, fun _ => ⟨hnamed, y, List.mem_append_right _ List.mem_cons_self, rfl⟩⟩)
  cases eq_of_mem_added hy hu hm
  exact ⟨hrange.1, hrange.2, rfl, f p, hget, hnamed, hfits⟩

end

/-! ## The SHIFT tasks of a reservation -/

section
variable {s u : State} {p : Pack} {winner tag : Nat}

/-- What the SHIFT tasks made for the packs `tags` leave: those packs MOVING, every other one and all places as they
were, and new tasks about those packs alone. -/
structure Shifted (winner : Nat) (tags : List Nat) (s u : State) : Prop where
  loose : Loose u
  orders : u.orders = s.orders
  room : u.tasks.length = s.tasks.length + tags.length
  others : ∀ j, j ∉ tags → Table.get u.packs j = Table.get s.packs j
  moving : ∀ j ∈ tags, stateAt u.packs j = some .moving
  spots : ∀ j, spot u.packs j = spot s.packs j
  tasks : ∀ x ∈ u.tasks, x ∈ s.tasks ∨ (x.kind = .shift winner ∧ x.subject ∈ tags)

theorem shaped_moving {p : Pack} (hs : p.state = .moving) (hl : p.location.isSome = true) (hh : p.hold = none)
    (hr : p.reservation = none) : Shaped p := by
  refine ⟨iff_of_true hl (by simp [hs]), by simp [hs, hh], fun h => ?_, fun _ => hr, fun h => ?_⟩
  · simp [hs] at h
  · simp [hs] at h

theorem location_of_stored {packs : Table Pack} {tasks : List Machine.Task} (h : Tied packs tasks)
    (hp : Table.get packs tag = some p) (hs : p.state = .stored) : p.location.isSome = true :=
  (h.shaped _ p hp).place.mpr (Or.inl hs)

theorem shifted_one (h : Loose s) (hp : Table.get s.packs tag = some p) (hs : p.state = .stored)
    (hroom : s.tasks.length < 48) : Shifted winner [tag] s (createShift winner s tag) := by
  obtain ⟨hlow, hhigh, hfree, -⟩ := freeTaskNumber_spec hroom
  let y : Machine.Task := ⟨freeTaskNumber s, .shift winner, tag, .opened, none, none, none, none, none⟩
  let f : Pack → Pack := fun q => { q with state := .moving, task := some (freeTaskNumber s) }
  have hshape := h.tied.shaped _ p hp
  have hres : p.reservation = none := hshape.reservation (Or.inl hs)
  have hget : Table.get (createShift winner s tag).packs tag = some (f p) := by
    show Table.get (Table.update s.packs tag f) tag = _
    rw [Table.get_update_self, hp, Option.map_some]
  have hother : ∀ j, j ≠ tag → Table.get (createShift winner s tag).packs j = Table.get s.packs j :=
    fun j hj => Table.get_update_other s.packs f hj
  have hloc := location_of_stored h.tied hp hs
  have hhold := hold_eq_none hshape (by simp [hs])
  have hrising : Table.rising (createShift winner s tag).packs := Table.rising_update tag f h.rising
  refine ⟨⟨hrising, ?_, ?_, ?_⟩, rfl, by simp [createShift, changePack, addTask],
    fun j hj => hother j (by simpa using hj), fun j hj => ?_, fun j => ?_, fun x hx => ?_⟩
  · exact h.tied.give (y := y) (f := f) hp hs ⟨hlow, hhigh⟩ hfree
      ⟨shaped_moving rfl hloc hhold hres, rfl, hres, rfl⟩
  · exact stationLaw_newOpen (y := y) h.manned h.tied.numbers hfree rfl rfl rfl rfl
  · refine h.counted.same (atOne_update tag s.packs f) h.rising hrising ?_
    rw [burdenAt_of_none (forall_get hp hres)]
    exact burdenAt_of_none (forall_get hget hres)
  · cases List.mem_singleton.mp hj
    exact stateAt_eq_some_iff.mpr ⟨f p, hget, rfl⟩
  · by_cases hj : j = tag
    · subst hj
      rw [spot, hget, spot, hp]
      rfl
    · rw [spot, hother j hj, spot]
  · exact (List.mem_append.mp hx).imp id fun hx => by cases List.mem_singleton.mp hx; exact ⟨rfl, List.mem_singleton_self _⟩

theorem Shifted.trans {v : State} {tags more : List Nat} (h : Shifted winner tags s u) (h' : Shifted winner more u v)
    (hapart : ∀ j ∈ tags, j ∉ more) : Shifted winner (tags ++ more) s v := by
  refine ⟨h'.loose, h'.orders.trans h.orders, by rw [h'.room, h.room, List.length_append, Nat.add_assoc], fun j hj => ?_,
    fun j hj => ?_, fun j => (h'.spots j).trans (h.spots j), fun x hx => ?_⟩
  · rw [List.mem_append, not_or] at hj
    exact (h'.others j hj.2).trans (h.others j hj.1)
  · rcases List.mem_append.mp hj with hj | hj
    · rw [stateAt, h'.others j (hapart j hj)]
      exact h.moving j hj
    · exact h'.moving j hj
  · rcases h'.tasks x hx with hx | ⟨hkind, hsub⟩
    · exact (h.tasks x hx).imp id fun ⟨hkind, hsub⟩ => ⟨hkind, List.mem_append_left _ hsub⟩
    · exact Or.inr ⟨hkind, List.mem_append_right _ hsub⟩

theorem shifted_all (h : Loose s) (tags : List Nat) (hnodup : tags.Nodup)
    (hs : ∀ j ∈ tags, stateAt s.packs j = some .stored) (hroom : s.tasks.length + tags.length ≤ 48) :
    Shifted winner tags s (tags.foldl (createShift winner) s) := by
  induction tags generalizing s with
  | nil => exact ⟨h, rfl, rfl, fun _ _ => rfl, fun _ hj => (List.not_mem_nil hj).elim, fun _ => rfl, fun _ hx => Or.inl hx⟩
  | cons tag tags ih =>
    rw [List.nodup_cons] at hnodup
    rw [List.length_cons] at hroom
    obtain ⟨p, hp, hps⟩ := stateAt_eq_some_iff.mp (hs tag List.mem_cons_self)
    have hone := shifted_one (winner := winner) h hp hps (by omega)
    refine hone.trans (ih hone.loose hnodup.2 (fun j hj => ?_) ?_) fun j hj => ?_
    · rw [stateAt, hone.others j (fun hjt => hnodup.1 (List.mem_singleton.mp hjt ▸ hj))]
      exact hs j (List.mem_cons_of_mem _ hj)
    · rw [hone.room, List.length_singleton]
      omega
    · exact List.mem_singleton.mp hj ▸ hnodup.1

end

/-! ## The reservation (R102) -/

section
variable {s : State} {r : LineRef} {o : Order} {p : Pack} {tag : Nat}

theorem mem_keys_packsAbove (hr : Table.rising s.packs) {i : Nat} :
    i ∈ (packsAbove s tag).keys ↔ atop (spot s.packs) i tag := by
  rw [mem_keys]
  constructor
  · rintro ⟨q, hq⟩
    obtain ⟨p, l, m, hp, hl, hin, hm, hbay, hstack, htier⟩ := mem_packsAbove.mp hq
    refine ⟨l, m, by rw [spot, hp, Option.bind_some, hl], ?_, hbay, hstack, htier⟩
    rw [spot, Table.get_of_mem hr hin, Option.bind_some]
    exact hm
  · rintro ⟨l, m, hl, hm, hbay, hstack, htier⟩
    obtain ⟨p, hp, hpl⟩ := Option.bind_eq_some_iff.mp hl
    obtain ⟨q, hq, hqm⟩ := Option.bind_eq_some_iff.mp hm
    exact ⟨q, mem_packsAbove.mpr ⟨p, l, m, hp, hpl, Table.mem_of_get hq, hqm, hbay, hstack, htier⟩⟩

/-- Law 4 after a reservation: the packs above the winner are MOVING, each with its SHIFT. -/
theorem Dug.reserve {u : State} {packs : Table Pack} {y : Machine.Task} (h : Good s)
    (hu : Shifted tag (packsAbove s tag).keys.reverse s u) (hs : stateAt s.packs tag = some .stored)
    (habove : ∀ j ∈ (packsAbove s tag).keys, stateAt s.packs j = some .stored)
    (hother : ∀ j, j ≠ tag → Table.get packs j = Table.get u.packs j) (hself : stateAt packs tag = some .reserved)
    (hspot : ∀ j, spot packs j = spot u.packs j) (hfetch : y.isFetch = true) (hopen : y.state = .opened) :
    Dug packs (u.tasks ++ [y]) := by
  have hkeys : ∀ i, i ∈ (packsAbove s tag).keys.reverse ↔ atop (spot s.packs) i tag := fun i => by
    rw [List.mem_reverse]
    exact mem_keys_packsAbove h.keys.1
  have hplace : spot packs = spot s.packs := funext fun j => (hspot j).trans (hu.spots j)
  have hmoving : ∀ i, atop (spot s.packs) i tag → stateAt packs i = some .moving := fun i hi => by
    have hne : i ≠ tag := fun he => not_atop_self _ tag (he ▸ hi)
    rw [stateAt, hother i hne]
    exact hu.moving i ((hkeys i).mpr hi)
  have hkept : ∀ j, stateAt s.packs j ≠ some .stored → stateAt packs j = stateAt s.packs j := fun j hj => by
    have hne : j ≠ tag := fun he => hj (he ▸ hs)
    have hnot : j ∉ (packsAbove s tag).keys.reverse := fun hin => hj (habove j (List.mem_reverse.mp hin))
    rw [stateAt, hother j hne, hu.others j hnot, stateAt]
  refine ⟨fun i j hj hi => ?_, fun x hx hshift hlift => ?_, fun x hx hx' hstate => ?_⟩
  · rw [hplace] at hi
    by_cases hjt : j = tag
    · exact hmoving i (hjt ▸ hi)
    have hjs : stateAt s.packs j = some .reserved := by
      by_cases hin : j ∈ (packsAbove s tag).keys.reverse
      · rw [hmoving j ((hkeys j).mp hin)] at hj
        cases hj
      · rwa [stateAt, hother j hjt, hu.others j hin] at hj
    have his := h.bound.dug.cover i j hjs hi
    rw [hkept i (by rw [his]; exact nofun), his]
  · rw [hplace]
    rcases List.mem_append.mp hx with hx | hx
    · rcases hu.tasks x hx with hx | ⟨hkind, hsub⟩
      · obtain ⟨j, hkind, hj, hat⟩ := h.bound.dug.shifts x hx hshift hlift
        exact ⟨j, hkind, by rw [hkept j (by rw [hj]; exact nofun), hj], hat⟩
      · exact ⟨tag, hkind, hself, (hkeys _).mp hsub⟩
    · cases List.mem_singleton.mp hx
      rw [hfetch] at hshift
      cases hshift
  · rw [hplace]
    rcases List.mem_append.mp hx with hx | hx
    · rcases hu.tasks x hx with hx | ⟨hkind, -⟩
      · exact h.bound.dug.fetches x hx hx' hstate
      · unfold Machine.Task.isFetch at hx'
        rw [hkind] at hx'
        cases hx'
    · cases List.mem_singleton.mp hx
      rw [hopen] at hstate
      rcases hstate with hstate | hstate <;> cases hstate

theorem Bound.reserve (h : Good s) (hp : Table.get s.packs tag = some p) (hs : p.state = .stored)
    (habove : ∀ e ∈ packsAbove s tag, e.2.state = .stored) (hroom : dig s tag < 48 - s.tasks.length)
    (ho : Table.get s.orders r.handle = some o) (hline : (nth o.lines r.line).isSome = true) :
    Bound (reserve r tag p s) := by
  have hstored : ∀ j ∈ (packsAbove s tag).keys, stateAt s.packs j = some .stored := fun j hj => by
    obtain ⟨q, hq⟩ := mem_keys.mp hj
    exact stateAt_eq_some_iff.mpr ⟨q, get_of_mem_packsAbove h.keys.1 hq, habove _ hq⟩
  have hlen : (packsAbove s tag).keys.reverse.length = dig s tag := by simp [Table.keys, dig]
  let u : State := (packsAbove s tag).keys.reverse.foldl (createShift tag) s
  have hu : Shifted tag (packsAbove s tag).keys.reverse s u :=
    shifted_all h.loose _ (List.nodup_reverse.mpr (nodup_keys_packsAbove h.keys.1 tag))
      (fun j hj => hstored j (List.mem_reverse.mp hj)) (by omega)
  obtain ⟨hlow, hhigh, hfree, -⟩ := freeTaskNumber_spec (s := u) (by rw [hu.room]; omega)
  let y : Machine.Task := ⟨freeTaskNumber u, .fetch r, tag, .opened, none, none, none, none, none⟩
  let f : Pack → Pack := fun q =>
    { q with state := .reserved, reservation := some r, task := some (freeTaskNumber u) }
  let packs : Table Pack := Table.update u.packs tag f
  have hup : Table.get u.packs tag = some p := by
    rw [hu.others tag fun hin => not_mem_packsAbove_self h.keys.1 tag (List.mem_reverse.mp hin), hp]
  have hshape := h.bound.tied.shaped _ p hp
  have hloc := location_of_stored h.bound.tied hp hs
  have hhold := hold_eq_none hshape (by simp [hs])
  have hrising : Table.rising packs := Table.rising_update tag f hu.loose.rising
  have hget : Table.get packs tag = some (f p) := by rw [Table.get_update_self, hup, Option.map_some]
  have hother : ∀ j, j ≠ tag → Table.get packs j = Table.get u.packs j := fun j hj => Table.get_update_other _ _ hj
  refine ⟨?_, ?_, ?_, ?_⟩
  · exact hu.loose.tied.give (y := y) (f := f) hup hs ⟨hlow, hhigh⟩ hfree
      ⟨shaped_reserved rfl hloc hhold, rfl, rfl, rfl⟩
  · exact stationLaw_newOpen (y := y) hu.loose.manned hu.loose.tied.numbers hfree rfl rfl rfl rfl
  · refine Dug.reserve (y := y) (packs := packs) h hu (stateAt_eq_some_iff.mpr ⟨p, hp, hs⟩) hstored hother
      (stateAt_eq_some_iff.mpr ⟨f p, hget, rfl⟩) (fun j => ?_) rfl rfl
    by_cases hj : j = tag
    · subst hj
      rw [spot, hget, spot, hup]
      rfl
    · rw [spot, hother j hj, spot]
  · exact Counted.raise (atOne_update tag u.packs f) hu.loose.rising hrising
      (burdenAt_of_none (forall_get hup (hshape.reservation (Or.inl hs)))) (burdenAt_of_get hget rfl)
      (hu.orders ▸ ho) hline hu.loose.counted

end

/-! ## The takeover (R103, R104) -/

section
variable {s : State} {r victim : LineRef} {o : Order} {p : Pack} {tag : Nat} {f : Machine.Task}

theorem countView_robbed (line mass : Nat) (o : Order) :
    countView (robbed line mass o) = countView (lowered line mass o) := by
  refine Prod.ext rfl ?_
  show (changeNth o.lines line fun l => { l with allocated := l.allocated - 1, starved := false }).map _ =
    (changeNth o.lines line fun l => { l with allocated := l.allocated - 1 }).map _
  rw [← map_changeNth_of_same (f := fun l : OrderLine => { l with starved := false })
    (l := changeNth o.lines line fun l => { l with allocated := l.allocated - 1 }) (n := line)
    (view := fun l : OrderLine => (l.allocated, l.loaded)) fun _ => rfl, changeNth_changeNth]

theorem sameCounts_update_of_view {g g' : Order → Order} (hg : ∀ o, countView (g o) = countView (g' o)) (h : Nat)
    (a : Table Order) : SameCounts (Table.update a h g') (Table.update a h g) := by
  intro n
  by_cases hn : n = h
  · subst hn
    rw [Table.get_update_self, Table.get_update_self, Option.map_map, Option.map_map]
    exact congrArg (fun k => (Table.get a n).map k) (funext hg)
  · rw [Table.get_update_other _ _ hn, Table.get_update_other _ _ hn]

/-- The counts follow a reservation from its victim to its taker: as if the pack were released and reserved anew. -/
theorem Counted.takenOver (hr : Table.rising s.packs) (h : Counted s.packs s.orders)
    (hp : Table.get s.packs tag = some p) (hs : p.state ≠ .loaded) (hv : p.reservation = some victim)
    (ho : Table.get s.orders r.handle = some o) (hline : (nth o.lines r.line).isSome = true) :
    Counted (takenOver r victim tag p s).packs (takenOver r victim tag p s).orders := by
  let freed : Pack → Pack := fun q => { q with reservation := none }
  let taken : Pack → Pack := fun q => { q with reservation := some r }
  have hfreed : Table.get (Table.update s.packs tag freed) tag = some (freed p) := by
    rw [Table.get_update_self, hp, Option.map_some]
  have htaken : Table.get (Table.update s.packs tag taken) tag = some (taken p) := by
    rw [Table.get_update_self, hp, Option.map_some]
  have hnone : burdenAt (Table.update s.packs tag freed) tag = none := burdenAt_of_none (forall_get hfreed rfl)
  have hlow : Counted (Table.update s.packs tag freed)
      (Table.update s.orders victim.handle (robbed victim.line p.mass)) := by
    refine (h.lower (atOne_update tag s.packs freed) hr (Table.rising_update _ _ hr) ?_ hnone).congr_orders
      (sameCounts_update_of_view (countView_robbed victim.line p.mass) _ _)
    rw [burdenAt_of_get hp hv, decide_eq_false hs]
  have hat : AtOne tag (Table.update s.packs tag freed) (Table.update s.packs tag taken) := by
    refine atOne_of_get (fun j hj => ?_) ?_
    · rw [Table.get_update_other _ _ hj, Table.get_update_other _ _ hj]
    · rw [erase_update, erase_update]
  have hlive : ∃ o', Table.get (Table.update s.orders victim.handle (robbed victim.line p.mass)) r.handle = some o' ∧
      (nth o'.lines r.line).isSome = true := by
    by_cases hsame : r.handle = victim.handle
    · refine ⟨robbed victim.line p.mass o, by rw [← hsame, Table.get_update_self, ho, Option.map_some], ?_⟩
      exact (isSome_nth (length_changeNth _ _ _) _).trans hline
    · exact ⟨o, by rw [Table.get_update_other _ _ hsame, ho], hline⟩
  obtain ⟨o', ho', hline'⟩ := hlive
  have hburden : burdenAt (Table.update s.packs tag taken) tag = some (r, p.mass, false) := by
    rw [burdenAt_of_get (r := r) htaken rfl]
    exact congrArg (fun b => some (r, p.mass, b)) (decide_eq_false hs)
  exact hlow.raise hat (Table.rising_update _ _ hr) (Table.rising_update tag taken hr) hnone hburden ho' hline'

/-- The FETCH of the pack serves another line. -/
theorem Bound.retarget (h : Good s) (hp : Table.get s.packs tag = some p) (hs : p.state = .reserved)
    (hv : p.reservation = some victim) (hf : f ∈ s.tasks) (hsubject : f.subject = tag) (hfetch : f.isFetch = true)
    (ho : Table.get s.orders r.handle = some o) (hline : (nth o.lines r.line).isSome = true) :
    Bound (changeTask f.number (fun u => { u with kind := .fetch r }) (takenOver r victim tag p s)) := by
  subst hsubject
  let y : Machine.Task := { f with kind := .fetch r }
  let taken : Pack → Pack := fun q => { q with reservation := some r }
  let packs : Table Pack := Table.update s.packs f.subject taken
  have hmap : (s.tasks.map fun u => if u.number = f.number then { u with kind := .fetch r } else u) = replaced y s.tasks :=
    map_eq_replaced (f := fun u : Machine.Task => { u with kind := .fetch r }) h.bound.tied.numbers hf rfl
  obtain ⟨q, hq, hpx, hfits⟩ := h.bound.tied.subject f hf
  cases hp.symm.trans hq
  have hshape := h.bound.tied.shaped _ p hp
  have hhold := hold_eq_none hshape (by simp [hs])
  have hlift : f.state ≠ .lifted := (isFetch_of_reserved h.bound.tied hf (stateAt_eq_some_iff.mpr ⟨p, hp, hs⟩)).2
  have hget : Table.get packs f.subject = some (taken p) := by rw [Table.get_update_self, hp, Option.map_some]
  have hat : AtOne f.subject s.packs packs := atOne_update _ _ _
  have hspot : ∀ j, spot packs j = spot s.packs j :=
    spot_change_of_location fun i q => by split_ifs <;> rfl
  have hatop : ∀ i j, atop (spot packs) i j ↔ atop (spot s.packs) i j := fun i j => atop_congr (hspot i) (hspot j)
  have hself : stateAt packs f.subject = some .reserved := stateAt_eq_some_iff.mpr ⟨taken p, hget, hs⟩
  have hin : y ∈ replaced y s.tasks := mem_replaced_self hf rfl
  have hback : ∀ u ∈ replaced y s.tasks, u.number ≠ y.number → u ∈ s.tasks ∧ u.subject ≠ f.subject := fun u hu hm => by
    have hu' := (mem_replaced_of_ne hm).mp hu
    exact ⟨hu', fun hk => hm (congrArg Machine.Task.number (h.bound.tied.eq_of_subject hu' hf hk) :)⟩
  have htied : Tied packs (replaced y s.tasks) := by
    refine h.bound.tied.step (k := f.subject) (m := y.number) hat.others (fun u hu => mem_replaced_of_ne hu)
      (numbers_replaced y s.tasks ▸ h.bound.tied.numbers) (forall_get hp (Or.inr hpx))
      (fun u hu hm => congrArg Machine.Task.subject (h.bound.tied.eq_of_number hu hf hm)) (fun u hu hm => ?_)
      (forall_get hget ⟨?_, fun _ => ⟨hpx, y, hin, rfl⟩⟩)
    · cases eq_of_mem_replaced hu hm
      obtain ⟨hone, hmax⟩ := h.bound.tied.range f hf
      refine ⟨hone, hmax, rfl, taken p, hget, hpx, rfl, ?_⟩
      rw [if_neg hlift]
      exact hs
    · exact shaped_reserved hs (hshape.place.mpr (Or.inr (Or.inl hs))) hhold
  have hdug : Dug packs (replaced y s.tasks) := by
    refine h.bound.dug.step (k := f.subject) (m := y.number) hat.others hat.atop hback
      h.bound.tied.reserved_of_offered (fun _ i _ hi => ?_) (fun j _ hj hkj => ?_)
      (fun _ i _ hi => ⟨hself, (hatop _ _).mpr hi⟩) fun u hu hm => ?_
    · exact h.bound.dug.cover i _ (stateAt_eq_some_iff.mpr ⟨p, hp, hs⟩) ((hatop _ _).mp hi)
    · have hcover := h.bound.dug.cover _ j hj ((hatop _ _).mp hkj)
      rw [stateAt, hp, Option.map_some, hs] at hcover
      cases hcover
    · cases eq_of_mem_replaced hu hm
      refine ⟨nofun, fun _ hstate i hi => ?_⟩
      exact h.bound.dug.fetches f hf hfetch hstate i ((hatop _ _).mp hi)
  refine ⟨?_, ?_, ?_, ?_⟩
  · rw [← hmap] at htied
    exact htied
  · refine stationLaw_map (f := fun u => if u.number = f.number then { u with kind := .fetch r } else u)
      h.bound.manned (fun u => ?_) rfl rfl
    split_ifs <;> exact ⟨rfl, rfl⟩
  · rw [← hmap] at hdug
    exact hdug
  · exact h.bound.counted.takenOver h.keys.1 hp (by simp [hs]) hv ho hline

/-- A takeover, with the judgement of the offer (R103, R104). -/
theorem Bound.takeOver (h : Good s) (hp : Table.get s.packs tag = some p) (hs : p.state = .reserved)
    (ho : Table.get s.orders r.handle = some o) (hline : (nth o.lines r.line).isSome = true) :
    Bound (takeOver r tag p s) := by
  obtain ⟨f, hf, hsubject, -, victim, hkind, hv⟩ := fetch_of_reserved h.bound.tied hp hs
  have hfetch := isFetch_of_kind hkind
  have hkept := Bound.retarget h hp hs hv hf hsubject hfetch ho hline
  rw [takeOver_some hv (fetchOf_eq h.bound.tied hf hsubject hfetch)]
  refine Bound.of_alike ?_ (alike_post _ _)
  unfold judgeOffer
  split_ifs with hoffer
  · have hheld : f.station ≠ none := fun hnone => by
      have := (stationLaw_opened h.bound.manned hf).mpr hnone
      rw [hoffer.1] at this
      cases this
    obtain ⟨n, hn⟩ := Option.ne_none_iff_exists'.mp hheld
    let x : Machine.Task := { f with kind := .fetch r }
    have hx : x ∈ (changeTask f.number (fun u => { u with kind := .fetch r })
        (takenOver r victim tag p s)).tasks :=
      List.mem_map.mpr ⟨f, hf, if_pos rfl⟩
    rw [hn]
    refine hkept.reopen (x := x) (n := n) hx hn (by simp [x, hoffer.1]) rfl (.refl _) f.lapsed rfl rfl
      fun st _ hcap => Or.inl ⟨rfl, hcap⟩
  · exact hkept

end

/-! ## Commitment, and the ends of a scan (R86, R100 to R109) -/

section
variable {s : State} {r : LineRef} {o : Order} {l : OrderLine} {p : Pack} {tag : Nat} {pass : Pass} {c : Candidate}

/-- A pass takes packs in a stack alone. -/
theorem fitsLine_located {item : LineItem} (h : fitsLine s o item tag p = true) : ∃ l, p.location = some l := by
  unfold fitsLine at h
  split at h
  · cases h
  · next l hl => exact ⟨l, hl⟩

theorem Bound.commit {u : State} {item : LineItem} {o' : Order} (h : Good u)
    (hpacks : u.packs = s.packs) (htasks : u.tasks = s.tasks)
    (hp : Table.get s.packs tag = some p) (hpass : passOk pass s o' item tag p = true)
    (ho : Table.get u.orders r.handle = some o) (hline : (nth o.lines r.line).isSome = true) :
    Bound (commit pass r tag p u) := by
  refine Bound.of_alike ?_ (alike_observe _ _ _)
  have hp' : Table.get u.packs tag = some p := hpacks ▸ hp
  cases pass with
  | first =>
    have hfirst : firstPassOk s o' item tag p = true := hpass
    have habove : packsAbove u tag = packsAbove s tag := by unfold packsAbove stackList; rw [hpacks]
    have hfits : fitsLine s o' item tag p = true := by
      simp only [firstPassOk, Bool.and_eq_true] at hfirst
      exact hfirst.1.1.1.1.2
    obtain ⟨l, hl⟩ := fitsLine_located hfits
    obtain ⟨hs, -, -, -, hall, hroom⟩ := (firstPassOk_iff hl).mp hfirst
    refine Bound.reserve h hp' hs (by rw [habove]; exact hall) ?_ ho hline
    rw [dig, habove, htasks]
    exact hroom
  | second =>
    obtain ⟨hs, -⟩ := (secondPassOk_iff s o' item tag p).mp hpass
    exact Bound.takeOver h hp' hs ho hline

theorem alike_setEngine (e : Engine) (s : State) : Alike s (setEngine e s) := alike_of_eq rfl rfl rfl rfl

theorem alike_propose (r : LineRef) (tag cost : Nat) (s : State) : Alike s (propose r tag cost s) :=
  (alike_changeOrder
    (f := fun o => { o with
      proposal := some ⟨r.line, tag, cost, Config.ticksOfSeconds s.settings.timers.proposal⟩ })
    (fun _ => rfl) _ _).trans (alike_post _ _)

theorem alike_starveLine (r : LineRef) (s : State) : Alike s (starveLine r s) :=
  alike_changeOrder (f := fun o => o.changeLine r.line fun l => { l with starved := true })
    (fun o => Prod.ext rfl
      (map_changeNth_of_same (l := o.lines) (f := fun l : OrderLine => { l with starved := true }) fun _ => rfl)) _ _

theorem alike_emptySlot (h : Nat) (s : State) : Alike s (emptySlot h s) :=
  alike_changeOrder (f := fun o => { o with proposal := none }) (fun _ => rfl) _ _

theorem Bound.finishScan (h : Good s) (c : Candidate) : Bound (finishScan c s) := by
  unfold Machine.finishScan
  split
  · exact h.bound.of_alike (alike_setEngine _ _)
  next r o l hscan =>
    obtain ⟨-, ho, hl⟩ := scanLine_spec hscan
    split
    · exact h.bound.of_alike (alike_setEngine _ _)
    next p hp =>
      split_ifs with hvalid hsup
      · exact h.bound.of_alike ((alike_propose _ _ _ _).trans (alike_setEngine _ _))
      · obtain ⟨-, hpass, -⟩ := scanValid_iff.mp hvalid
        exact (Bound.commit h rfl rfl hp hpass ho (by rw [hl]; rfl)).of_alike (alike_setEngine _ _)
      · exact h.bound.of_alike (alike_setEngine _ _)

theorem Bound.endPass (h : Good s) : Bound (endPass s) := by
  unfold Machine.endPass
  split
  · exact h.bound.of_alike (alike_setEngine _ _)
  · split
    · split_ifs
      · exact h.bound.of_alike (alike_setEngine _ _)
      · exact Bound.finishScan h _
    · split_ifs
      · exact h.bound.of_alike (alike_setEngine _ _)
      · unfold endEmptyScan
        split_ifs
        · exact h.bound.of_alike (alike_setEngine _ _)
        · exact h.bound.of_alike (((alike_starveLine _ _).trans (alike_post _ _)).trans (alike_setEngine _ _))

theorem Bound.resumeScan (h : Good s) : Bound (resumeScan s) := by
  unfold Machine.resumeScan
  split_ifs
  · split
    · exact h.bound
    · exact Bound.finishScan h _
  · exact h.bound

end

end Sys2Proof.Proofs
end

section
/-!
PROOFS. The laws of the work under the requests, block by block.
-/

namespace Sys2Proof.Proofs

open Sys2Proof.Machine Sys2Proof.Safety

/-! ## What a claim leaves of the port and of the records -/

/-- What the block of a request may touch: anything but the port. -/
def within (a : Part) : Prop := a ≠ .port

/-- What leaves the records alone, the settings and the STARVED flags apart. -/
def aloof (a : Part) : Prop := a = .settings ∨ a = .rest

section
variable {A : Part → Prop} {q : Bool} {s t : State}

theorem Change.samePort (hP : ¬ A .port) (hc : Change A q s t) : t.port = s.port ∧ t.clearing = s.clearing := by
  cases hc with
  | aside hs => exact ⟨hs.port, hs.clearing⟩
  | exchange _ hP' => exact absurd hP' hP
  | judged => exact ⟨port_judgeClosing _, clearing_judgeClosing _⟩
  | reset _ _ _ _ _ hP' => exact absurd hP' hP
  | _ => exact ⟨rfl, rfl⟩

theorem Claim.samePort (h : Claim A s t) (hP : ¬ A .port) : t.port = s.port ∧ t.clearing = s.clearing :=
  h.toWork.keeps (P := fun u => u.port = s.port ∧ u.clearing = s.clearing)
    (fun _ _ _ hc ⟨hp, hl⟩ => ⟨(hc.samePort hP).1.trans hp, (hc.samePort hP).2.trans hl⟩) ⟨rfl, rfl⟩

theorem Change.alike (hB : ¬ A .packs) (hA : ¬ A .work) (hC : ¬ A .orders) (hc : Change A q s t) : Alike s t := by
  cases hc with
  | aside hs | exchange hs => exact alike_of_eq hs.packs hs.tasks hs.stations hs.orders
  | packs _ _ hB' => exact absurd hB' hB
  | flags => exact ⟨rfl, rfl, rfl, sameCounts_unstarved _⟩
  | orders _ _ hC' => exact absurd hC' hC
  | newOrder _ _ _ hC' => exact absurd hC' hC
  | relevel _ _ _ hC' => exact absurd hC' hC
  | endOrder _ _ hC' => exact absurd hC' hC
  | tasks _ _ hA' => exact absurd hA' hA
  | newTask _ _ hA' => exact absurd hA' hA
  | endTask _ _ hA' => exact absurd hA' hA
  | stations _ _ hA' => exact absurd hA' hA
  | judged _ hA' => exact absurd hA' hA
  | reset _ _ _ hA' => exact absurd hA' hA
  | _ => exact alike_of_eq rfl rfl rfl rfl

theorem Claim.alike (h : Claim A s t) (hB : ¬ A .packs) (hA : ¬ A .work) (hC : ¬ A .orders) : Alike s t :=
  h.toWork.keeps (P := Alike s) (fun _ _ _ hc hs => hs.trans (hc.alike hB hA hC)) (.refl s)

/-- A claim that keeps away from the records and from the port. -/
theorem Claim.aloof (h : Claim aloof s t) : Alike s t ∧ t.port = s.port ∧ t.clearing = s.clearing :=
  ⟨h.alike (by rintro (h | h) <;> cases h) (by rintro (h | h) <;> cases h) (by rintro (h | h) <;> cases h),
    h.samePort (by rintro (h | h) <;> cases h)⟩

theorem Good.of_alike (h : Good s) (ha : Alike s t) (hr : Table.rising t.orders) : Good t :=
  ⟨⟨ha.packs ▸ h.keys.1, hr⟩, tierLaw_of_packs ha.packs h.keys.1 h.tiers, h.bound.of_alike ha⟩

end

section
variable {s : State}

theorem bound_withPack {tag : Nat} {k : Pack → Answer} (h : Bound s)
    (hk : ∀ p, Table.get s.packs tag = some p → Bound (k p).state) : Bound (withPack tag s k).state := by
  unfold withPack
  split
  · exact h
  split
  · exact h
  split
  · exact h
  next p hp => exact hk p hp

theorem bound_withStation {n : Nat} {k : Station → Answer} (h : Bound s)
    (hk : ∀ st, s.station n = some st → Bound (k st).state) : Bound (withStation n s k).state := by
  unfold withStation
  split
  · exact h
  · next st hst => exact hk st hst

theorem bound_withHeld {n task : Nat} {k : Machine.Task → Answer} (h : Bound s)
    (hk : ∀ x ∈ s.tasks, x.station = some n → x.number = task → Bound (k x).state) :
    Bound (withHeld n task s k).state := by
  unfold withHeld
  split
  · exact h
  split
  · exact h
  next x hheld =>
    obtain ⟨hx, hn⟩ := of_heldTask hheld
    split_ifs with hnumber
    · exact hk x hx hn hnumber
    · exact h

/-! ## Family 1 -/

theorem bound_setBayBlock (h : Good s) (bay : Nat) (enabled covered : Bool) (row col stackCount tierLimit : Nat) :
    Bound (setBayBlock bay enabled covered row col stackCount tierLimit s).state := by
  have happly : ∀ e, Bound (applyBay bay e s) := fun e => by
    have hwritten : Good (clearStarved (writeBay bay e s)) :=
      h.of_alike (Alike.trans (t := writeBay bay e s) (alike_of_eq rfl rfl rfl rfl) (alike_clearStarved _)) (by
        rw [orders_clearStarved]
        exact Table.rising_change _ h.keys.2)
    simp only [applyBay]
    split_ifs
    · exact (hwritten.wetBay bay).bound
    · exact hwritten.bound
  unfold setBayBlock
  split
  · exact h.bound
  split_ifs
  · exact h.bound
  · exact h.bound
  · exact h.bound
  · exact h.bound
  · exact happly _

theorem bound_closeYardBlock (h : Bound s) : Bound (closeYardBlock s).state := by
  show Bound (if s.mode = .opened then judgeClosing { s with mode := .closing } else s)
  split_ifs
  · exact Bound.judgeClosing (s := { s with mode := .closing }) (h.of_alike (alike_of_eq rfl rfl rfl rfl))
  · exact h

/-! ## Family 3 -/

theorem bound_receivePackBlock (h : Good s) (tag product length count mass : Nat) (drying : Drying) (bay stack : Nat)
    (ready : Option Nat) :
    Bound (receivePackBlock tag product length count mass drying bay stack ready s).state := by
  unfold receivePackBlock
  split_ifs with _ _ hlive
  · exact h.bound
  · exact h.bound
  · exact h.bound
  · exact h.bound.of_alike (alike_post _ _)
  · split
    · exact h.bound
    · next hcheck =>
      have hfree : Table.get s.packs tag = none := by
        unfold Table.has at hlive
        simpa using hlive
      exact Bound.bear h hfree hcheck rfl rfl rfl rfl rfl

theorem bound_recordMoveBlock (h : Good s) (tag bay stack : Nat) : Bound (recordMoveBlock tag bay stack s).state := by
  refine bound_withPack h.bound fun p hp => ?_
  split_ifs with hbusy hgone
  · exact h.bound
  · exact h.bound
  · exact h.bound
  · split
    · exact h.bound
    · next hcheck =>
      show Bound (applyMove tag bay stack p s)
      unfold applyMove
      split_ifs
      · exact h.bound
      · have hshape := h.bound.tied.shaped tag p hp
        have hidle : p.state = .stored ∨ p.state = .held := by
          cases hs : p.state <;> simp_all
        obtain ⟨hrest, hres, htask⟩ := h.bound.idle hp hidle
        have hdamaged : p.state = .held → p.hold = some .damaged := fun hs => by
          by_contra hne
          exact hgone (Or.inr ⟨hs, hne⟩)
        refine (Bound.putDown (f := id) h hp hidle hcheck (fun l => ⟨⟨?_, hshape.hold, hshape.task, hshape.reservation,
          hshape.loaded⟩, hrest⟩) hres).of_alike (alike_observe _ _ _)
        exact iff_of_true rfl (hidle.imp_right fun hs => Or.inr (Or.inr (hdamaged hs)))

theorem bound_holdPackBlock (h : Good s) (tag : Nat) : Bound (holdPackBlock tag s).state := by
  refine bound_withPack h.bound fun p hp => ?_
  split_ifs with hs hs
  · have hloc := location_of_stored h.bound.tied hp hs
    exact (Bound.changePack (f := Pack.toHeld .damaged) h hp (Or.inl hs)
      (shaped_held rfl rfl rfl rfl (iff_of_true hloc rfl)) (fun _ => rfl) rfl).of_alike (alike_observe _ _ _)
  · exact Bound.hold_reserved h hp hs.1 _ _
  · exact h.bound

theorem bound_releasePackBlock (h : Good s) (tag : Nat) (place : Option (Nat × Nat)) :
    Bound (releasePackBlock tag place s).state := by
  refine bound_withPack h.bound fun p hp => ?_
  split_ifs with hs hwhy
  · exact h.bound
  · split
    · exact h.bound
    · have hloc : p.location.isSome = true :=
        (h.bound.tied.shaped tag p hp).place.mpr (Or.inr (Or.inr (Or.inr hwhy)))
      exact (Bound.changePack (f := Pack.toStored) h hp (Or.inr (not_not.mp hs))
        (shaped_stored rfl hloc rfl rfl rfl) (fun _ => rfl) rfl).of_alike
        ((alike_clearStarved _).trans (alike_observe _ _ _))
  · split
    · exact h.bound
    · split
      · exact h.bound
      · next hcheck =>
        exact (Bound.putDown (f := Pack.toStored) h hp (Or.inr (not_not.mp hs)) hcheck
          (fun l => shaped_stored rfl rfl rfl rfl rfl) rfl).of_alike
          ((alike_clearStarved _).trans (alike_observe _ _ _))

theorem bound_scrapPackBlock (h : Good s) (tag : Nat) : Bound (scrapPackBlock tag s).state := by
  refine bound_withPack h.bound fun p hp => ?_
  split_ifs with hs
  · exact (Bound.retirePack h hp hs).of_alike (alike_observe _ _ _)
  · exact h.bound

theorem bound_clearMarks (h : Good s) (named : Option Nat) (which : Nat → Pack → Bool) :
    Bound (clearMarks named which s).state := by
  have hdry : Bound (observe named s.packs (dryPacks which s)) := by
    refine Bound.of_alike (Good.bound ?_) (alike_observe _ _ _)
    exact h.rewet (f := fun t p => if which t p then { p with wetted := false } else p)
      (fun k q => by split_ifs <;> rfl) (fun k q => by split_ifs <;> rfl) rfl rfl rfl rfl
  show Bound (if wetCount which s = 0 then observe named s.packs (dryPacks which s)
    else clearStarved (observe named s.packs (dryPacks which s)))
  split_ifs
  · exact hdry
  · exact hdry.of_alike (alike_clearStarved _)

theorem bound_clearWettedBlock (h : Good s) (tag bay : Option Nat) : Bound (clearWettedBlock tag bay s).state := by
  unfold clearWettedBlock
  split
  · exact bound_withPack h.bound fun _ _ => bound_clearMarks h _ _
  · split_ifs
    · exact h.bound
    · exact h.bound
    · exact bound_clearMarks h _ _
  · exact h.bound
  · exact h.bound

/-! ## Family 4 -/

theorem tally_eq_zero {w : Pack → Nat} {packs : Table Pack} (h : ∀ e ∈ packs, w e.2 = 0) : tally w packs = 0 := by
  rw [tally, List.sum_eq_zero]
  intro n hn
  obtain ⟨e, he, rfl⟩ := List.mem_map.mp hn
  exact h e he

/-- A new order, which no reservation names yet (R64). -/
theorem Counted.born {packs : Table Pack} {orders : Table Order} {h : Nat} {o : Order} (hc : Counted packs orders)
    (hr : Table.rising packs) (hfree : Table.get orders h = none) (hcommitted : o.committed = 0)
    (hlines : ∀ l ∈ o.lines, l.allocated = 0 ∧ l.loaded = 0) : Counted packs (Table.put orders h o) := by
  have hget : ∀ n, n ≠ h → Table.get (Table.put orders h o) n = Table.get orders n := fun n hn =>
    Table.get_put_other orders o hn
  have hnone : ∀ e ∈ packs, e.2.reservation.map LineRef.handle ≠ some h := fun e he hres => by
    obtain ⟨r, hr', hhandle⟩ := Option.map_eq_some_iff.mp hres
    obtain ⟨o', ho', -⟩ := hc.live e.1 e.2 r (Table.get_of_mem hr he) hr'
    rw [hhandle, hfree] at ho'
    cases ho'
  have hnot : ∀ e ∈ packs, ∀ i, e.2.reservation ≠ some ⟨h, i⟩ := fun e he i hres => hnone e he (by rw [hres]; rfl)
  refine ⟨fun k p r hp hres => ?_, fun n o' ho' => ?_⟩
  · obtain ⟨o', ho', hline⟩ := hc.live k p r hp hres
    refine ⟨o', ?_, hline⟩
    rw [hget _ fun he => ?_, ho']
    rw [he, hfree] at ho'
    cases ho'
  · by_cases hn : n = h
    · subst hn
      rw [Table.get_put_self] at ho'
      cases ho'
      refine ⟨?_, fun i l hl => ?_⟩
      · rw [hcommitted, tally_eq_zero fun e he => if_neg (hnone e he)]
      · obtain ⟨j, -, hj⟩ := nth_eq_some_iff.mp hl
        obtain ⟨hallocated, hloaded⟩ := hlines l (List.mem_of_getElem? hj)
        rw [hallocated, hloaded, tally_eq_zero fun e he => if_neg (hnot e he i),
          tally_eq_zero fun e he => if_neg fun hres => hnot e he i hres.1]
        exact ⟨rfl, rfl⟩
    · rw [hget n hn] at ho'
      exact hc.counts n o' ho'

theorem bound_checkInBlock (h : Good s) (truck level payload : Nat) (supervised : Bool) (lines : List LineItem) :
    Bound (checkInBlock truck level payload supervised lines s).state := by
  unfold checkInBlock
  split_ifs with _ _ hroom
  · exact h.bound
  · exact h.bound
  · exact h.bound.of_alike (alike_post _ _)
  · exact h.bound
  · obtain ⟨hfree, -⟩ := freeHandle_spec (s := s) (by omega)
    refine ⟨h.bound.tied, stationLaw_congr (s := s) rfl rfl h.bound.manned, h.bound.dug, ?_⟩
    refine h.bound.counted.born h.keys.1 (Table.get_eq_none s.orders hfree) rfl fun l hl => ?_
    obtain ⟨item, -, rfl⟩ := List.mem_map.mp hl
    exact ⟨rfl, rfl⟩

theorem bound_setPointBlock (h : Bound s) (handle point : Nat) : Bound (setPointBlock handle point s).state := by
  unfold setPointBlock
  split
  · exact h
  split
  · exact h
  · split_ifs
    · exact h
    · exact h
    · exact h.of_alike (alike_changeOrder (f := Order.called point) (fun _ => rfl) handle s)

theorem bound_setLevelBlock (h : Bound s) (handle level : Nat) : Bound (setLevelBlock handle level s).state := by
  unfold setLevelBlock
  split
  · exact h
  split
  · exact h
  next o _ =>
    show Bound (if o.level = level then s else relevel handle level s)
    split_ifs
    · exact h
    · refine h.of_alike (Alike.trans (t := { changeOrder handle (fun o => { o with level := level }) s with
        queue := joinQueue s handle level (leaveQueue handle s.queue) }) ?_ (alike_clearStarved _))
      exact (alike_changeOrder (f := fun o => { o with level := level }) (fun _ => rfl) handle s).trans
        (alike_of_eq rfl rfl rfl rfl)

theorem bound_cancelBlock (h : Good s) (handle : Nat) : Bound (cancelBlock handle s).state := by
  unfold cancelBlock endOrderBlock
  split
  · exact h.bound
  split
  · exact h.bound
  split
  · exact h.bound
  · exact Bound.endOrder h unloads_unconfirm handle

theorem bound_departBlock (h : Good s) (handle : Nat) : Bound (departBlock handle s).state := by
  unfold departBlock endOrderBlock
  split
  · exact h.bound
  split
  · exact h.bound
  split
  · exact h.bound
  · exact Bound.endOrder h unloads_depart handle

theorem Good.emptySlot (h : Good s) (handle : Nat) : Good (emptySlot handle s) :=
  h.of_alike (alike_emptySlot handle s)
    (Table.rising_update handle (fun o : Order => { o with proposal := none }) h.keys.2)

theorem bound_confirmProposalBlock (h : Good s) (handle tag : Nat) :
    Bound (confirmProposalBlock handle tag s).state := by
  unfold confirmProposalBlock
  split
  · exact h.bound
  split
  · exact h.bound
  split
  · exact h.bound
  next o ho =>
    split
    · exact h.bound
    next pr _ =>
      split_ifs
      · unfold confirm
        split
        · exact (h.emptySlot handle).bound
        next pass p l hconfirm =>
          obtain ⟨hp, hl, -, hpass⟩ := confirmable_spec hconfirm
          refine Bound.commit (s := s) (r := ⟨handle, pr.line⟩) (o := { o with proposal := none })
            (h.emptySlot handle) rfl rfl hp hpass ?_ ?_
          · show Table.get (Table.update s.orders handle fun o => { o with proposal := none }) handle = _
            rw [Table.get_update_self, show Table.get s.orders handle = some o from ho]
            rfl
          · show (nth o.lines pr.line).isSome = true
            rw [hl]
            rfl
      · exact h.bound

theorem bound_rejectProposalBlock (h : Bound s) (handle tag : Nat) :
    Bound (rejectProposalBlock handle tag s).state := by
  unfold rejectProposalBlock
  split
  · exact h
  split
  · exact h
  · split_ifs
    · exact h.of_alike (alike_changeOrder
        (f := fun o => { o with proposal := none, rejected := addRejected tag o.rejected }) (fun _ => rfl) handle s)
    · exact h

/-! ## Family 5 -/

theorem bound_goOnShiftBlock (h : Bound s) (n capacity : Nat) : Bound (goOnShiftBlock n capacity s).state := by
  refine bound_withStation h fun st hst => ?_
  split
  · exact h
  split_ifs with _ hs
  · exact h
  · exact h
  · exact h.goOnShift hst (not_not.mp hs) rfl nofun

theorem free_of_heldTask {n : Nat} (h : heldTask s n = none) : ∀ u ∈ s.tasks, u.station ≠ some n := fun u hu hn => by
  have := List.find?_eq_none.mp h u hu
  simp [hn] at this

/-- A station that holds nothing goes off shift (R126). -/
theorem Bound.goOffShift (h : Bound s) {n : Nat} (hfree : ∀ u ∈ s.tasks, u.station ≠ some n) :
    Bound (changeStation n Station.offShift s) := by
  refine ⟨h.tied, stationLaw_step (m := 0) (n := n) h.manned h.tied.numbers (fun _ _ => Iff.rfl)
    (station_changed_ne rfl) (fun u hu _ => hfree u hu) (fun u hu h0 => absurd h0 (h.tied.number_ne_zero hu))
    (fun u hu h0 => absurd h0 (h.tied.number_ne_zero hu)) fun _ st hst => ?_, h.dug, h.counted⟩
  rw [station_changed (s := s) (g := Station.offShift) rfl, Option.mem_def, Option.map_eq_some_iff] at hst
  obtain ⟨st', -, rfl⟩ := hst
  exact stationAgrees_offShift rfl rfl hfree

theorem bound_goOffShiftBlock (h : Bound s) (n : Nat) : Bound (goOffShiftBlock n s).state := by
  refine bound_withStation h fun _ _ => ?_
  split_ifs with hlifted
  · exact h
  · show Bound (changeStation n Station.offShift (reopenHeld n s))
    unfold reopenHeld
    cases hheld : heldTask s n with
    | none => exact h.goOffShift (free_of_heldTask hheld)
    | some x =>
      obtain ⟨hx, hn⟩ := of_heldTask hheld
      have hstate : x.state ≠ .lifted := fun hl => hlifted (by simp [holdsLifted, hheld, hl])
      exact h.reopen hx hn hstate rfl (.refl _) x.lapsed rfl rfl fun _ _ _ => Or.inr ⟨rfl, rfl⟩

theorem bound_pollTaskBlock (h : Bound s) (n : Nat) : Bound (pollTaskBlock n s).state :=
  bound_withStation h fun _ _ => h.restation fun _ _ => ⟨rfl, Iff.rfl⟩

theorem bound_acceptBlock (h : Bound s) (n task : Nat) : Bound (acceptBlock n task s).state := by
  refine bound_withHeld h fun x hx hn hnumber => ?_
  subst hnumber
  split
  · next hs => exact h.acceptTask hx hn hs
  · exact h
  · exact h
  · exact h

theorem bound_declineBlock (h : Bound s) (n task : Nat) : Bound (declineBlock n task s).state := by
  refine bound_withHeld h fun x hx hn hnumber => ?_
  subst hnumber
  split_ifs with hs
  · exact h
  · exact h.reopen (t := changeStation n (fun st => { st with state := .idle }) (lapseTask n x.number s)) hx hn hs rfl
      (.refl _) (some n) rfl rfl fun _ _ hcap => Or.inl ⟨rfl, hcap⟩

theorem bound_liftedBlock (h : Good s) {n : Nat} (hn8 : n ≤ Config.stationCount) (tag : Nat) :
    Bound (liftedBlock n tag s).state := by
  refine bound_withStation h.bound fun st hst => ?_
  split
  · exact h.bound
  split_ifs with _ hoff
  · exact h.bound
  · exact h.bound
  · have hcap := capacity_of_onShift h.bound.manned hn8 hst hoff
    split
    next x hheld =>
      obtain ⟨hx, hn⟩ := of_heldTask hheld
      unfold liftHeld
      split_ifs with _ hlifted
      · exact h.bound
      · exact h.bound
      · refine Bound.liftBy h hx hlifted (fun i hi => by rw [hn] at hi; exact (Option.some.inj hi).symm)
          ⟨hst, hn8, hcap, stationLaw_alone h.bound.manned hx hn⟩ (fun hfetch => ?_) _ _
        refine h.bound.dug.fetches x hx hfetch ?_
        obtain ⟨-, -, hopen⟩ := stationLaw_holder h.bound.manned hx hn
        cases hs : x.state <;> simp_all
    next hheld =>
      have hfree := free_of_heldTask hheld
      unfold liftIdle
      split
      · exact h.bound
      next p hp =>
        split
        next x hopen =>
          have hx : x ∈ s.tasks := List.mem_of_find?_eq_some hopen
          have hspec := List.find?_some hopen
          simp only [decide_eq_true_eq] at hspec
          obtain ⟨hsubject, hs⟩ := hspec
          unfold liftLate
          split_ifs with hmoving
          · exact h.bound
          · have hnone := (stationLaw_opened h.bound.manned hx).mp hs
            refine Bound.liftBy h hx (by simp [hs]) (fun i hi => by rw [hnone] at hi; cases hi)
              ⟨hst, hn8, hcap, fun u hu _ => hfree u hu⟩ (fun hfetch => ?_) _ _
            refine clear_of_movingAbove h.bound.dug (h.bound.tied.reserved_of_fetch hx hfetch (by simp [hs])) ?_
            rw [hsubject]
            simpa [hfetch] using hmoving
        next =>
          unfold liftFree
          split_ifs with hs _ hroom
          · exact h.bound
          · exact h.bound
          · exact h.bound.of_alike (alike_post _ _)
          · exact Bound.liftUnplanned h hp (not_not.mp hs) hroom hst hn8 hcap hfree

theorem bound_droppedBlock (h : Good s) (n : Nat) (dest : Destination) : Bound (droppedBlock n dest s).state := by
  unfold droppedBlock
  split_ifs
  · exact h.bound
  · exact h.bound
  · split
    · exact h.bound
    next x hlifted =>
      obtain ⟨hheld, hl⟩ := liftedTaskOf_spec hlifted
      obtain ⟨hx, hn⟩ := of_heldTask hheld
      split
      · unfold dropTruck
        split
        next r hkind =>
          split_ifs
          · exact Bound.dropOnTruck h hx hn hl hkind
          · exact h.bound
        · exact h.bound
        · exact h.bound
      · unfold dropStack
        split
        · exact h.bound
        next hcheck =>
          show Bound (if x.isFetch then _ else _)
          split_ifs with hfetch
          · exact Bound.setBack h hx hn hl hfetch hcheck
          · exact Bound.dropOnStack h hx hn hl (by simpa using hfetch) hcheck

theorem bound_reportMissingBlock (h : Good s) (n : Nat) : Bound (reportMissingBlock n s).state := by
  unfold reportMissingBlock
  split_ifs
  · exact h.bound
  · split
    · exact h.bound
    next x hheld =>
      obtain ⟨hx, hn⟩ := of_heldTask hheld
      split_ifs with hs
      · exact h.bound
      · refine Bound.reportLost h hx hn ?_
        obtain ⟨-, -, hopen⟩ := stationLaw_holder h.bound.manned hx hn
        cases hx : x.state <;> simp_all

theorem bound_reportPositionBlock (h : Bound s) (n bay : Nat) : Bound (reportPositionBlock n bay s).state := by
  unfold reportPositionBlock
  split_ifs
  · exact h
  · exact h.restation fun _ _ => ⟨rfl, Iff.rfl⟩

end

end Sys2Proof.Proofs
end

section
/-!
PROOFS. The laws between the records (R31, R36, R37, R66, R67, R119) under every step: at the port, through a reset, and
under the events.
-/

namespace Sys2Proof.Proofs

open Sys2Proof.Machine Sys2Proof.Safety

/-! ## The laws of the work and the port -/

section
variable {s t : State}

theorem eq_nil_of_sameCounts {b : Table Order} (h : SameCounts [] b) : b = [] := by
  cases b with
  | nil => rfl
  | cons e b =>
    have hget := h e.1
    simp [Table.get] at hget

theorem workLaw_of_bound (hk : keyLaw t) (hb : Bound t) (hport : t.port ≠ .starting)
    (hclear : t.clearing = true → t.port = .executing .clearYard ∧ t.orders = [] ∧ t.tasks = []) : workLaw t := by
  obtain ⟨hplace, hman, hlink, hdig, hcount⟩ := (bound_iff hk).mp hb
  exact ⟨hplace, hman, fun h => absurd h hport, hclear, fun _ => ⟨hlink, hdig, hcount⟩⟩

theorem good_of_workLaw (hk : keyLaw s) (ht : tierLaw s) (h : workLaw s) (hport : s.port ≠ .starting) : Good s := by
  obtain ⟨hplace, hman, -, -, hwork⟩ := h
  exact ⟨hk, ht, (bound_iff hk).mpr ⟨hplace, hman, hwork hport⟩⟩

/-- What leaves the records and the port keeps the laws. -/
theorem workLaw_of_alike (hk : keyLaw s) (hk' : keyLaw t) (ha : Alike s t) (hport : t.port = s.port)
    (hclear : t.clearing = s.clearing) (h : workLaw s) : workLaw t := by
  obtain ⟨hplace, hman, hstart, hclearing, hwork⟩ := h
  have hidle : s.orders = [] ∧ s.tasks = [] → t.orders = [] ∧ t.tasks = [] := fun ⟨ho, hn⟩ =>
    ⟨eq_nil_of_sameCounts (ho ▸ ha.orders), ha.tasks.trans hn⟩
  refine ⟨by rw [placeLaw, ha.packs]; exact hplace, stationLaw_congr ha.tasks ha.stations hman,
    fun hp => hidle (hstart (hport ▸ hp)), fun hc => ?_, fun hp => ?_⟩
  · obtain ⟨hexec, ho, hn⟩ := hclearing (hclear ▸ hc)
    exact ⟨hport.trans hexec, hidle ⟨ho, hn⟩⟩
  · have hbound : Bound s := (bound_iff hk).mpr ⟨hplace, hman, hwork (hport ▸ hp)⟩
    exact ((bound_iff hk').mp (hbound.of_alike ha)).2.2

/-! ## A request at the port (R172 to R174) -/

theorem respond_eq (c : Instr) (a : Answer) :
    ∃ r l, respond c a = { a.state with port := .answered r, lastStatus := l } := by
  unfold respond respondAs
  split_ifs
  · exact ⟨_, a.state.lastStatus, rfl⟩
  · exact ⟨_, _, rfl⟩

theorem workLaw_respond {c : Instr} {a : Answer} (hk : keyLaw (respond c a)) (hb : Bound a.state)
    (hclear : a.state.clearing = false) : workLaw (respond c a) := by
  obtain ⟨r, l, he⟩ := respond_eq c a
  rw [he] at hk ⊢
  exact workLaw_of_bound hk (hb.of_alike (alike_of_eq rfl rfl rfl rfl)) nofun
    fun h => absurd (hclear.symm.trans h) nofun

/-- The block of a request keeps the laws of the work, and leaves the mark of a running CLEAR_YARD. -/
def Upholds (c : Instr) (block : State → Answer) : Prop :=
  ∀ u, Good u → stationAllowed (familyOf c.requestCode) c.stationField = true →
    Bound (block u).state ∧ (block u).state.clearing = u.clearing

theorem upholds_of_aloof {c : Instr} {block : State → Answer} (h : ∀ u, Claim aloof u (block u).state) :
    Upholds c block := fun u hu _ =>
  have ⟨ha, _, hclear⟩ := (h u).aloof
  ⟨hu.bound.of_alike ha, hclear⟩

theorem upholds_of_within {c : Instr} {block : State → Answer} (hb : ∀ u, Good u → Bound (block u).state)
    (h : ∀ u, Claim within u (block u).state) : Upholds c block := fun u hu _ =>
  ⟨hb u hu, ((h u).samePort fun hne => hne rfl).2⟩

theorem workLaw_takeRequest {c : Instr} {block : State → Answer} (h : Upholds c block) (hg : Good s)
    (hclear : s.clearing = false) (hk : keyLaw (takeRequest c block s)) : workLaw (takeRequest c block s) := by
  unfold takeRequest at hk ⊢
  split_ifs at hk ⊢ with hstation
  · obtain ⟨hb, hc⟩ := h s hg hstation
    exact workLaw_respond hk hb (hc.trans hclear)
  · exact workLaw_respond hk hg.bound hclear

/-- A request is taken by its block in a state with the same records, at a port that executes it, or not at all. -/
theorem workLaw_intake {c : Instr} {k : State → State} (hk : keyLaw s) (ht : tierLaw s) (hk' : keyLaw (intake c k s))
    (h : workLaw s)
    (htaken : ∀ u, Good u → u.mode = s.mode → u.orders = s.orders → u.tasks = s.tasks → u.port = .executing c →
      u.clearing = false → keyLaw (k u) → workLaw (k u)) : workLaw (intake c k s) := by
  have hmeet : ∀ u, Alike s u → u.mode = s.mode → u.orders = s.orders → u.port = .executing c →
      u.clearing = s.clearing → s.port ≠ .starting → (s.port = .executing .clearYard → s.clearing = false) →
      keyLaw (k u) → workLaw (k u) := fun u ha hmode ho hport hclear hstart hfree hku => by
    have hidle : s.clearing = false := by
      cases hc : s.clearing with
      | false => rfl
      | true => exact absurd ((hfree (h.2.2.2.1 hc).1).symm.trans hc) nofun
    exact htaken u ((good_of_workLaw hk ht h hstart).of_alike ha (ho ▸ hk.2)) hmode ho ha.tasks hport
      (hclear.trans hidle) hku
  unfold intake at hk' ⊢
  split_ifs at hk' ⊢
  · exact h
  · split at hk'
    · exact workLaw_of_alike (s := s) hk hk' (alike_of_eq rfl rfl rfl rfl) rfl rfl h
    next hport =>
      exact hmeet (beginRequest c s) (alike_of_eq rfl rfl rfl rfl) rfl rfl rfl rfl (by rw [hport]; exact nofun)
        (fun hp => by rw [hport] at hp; cases hp) hk'
    next r hport =>
      exact hmeet (beginRequest c (post .portOverrun s)) (alike_of_eq rfl rfl rfl rfl) rfl rfl rfl rfl
        (by rw [hport]; exact nofun) (fun hp => by rw [hport] at hp; cases hp) hk'
    next r hport =>
      split_ifs at hk' ⊢ with htake
      · exact hmeet s (.refl s) rfl rfl (htake.1 ▸ hport) rfl (by rw [hport]; exact nofun) (fun _ => htake.2) hk'
      · exact workLaw_of_alike (s := s) hk hk' (alike_post _ _) rfl rfl h

theorem Upholds.serve {c : Instr} {block : State → Answer} (hb : Upholds c block) (hk : keyLaw s) (ht : tierLaw s)
    (hk' : keyLaw t) (h : workLaw s) (hx : serve c block s = .next t) : workLaw t := by
  cases hx
  exact workLaw_intake hk ht hk' h fun u hu _ _ _ _ hclear hku => workLaw_takeRequest hb hu hclear hku

/-- CLEAR_YARD runs on in a closed yard alone, where nothing is live (R54, R155). -/
theorem workLaw_clearYard (hk : keyLaw s) (ht : tierLaw s) (hclosed : closedLaw s) (hk' : keyLaw t) (h : workLaw s)
    (hx : execClearYard s = .next t) : workLaw t := by
  cases hx
  refine workLaw_intake hk ht hk' h fun u hu hmode ho htasks hport hclear hku => ?_
  unfold takeClearYard at hku ⊢
  split_ifs at hku ⊢ with _ hm
  · exact workLaw_respond hku hu.bound hclear
  · exact workLaw_respond hku hu.bound hclear
  · obtain ⟨hnone, hno, -⟩ := hclosed (hmode ▸ not_not.mp hm)
    refine workLaw_of_bound hku (hu.bound.of_alike (alike_of_eq rfl rfl rfl rfl)) ?_ fun _ =>
      ⟨hport, ho.trans hnone, htasks.trans hno⟩
    show u.port ≠ .starting
    rw [hport]
    exact nofun

/-! ## States at rest: a cleared yard, a reset and its check (R54, R57, R183, R184) -/

/-- With nothing live and every pack at rest the laws of the work hold. -/
theorem Bound.ofRest (hpacks : ∀ k p, Table.get t.packs k = some p → Shaped p ∧ ¬ atWork p ∧ p.reservation = none)
    (hman : stationLaw t) (htasks : t.tasks = []) (horders : t.orders = []) : Bound t := by
  refine ⟨?_, hman, ?_, ?_⟩
  · rw [htasks]
    exact ⟨List.nodup_nil, nofun, nofun, fun k p hp => (hpacks k p hp).1,
      fun k p hp hwork => absurd hwork (hpacks k p hp).2.1⟩
  · rw [htasks]
    refine ⟨fun i j hj => ?_, nofun, nofun⟩
    exact absurd hj (not_reserved_of_rest fun p hp => (hpacks j p hp).2.1)
  · rw [horders]
    refine ⟨fun k p r hp hr => ?_, nofun⟩
    rw [(hpacks k p hp).2.2] at hr
    cases hr

theorem workLaw_clearYardEnd (hk' : keyLaw t) (h : workLaw s) (hx : execClearYardEnd s = .next t) : workLaw t := by
  cases hx
  split_ifs at hk' ⊢ with hrun
  · obtain ⟨-, hman, -, hclear, -⟩ := h
    obtain ⟨-, ho, hn⟩ := hclear hrun.2
    refine workLaw_respond hk' ?_ (clearing_observe _ _ _)
    refine Bound.of_alike (s := { s with
      packs := [], clearing := false, badTables := s.badTables &&& ~~~packTableBit }) ?_ (alike_observe _ _ _)
    exact Bound.ofRest nofun (stationLaw_congr (s := s) rfl rfl hman) hn ho
  · exact h

theorem workLaw_startReset (cause : ResetCause) (supply : SupplyStatus) (hplace : placeLaw s) :
    workLaw (startReset cause supply s) := by
  refine ⟨hplace, ⟨nofun, nofun, fun n _ st hst => ?_⟩, fun _ => ⟨rfl, rfl⟩, nofun, fun h => absurd rfl h⟩
  have hmem : st ∈ List.replicate 8 Station.default := by
    obtain ⟨i, -, hi⟩ := nth_eq_some_iff.mp hst
    exact List.mem_of_getElem? hi
  rw [List.eq_of_mem_replicate hmem]
  exact stationAgrees_offShift rfl rfl nofun

theorem workLaw_powerOn {battery : Bool} {supply : SupplyStatus} (h : workLaw s)
    (hx : execPowerOn battery supply s = .next t) : workLaw t := by
  cases hx
  refine workLaw_startReset _ _ ?_
  cases battery <;> exact h.1

theorem workLaw_resetPin {supply : SupplyStatus} (hk : keyLaw s) (hk' : keyLaw t) (h : workLaw s)
    (hx : execResetPin supply s = .next t) : workLaw t := by
  cases hx
  split_ifs at hk' ⊢
  · exact workLaw_of_alike (s := s) hk hk' (alike_of_eq rfl rfl rfl rfl) rfl rfl h
  · exact workLaw_startReset (s := { s with resetHeld := false }) _ _ h.1

/-- A record whose place and hold reason keep law 3 comes to rest by reconciliation (R57). -/
theorem rest_reconciled {p : Pack}
    (hplace : p.location.isSome = true ↔
      p.state = .stored ∨ p.state = .reserved ∨ p.state = .moving ∨ p.hold = some .damaged)
    (hhold : p.hold.isSome = true ↔ p.state = .held) :
    Shaped p.reconciled ∧ ¬ atWork p.reconciled ∧ p.reconciled.reservation = none := by
  have hfree : p.state ≠ .held → p.hold = none := fun hne => by
    cases hh : p.hold with
    | none => rfl
    | some why => exact absurd (hhold.mp (by rw [hh]; rfl)) hne
  cases hs : p.state with
  | stored =>
    have he : p.reconciled = { p with reservation := none, task := none } := by rw [Pack.reconciled, hs]
    obtain ⟨hshape, hrest⟩ := shaped_stored (p := { p with reservation := none, task := none }) hs
      (hplace.mpr (Or.inl hs)) rfl rfl (hfree (by simp [hs]))
    rw [he]
    exact ⟨hshape, hrest, rfl⟩
  | reserved =>
    have he : p.reconciled = { p with state := .stored, reservation := none, task := none } := by
      rw [Pack.reconciled, hs]
    obtain ⟨hshape, hrest⟩ := shaped_stored (p := { p with state := .stored, reservation := none, task := none }) rfl
      (hplace.mpr (Or.inr (Or.inl hs))) rfl rfl (hfree (by simp [hs]))
    rw [he]
    exact ⟨hshape, hrest, rfl⟩
  | moving =>
    have he : p.reconciled = { p with state := .stored, reservation := none, task := none } := by
      rw [Pack.reconciled, hs]
    obtain ⟨hshape, hrest⟩ := shaped_stored (p := { p with state := .stored, reservation := none, task := none }) rfl
      (hplace.mpr (Or.inr (Or.inr (Or.inl hs)))) rfl rfl (hfree (by simp [hs]))
    rw [he]
    exact ⟨hshape, hrest, rfl⟩
  | lifted =>
    rw [Pack.reconciled, hs]
    exact ⟨(shaped_held rfl rfl rfl rfl (by simp)).1, (shaped_held rfl rfl rfl rfl (by simp)).2, rfl⟩
  | loaded =>
    rw [Pack.reconciled, hs]
    exact ⟨(shaped_held rfl rfl rfl rfl (by simp)).1, (shaped_held rfl rfl rfl rfl (by simp)).2, rfl⟩
  | held =>
    have he : p.reconciled = { p with reservation := none, task := none } := by rw [Pack.reconciled, hs]
    obtain ⟨why, hwhy⟩ := Option.isSome_iff_exists.mp (hhold.mpr hs)
    obtain ⟨hshape, hrest⟩ := shaped_held (p := { p with reservation := none, task := none }) hs rfl rfl hwhy
      (by simpa [hs, hwhy] using hplace)
    rw [he]
    exact ⟨hshape, hrest, rfl⟩

/-- The steps of the check but the last touch no pack, unless they empty the table (R184). -/
theorem packs_checked (tables damaged : BitVec 6) (s : State) :
    (checkTables tables damaged s).packs = s.packs ∨ (checkTables tables damaged s).packs = [] := by
  show (if (failing tables damaged s).getLsbD 2 then [] else s.packs) = s.packs ∨
    (if (failing tables damaged s).getLsbD 2 then [] else s.packs) = []
  split_ifs
  · exact Or.inr rfl
  · exact Or.inl rfl

theorem packs_emptied (damaged : BitVec 6) (s : State) :
    (emptyForFailed (checkTables allTables damaged s)).packs = s.packs ∨
      (emptyForFailed (checkTables allTables damaged s)).packs = [] := by
  unfold emptyForFailed
  split_ifs
  · exact Or.inr rfl
  · exact packs_checked _ _ _

/-- The check keeps away from orders, tasks, stations and the port. -/
theorem checkSteps_frame (progress : CheckProgress) (damaged : BitVec 6) (s : State) :
    (checkSteps progress damaged s).orders = s.orders ∧ (checkSteps progress damaged s).tasks = s.tasks ∧
      (checkSteps progress damaged s).stations = s.stations ∧ (checkSteps progress damaged s).port = s.port ∧
      (checkSteps progress damaged s).clearing = s.clearing := by
  have hempty : ∀ u : State, ∃ p, emptyForFailed u = { u with packs := p } := fun u => by
    unfold emptyForFailed
    split_ifs
    · exact ⟨[], rfl⟩
    · exact ⟨u.packs, rfl⟩
  obtain ⟨p, hp⟩ := hempty (checkTables allTables damaged s)
  cases progress with
  | checking tables => exact ⟨rfl, rfl, rfl, rfl, rfl⟩
  | emptied => rw [checkSteps, hp]; exact ⟨rfl, rfl, rfl, rfl, rfl⟩
  | raised => rw [checkSteps, hp]; exact ⟨rfl, rfl, rfl, rfl, rfl⟩
  | reconciled => rw [checkSteps, hp]; exact ⟨rfl, rfl, rfl, rfl, rfl⟩

theorem rest_of_checked (hplace : placeLaw s) (damaged : BitVec 6) :
    ∀ e ∈ (checkSteps .reconciled damaged s).packs, Shaped e.2 ∧ ¬ atWork e.2 ∧ e.2.reservation = none := by
  intro e he
  have he' : e ∈ Table.change (emptyForFailed (checkTables allTables damaged s)).packs fun _ p => p.reconciled := he
  obtain ⟨p, hp, hep⟩ := mem_change.mp he'
  have hold : (e.1, p) ∈ s.packs := by
    rcases packs_emptied damaged s with hpacks | hpacks
    · exact hpacks ▸ hp
    · have hp' : (e.1, p) ∈ (emptyForFailed (checkTables allTables damaged s)).packs := hp
      rw [hpacks] at hp'
      cases hp'
  rw [hep]
  exact rest_reconciled (hplace _ hold).1 (hplace _ hold).2

theorem placeLaw_checkSteps (hplace : placeLaw s) (progress : CheckProgress) (damaged : BitVec 6) :
    placeLaw (checkSteps progress damaged s) := by
  have hkept : ∀ u : State, u.packs = s.packs ∨ u.packs = [] → placeLaw u := fun u hu => by
    unfold placeLaw
    rcases hu with hu | hu
    · rw [hu]; exact hplace
    · rw [hu]; exact nofun
  cases progress with
  | checking tables => exact hkept _ (packs_checked tables damaged s)
  | emptied => exact hkept _ (packs_emptied damaged s)
  | raised => exact hkept _ (packs_emptied damaged s)
  | reconciled => exact fun e he => have ⟨hshape, _⟩ := rest_of_checked hplace damaged e he; ⟨hshape.place, hshape.hold⟩

theorem workLaw_partStop {cause : StopCause} {progress : CheckProgress} {damaged : BitVec 6} (h : workLaw s)
    (hx : execPartStop cause progress damaged s = .next t) : workLaw t := by
  cases hx
  have hstop : ∀ u, workLaw u → workLaw (stopPart cause u) := fun u hu => by
    cases cause <;> exact workLaw_of_records (s := u) rfl rfl rfl rfl Iff.rfl (fun hc => ⟨hc, rfl⟩) hu
  refine hstop _ ?_
  unfold abandonCheck
  split_ifs with hcheck
  · obtain ⟨hplace, hman, hstart, hclear, -⟩ := h
    obtain ⟨ho, hn, hst, hport, hcl⟩ := checkSteps_frame progress damaged s
    refine ⟨placeLaw_checkSteps hplace progress damaged, stationLaw_congr hn hst hman, fun _ => ?_, fun hc => ?_,
      fun hp => absurd (hport.trans hcheck.2) hp⟩
    · rw [ho, hn]
      exact hstart hcheck.2
    · rw [ho, hn, hport]
      exact hclear (hcl ▸ hc)
  · exact h

theorem workLaw_startupCheckEnd {damaged : BitVec 6} (hk' : keyLaw t) (h : workLaw s)
    (hx : execStartupCheckEnd damaged s = .next t) : workLaw t := by
  cases hx
  split_ifs at hk' ⊢ with hcheck
  · obtain ⟨hplace, hman, hstart, hclear, -⟩ := h
    obtain ⟨ho, hn⟩ := hstart hcheck.2
    obtain ⟨fo, fn, fst, fport, fcl⟩ := checkSteps_frame .reconciled damaged s
    let u : State := checkSteps .reconciled damaged s
    let v : State := { postRestart (recordFailed u) with port := .idle }
    obtain ⟨hposted, -, hcl⟩ := (claim_postRestart (A := aloof) (recordFailed u)).aloof
    obtain ⟨hjudged, hport', hcl'⟩ := (claim_judgeLines (A := aloof) v).aloof
    have hu : Bound u := by
      refine Bound.ofRest (fun k p hp => rest_of_checked hplace damaged (k, p) (Table.mem_of_get hp)) ?_ (fn.trans hn)
        (fo.trans ho)
      exact stationLaw_congr fn fst hman
    have hv : Bound v := by
      refine (hu.of_alike (Alike.trans (t := recordFailed u) (alike_of_eq rfl rfl rfl rfl) hposted)).of_alike ?_
      exact alike_of_eq rfl rfl rfl rfl
    have hfalse : s.clearing = false := by
      cases hc : s.clearing with
      | false => rfl
      | true =>
        have := hcheck.2.symm.trans (hclear hc).1
        cases this
    have hclv : (judgeLines v).clearing = false := by
      rw [hcl']
      exact (hcl.trans fcl).trans hfalse
    refine workLaw_of_bound (t := judgeLines v) hk' (hv.of_alike hjudged) ?_ fun hc => ?_
    · rw [hport']
      exact nofun
    · rw [hclv] at hc
      cases hc
  · exact h

/-! ## The periods at the port (R170 to R174) -/

/-- The port changes its condition with no request run on in it. -/
theorem workLaw_of_exchange (hk' : keyLaw t) (hb : Bound s) (ha : Alike s t) (hport : t.port ≠ .starting)
    (hclear : t.clearing = false) : workLaw t :=
  workLaw_of_bound hk' (hb.of_alike ha) hport fun h => absurd (hclear.symm.trans h) nofun

/-- CLEAR_YARD runs on at an executing port alone. -/
theorem clearing_of_port (h : workLaw s) (hport : s.port ≠ .executing .clearYard) : s.clearing = false := by
  cases hc : s.clearing with
  | false => rfl
  | true => exact absurd (h.2.2.2.1 hc).1 hport

theorem workLaw_miso (hk : keyLaw s) (h : workLaw s) (l : List Byte) : workLaw { s with miso := l } :=
  workLaw_of_alike (s := s) hk hk (alike_of_eq rfl rfl rfl rfl) rfl rfl h

theorem workLaw_readPort (hk : keyLaw s) (ht : tierLaw s) (h : workLaw s) (clocked lead : Nat)
    (supply : SupplyStatus) : workLaw (readPort clocked lead supply s) := by
  unfold readPort
  split
  next r hport =>
    split_ifs
    · exact workLaw_miso hk h _
    · unfold readResponse deliver
      split_ifs
      · exact workLaw_miso hk h _
      · exact workLaw_startReset (s := { s with
          miso := r.frame ++ List.replicate (clocked - r.frame.length) Config.busyFiller }) _ _ h.1
      · have hg := good_of_workLaw hk ht h (by rw [hport]; exact nofun)
        have hfree : s.clearing = false := clearing_of_port h (by rw [hport]; exact nofun)
        exact workLaw_of_exchange (s := s) hk hg.bound (alike_of_eq rfl rfl rfl rfl) nofun hfree
  · exact workLaw_miso hk h _
  · exact workLaw_miso hk h _
  · exact workLaw_miso hk h _

theorem workLaw_readPeriod {clocked : Nat} {start : PeriodStart} {supply : SupplyStatus} (hk : keyLaw s)
    (ht : tierLaw s) (h : workLaw s) (hx : execReadPeriod clocked start supply s = .next t) : workLaw t := by
  have hbytes : ∀ lead, workLaw (readPeriodBytes clocked lead supply s) := fun lead => by
    unfold readPeriodBytes
    split_ifs
    · exact h
    · exact workLaw_readPort hk ht h _ _ _
  cases hx
  split_ifs
  · exact h
  · cases start with
    | beforeReset => exact workLaw_miso hk h _
    | fresh => exact hbytes 0
    | within lead => exact hbytes lead

theorem clearLast_frame (code : Nat) (s : State) : ∃ l, clearLast code s = { s with lastStatus := l } := by
  unfold clearLast
  split_ifs
  · exact ⟨none, rfl⟩
  · exact ⟨s.lastStatus, rfl⟩

/-- A frame at a port without a request in hand is taken or answered. -/
theorem takeFrame_eq (bytes : List Byte) (s : State) :
    ∃ p l, takeFrame bytes s = { s with port := p, lastStatus := l } ∧ p ≠ .starting := by
  have hanswer : ∀ (u : State) code station restart status reply, (∃ l, u = { s with lastStatus := l }) →
      ∃ p l, respondAs code station restart status reply u = { s with port := p, lastStatus := l } ∧ p ≠ .starting := by
    rintro u code station restart status reply ⟨l, rfl⟩
    unfold respondAs
    split_ifs
    · exact ⟨_, l, rfl, nofun⟩
    · exact ⟨_, _, rfl, nofun⟩
  unfold takeFrame
  split
  · exact hanswer s _ _ _ _ _ ⟨s.lastStatus, rfl⟩
  · split
    · exact hanswer _ _ _ _ _ _ (clearLast_frame _ s)
    next f _ _ c _ =>
      obtain ⟨l, hl⟩ := clearLast_frame f.code s
      exact ⟨.executing c, l, by rw [hl], nofun⟩

theorem workLaw_takeFrame (hk : keyLaw s) (ht : tierLaw s) (h : workLaw s) (hstart : s.port ≠ .starting)
    (hfree : s.port ≠ .executing .clearYard) (bytes : List Byte) : workLaw (takeFrame bytes s) := by
  obtain ⟨p, l, he, hp⟩ := takeFrame_eq bytes s
  have hclear : s.clearing = false := clearing_of_port h hfree
  rw [he]
  exact workLaw_of_exchange (s := s) hk (good_of_workLaw hk ht h hstart).bound (alike_of_eq rfl rfl rfl rfl) hp hclear

theorem workLaw_releasePeriod (hk : keyLaw s) (ht : tierLaw s) (h : workLaw s) (bytes : List Byte) :
    workLaw (releasePeriod bytes s) := by
  have hpost : workLaw (post .portOverrun s) := workLaw_of_alike (s := s) hk hk (alike_post _ _) rfl rfl h
  unfold releasePeriod
  split
  · exact workLaw_of_alike (s := s) hk hk (alike_of_eq rfl rfl rfl rfl) rfl rfl h
  next hport => exact workLaw_takeFrame hk ht h (by rw [hport]; exact nofun) (by rw [hport]; exact nofun) bytes
  · exact hpost
  next r hport =>
    have hport' : (post .portOverrun s).port = .answered r := hport
    exact workLaw_takeFrame (s := post .portOverrun s) hk ht hpost (by rw [hport']; exact nofun)
      (by rw [hport']; exact nofun) bytes

theorem workLaw_requestPeriod {bytes : List Byte} {start : PeriodStart} (hk : keyLaw s) (ht : tierLaw s)
    (h : workLaw s) (hx : execRequestPeriod bytes start s = .next t) : workLaw t := by
  have hbytes : ∀ lead, workLaw (requestPeriodBytes bytes lead s) := fun lead => by
    unfold requestPeriodBytes
    split
    · exact h
    next b rest =>
      split_ifs
      · exact workLaw_readPort hk ht h _ _ _
      · exact workLaw_releasePeriod (s := { s with miso := periodFillers s (b :: rest).length lead }) hk ht
          (workLaw_miso hk h _) _
  cases hx
  split_ifs
  · exact h
  · cases start with
    | beforeReset =>
      show workLaw (loseRequest bytes s)
      unfold loseRequest
      split_ifs
      · exact workLaw_of_alike (s := s) hk hk (alike_of_eq rfl rfl rfl rfl) rfl rfl h
      · exact workLaw_miso hk h _
    | fresh => exact hbytes 0
    | within lead => exact hbytes lead

/-! ## Events -/

/-- An event that leaves the port, keeps the laws of the work, and wakes nothing where nothing is live. -/
theorem workLaw_of_event (hk : keyLaw s) (ht : tierLaw s) (hk' : keyLaw t) (h : workLaw s) (hc : Claim within s t)
    (hstart : s.port = .starting → s.orders = [] → Alike s t)
    (hidle : s.orders = [] → s.tasks = [] → t.orders = [] ∧ t.tasks = []) (hb : Good s → Bound t) : workLaw t := by
  obtain ⟨hport, hclear⟩ := hc.samePort fun hne => hne rfl
  by_cases hs : s.port = .starting
  · exact workLaw_of_alike hk hk' (hstart hs (h.2.2.1 hs).1) hport hclear h
  · refine workLaw_of_bound hk' (hb (good_of_workLaw hk ht h hs)) (hport ▸ hs) fun hcl => ?_
    obtain ⟨hexec, ho, hn⟩ := h.2.2.2.1 (hclear ▸ hcl)
    exact ⟨hport.trans hexec, hidle ho hn⟩

theorem idle_of_alike (ha : Alike s t) (ho : s.orders = []) (hn : s.tasks = []) : t.orders = [] ∧ t.tasks = [] :=
  ⟨eq_nil_of_sameCounts (ho ▸ ha.orders), ha.tasks.trans hn⟩

theorem claim_of_claims {A : Part → Prop} {out : Out} (h : Claims A s out) (hx : out = .next t) : Claim A s t := by
  obtain ⟨u, hu, hc⟩ := h
  rw [hx] at hu
  cases hu
  exact hc

theorem port_of_running (h : s.running = true) : s.port ≠ .starting := by
  unfold State.running at h
  simpa using (Bool.and_eq_true_iff.mp h).2

/-- An event of the running part alone. -/
theorem workLaw_of_running (hk : keyLaw s) (ht : tierLaw s) (hk' : keyLaw t) (h : workLaw s) (hc : Claim within s t)
    (hrun : s.running = false → t = s)
    (hidle : s.orders = [] → s.tasks = [] → t.orders = [] ∧ t.tasks = []) (hb : Good s → Bound t) : workLaw t := by
  refine workLaw_of_event hk ht hk' h hc (fun hs _ => ?_) hidle hb
  rw [hrun (by by_contra hne; exact port_of_running (by simpa using hne) hs)]
  exact .refl s

theorem workLaw_tick (hk : keyLaw s) (ht : tierLaw s) (hk' : keyLaw (tick s)) (h : workLaw s) : workLaw (tick s) := by
  refine workLaw_of_running hk ht hk' h (claim_tick nofun nofun s) (fun hrun => ?_) (fun ho hn => ?_)
    fun hg => hg.bound.tick
  · rw [Machine.tick, hrun]
    rfl
  · unfold Machine.tick
    split_ifs <;> simp [ho, hn, Table.change]

/-- With no order live the engine has nothing to validate (R83, R86). -/
theorem alike_finishScan (ho : s.orders = []) (c : Candidate) : Alike s (finishScan c s) := by
  have hscan : scanLine s = none := by
    cases hl : scanLine s with
    | none => rfl
    | some x =>
      obtain ⟨r, o, l⟩ := x
      obtain ⟨-, hget, -⟩ := scanLine_spec hl
      rw [ho] at hget
      cases hget
  rw [finishScan, hscan]
  exact alike_setEngine _ _

theorem alike_resumeScan (ho : s.orders = []) : Alike s (resumeScan s) := by
  unfold resumeScan
  split_ifs
  · split
    · exact .refl s
    · exact alike_finishScan ho _
  · exact .refl s

theorem alike_endPass (ho : s.orders = []) : Alike s (endPass s) := by
  have hscan : scanLine s = none := by
    cases hl : scanLine s with
    | none => rfl
    | some x =>
      obtain ⟨r, o, l⟩ := x
      obtain ⟨-, hget, -⟩ := scanLine_spec hl
      rw [ho] at hget
      cases hget
  rw [endPass, hscan]
  exact alike_setEngine _ _

theorem workLaw_supplyRecovery (hk : keyLaw s) (ht : tierLaw s) (hk' : keyLaw t) (h : workLaw s)
    (hx : execSupplyRecovery s = .next t) : workLaw t := by
  have hc : Claim within s t :=
    claim_of_claims (claims_supplyRecovery (A := within) nofun nofun nofun (Or.inr nofun)) hx
  have hsound : Alike s { s with supply := .sound } := alike_of_eq rfl rfl rfl rfl
  cases hx
  split_ifs at hk' hc ⊢
  · exact h
  · refine workLaw_of_event hk ht hk' h hc (fun _ ho => ?_) (fun ho hn => ?_) fun hg => ?_
    · exact hsound.trans (alike_resumeScan (s := { s with supply := .sound }) ho)
    · exact idle_of_alike (hsound.trans (alike_resumeScan (s := { s with supply := .sound }) ho)) ho hn
    · exact Bound.resumeScan (hg.of_alike hsound hk.2)

theorem workLaw_passEnd (hk : keyLaw s) (ht : tierLaw s) (hk' : keyLaw t) (h : workLaw s)
    (hx : execPassEnd s = .next t) : workLaw t := by
  have hc : Claim within s t := claim_of_claims (claims_passEnd (A := within) nofun nofun nofun (Or.inr nofun)) hx
  cases hx
  split_ifs at hk' hc ⊢ with hrun
  · exact workLaw_of_event hk ht hk' h hc (fun hs => absurd hs (port_of_running hrun.1))
      (fun ho hn => idle_of_alike (alike_endPass ho) ho hn) fun hg => Bound.endPass hg
  · exact h

/-- With no task live no reservation is judged (R154). -/
theorem judgeWetteds_idle (hn : s.tasks = []) (l : List Nat) : l.foldl judgeWetted s = s := by
  induction l with
  | nil => rfl
  | cons tag l ih =>
    have hone : judgeWetted s tag = s := by
      rcases judgeWetted_cases s tag with he | ⟨hfetch, -⟩
      · exact he
      · rw [fetchUntaken_of_no_tasks hn] at hfetch
        cases hfetch
    rw [List.foldl_cons, hone, ih]

theorem wetStack_idle (ho : s.orders = []) (hn : s.tasks = []) (b k : Nat) :
    (wetStack s b k).orders = [] ∧ (wetStack s b k).tasks = [] := by
  simp only [wetStack]
  rw [judgeWetteds_idle (by exact hn), endClaim]
  simp [ho, hn]

theorem workLaw_wettingSweepStack (hk : keyLaw s) (ht : tierLaw s) (hk' : keyLaw t) (h : workLaw s)
    (hx : execWettingSweepStack s = .next t) : workLaw t := by
  have hc : Claim within s t :=
    claim_of_claims (claims_wettingSweepStack (A := within) nofun nofun nofun (Or.inr nofun)) hx
  have hswept : t = s ∨ t = endSweep s ∨
      s.running = true ∧ ∃ bk : Nat × Nat, t = { wetStack s bk.1 bk.2 with sweep := some (bk.1, bk.2 + 1) } := by
    cases hx
    split_ifs with hrun
    · split
      · exact Or.inl rfl
      · split
        · exact Or.inr (Or.inl rfl)
        · exact Or.inr (Or.inr ⟨hrun, _, rfl⟩)
    · exact Or.inl rfl
  rcases hswept with rfl | rfl | ⟨hrun, bk, rfl⟩
  · exact h
  · have hend : Alike s (endSweep s) := by
      unfold endSweep
      split_ifs <;> exact alike_of_eq rfl rfl rfl rfl
    obtain ⟨hport, hclear⟩ := hc.samePort fun hne => hne rfl
    exact workLaw_of_alike hk hk' hend hport hclear h
  · refine workLaw_of_event hk ht hk' h hc (fun hs => absurd hs (port_of_running hrun))
      (fun ho hn => wetStack_idle ho hn bk.1 bk.2) fun hg => ?_
    exact (hg.wetStack bk.1 bk.2).bound.of_alike (alike_of_eq rfl rfl rfl rfl)

end

end Sys2Proof.Proofs
end

section
/-!
PROOFS. Law by law, every step: the limits of orders, and what ties packs, tasks, stations and orders together (R31, R36,
R37, R66, R67, R71, R72, R119).
-/

namespace Sys2Proof.Proofs

open Sys2Proof.Machine Sys2Proof.Safety

/-! ## The remaining events -/

section
variable {s t : State} {c : Instr}

theorem workLaw_of_aloof {out : Out} (hk : keyLaw s) (hk' : keyLaw t) (h : workLaw s) (hc : Claims aloof s out)
    (hx : out = .next t) : workLaw t := by
  obtain ⟨ha, hport, hclear⟩ := (claim_of_claims hc hx).aloof
  exact workLaw_of_alike hk hk' ha hport hclear h

theorem dueTask_idle (hn : s.tasks = []) (m : Nat) (st : TaskState) : dueTask s m st = none := by
  rw [dueTask, State.task, hn]
  rfl

/-- An event on tasks: a part that does not run, or has no task, lets it pass. -/
theorem workLaw_of_taskEvent {out : Out} (hk : keyLaw s) (ht : tierLaw s) (hk' : keyLaw t) (h : workLaw s)
    (hc : Claims within s out) (hrest : s.running = false ∨ s.tasks = [] → out = .next s) (hb : Good s → Bound t)
    (hx : out = .next t) : workLaw t := by
  have hsame : s.running = false ∨ s.tasks = [] → t = s := fun hr => by
    rw [hrest hr] at hx
    cases hx
    rfl
  refine workLaw_of_running hk ht hk' h (claim_of_claims hc hx) (fun hrun => hsame (Or.inl hrun)) (fun ho hn => ?_) hb
  rw [hsame (Or.inr hn)]
  exact ⟨ho, hn⟩

theorem chosenTask_idle (hn : s.tasks = []) : chosenTask s = none := by
  cases hc : chosenTask s with
  | none => rfl
  | some x =>
    have hmem := (mem_offerableTasks.mp (chosenTask_mem hc)).1
    rw [hn] at hmem
    cases hmem

theorem workLaw_taskOffer (hk : keyLaw s) (ht : tierLaw s) (hk' : keyLaw t) (h : workLaw s)
    (hx : execTaskOffer s = .next t) : workLaw t := by
  refine workLaw_of_taskEvent hk ht hk' h (claims_taskOffer nofun (Or.inr nofun)) (fun hrest => ?_)
    (fun hg => bound_taskOffer hg hx) hx
  unfold execTaskOffer
  rcases hrest with hrun | hn
  · rw [if_neg (by simp [hrun])]
  · rw [chosenTask_idle hn]
    exact congrArg Host.Outcome.next (ite_self s)

theorem workLaw_offerLapse {m : Nat} (hk : keyLaw s) (ht : tierLaw s) (hk' : keyLaw t) (h : workLaw s)
    (hx : execOfferLapse m s = .next t) : workLaw t := by
  refine workLaw_of_taskEvent hk ht hk' h (claims_offerLapse nofun (Or.inr nofun) m) (fun hrest => ?_)
    (fun hg => bound_offerLapse hg.bound hx) hx
  unfold execOfferLapse
  rcases hrest with hrun | hn
  · rw [if_neg (by simp [hrun])]
  · rw [dueTask_idle hn]
    exact congrArg Host.Outcome.next (ite_self s)

theorem workLaw_taskLapse {m : Nat} (hk : keyLaw s) (ht : tierLaw s) (hk' : keyLaw t) (h : workLaw s)
    (hx : execTaskLapse m s = .next t) : workLaw t := by
  refine workLaw_of_taskEvent hk ht hk' h (claims_taskLapse nofun (Or.inr nofun) m) (fun hrest => ?_)
    (fun hg => bound_taskLapse hg.bound hx) hx
  unfold execTaskLapse
  rcases hrest with hrun | hn
  · rw [if_neg (by simp [hrun])]
  · rw [dueTask_idle hn]
    exact congrArg Host.Outcome.next (ite_self s)

theorem workLaw_carryOverdue {m : Nat} (hk : keyLaw s) (ht : tierLaw s) (hk' : keyLaw t) (h : workLaw s)
    (hx : execCarryOverdue m s = .next t) : workLaw t := by
  refine workLaw_of_taskEvent hk ht hk' h (claims_carryOverdue nofun m s) (fun hrest => ?_)
    (fun hg => bound_carryOverdue hg.bound hx) hx
  refine congrArg Host.Outcome.next (if_neg ?_)
  rcases hrest with hrun | hn
  · simp [hrun]
  · simp [alarmDue, State.task, hn]

theorem workLaw_proposalExpiry {n : Nat} (hk : keyLaw s) (hk' : keyLaw t) (h : workLaw s)
    (hx : execProposalExpiry n s = .next t) : workLaw t := by
  obtain ⟨hport, hclear⟩ := (claim_of_claims (claims_proposalExpiry (A := within) nofun n s) hx).samePort
    fun hne => hne rfl
  refine workLaw_of_alike hk hk' ?_ hport hclear h
  cases hx
  split_ifs
  · exact (alike_emptySlot n s).trans (alike_post _ _)
  · exact .refl s

/-! ## Every command -/

/-- A task request comes from a station of the yard (R172 step 2). -/
theorem upholds_lifted (n tag : Nat) : Upholds (.lifted n tag) (liftedBlock n tag) := fun u hu hallowed => by
  have hn : 1 ≤ n ∧ n ≤ Config.stationCount := by
    have hcode : (Instr.lifted n tag).requestCode = 0x55 := rfl
    have hfield : (Instr.lifted n tag).stationField = n := rfl
    have hall := hallowed
    rw [hcode, hfield, show familyOf 0x55 = 5 by decide, stationAllowed, if_pos rfl, Bool.and_eq_true,
      decide_eq_true_eq, decide_eq_true_eq] at hall
    exact hall
  exact ⟨bound_liftedBlock hu hn.2 tag,
    ((claim_liftedBlock (A := within) nofun nofun (Or.inr nofun) n tag).samePort fun hne => hne rfl).2⟩

/-- Every command keeps the laws between the records. -/
theorem exec_keeps_workLaw (hk : keyLaw s) (ht : tierLaw s) (hclosed : closedLaw s) (h : workLaw s)
    (hx : exec c s = .next t) : workLaw t := by
  have hk' : keyLaw t := exec_keeps (fun _ _ _ hc => hc.keyLaw) hx hk
  cases c with
  | statusSummary => exact (upholds_of_aloof fun _ => .refl).serve hk ht hk' h hx
  | getCapacities => exact (upholds_of_aloof fun _ => .refl).serve hk ht hk' h hx
  | getFamilies => exact (upholds_of_aloof fun _ => .refl).serve hk ht hk' h hx
  | fetchEvents => exact (upholds_of_aloof fun _ => claim_fetchEventsBlock).serve hk ht hk' h hx
  | setEventEnables => exact (upholds_of_aloof fun _ => claim_setEventEnablesBlock _).serve hk ht hk' h hx
  | setBay =>
    exact (upholds_of_within (fun _ hu => bound_setBayBlock hu _ _ _ _ _ _ _) fun _ =>
      claim_setBayBlock nofun nofun nofun nofun (Or.inr nofun) _ _ _ _ _ _ _).serve hk ht hk' h hx
  | readBay => exact (upholds_of_aloof fun _ => claim_readBayBlock _).serve hk ht hk' h hx
  | setLoadingPoint =>
    exact (upholds_of_aloof fun _ => claim_setLoadingPointBlock (Or.inl rfl) _).serve hk ht hk' h hx
  | setLine => exact (upholds_of_aloof fun _ => claim_setLineBlock (Or.inl rfl) _).serve hk ht hk' h hx
  | setTimers => exact (upholds_of_aloof fun _ => claim_setTimersBlock (Or.inl rfl) _).serve hk ht hk' h hx
  | setWeights => exact (upholds_of_aloof fun _ => claim_setWeightsBlock (Or.inl rfl) _).serve hk ht hk' h hx
  | setDay => exact (upholds_of_aloof fun _ => claim_setDayBlock (Or.inl rfl) _).serve hk ht hk' h hx
  | closeYard =>
    exact (upholds_of_within (fun _ hu => bound_closeYardBlock hu.bound) fun _ => claim_closeYardBlock nofun).serve
      hk ht hk' h hx
  | openYard => exact (upholds_of_aloof fun _ => claim_opened _).serve hk ht hk' h hx
  | clearYard => exact workLaw_clearYard hk ht hclosed hk' h hx
  | clearYardEnd => exact workLaw_clearYardEnd hk' h hx
  | setProduct => exact (upholds_of_aloof fun _ => claim_setProductBlock (Or.inl rfl) _ _ _).serve hk ht hk' h hx
  | readProduct => exact (upholds_of_aloof fun _ => claim_readProductBlock _).serve hk ht hk' h hx
  | setSubstitutes =>
    exact (upholds_of_aloof fun _ => claim_setSubstitutesBlock (Or.inl rfl) _ _).serve hk ht hk' h hx
  | receivePack =>
    exact (upholds_of_within (fun _ hu => bound_receivePackBlock hu _ _ _ _ _ _ _ _ _) fun _ =>
      claim_receivePackBlock nofun _ _ _ _ _ _ _ _ _).serve hk ht hk' h hx
  | readPack => exact (upholds_of_aloof fun _ => claim_readPackBlock _).serve hk ht hk' h hx
  | readStack => exact (upholds_of_aloof fun _ => claim_readStackBlock _ _).serve hk ht hk' h hx
  | recordMove =>
    exact (upholds_of_within (fun _ hu => bound_recordMoveBlock hu _ _ _) fun _ =>
      claim_recordMoveBlock nofun _ _ _).serve hk ht hk' h hx
  | holdPack =>
    exact (upholds_of_within (fun _ hu => bound_holdPackBlock hu _) fun _ =>
      claim_holdPackBlock nofun nofun nofun (Or.inr nofun) _).serve hk ht hk' h hx
  | releasePack =>
    exact (upholds_of_within (fun _ hu => bound_releasePackBlock hu _ _) fun _ =>
      claim_releasePackBlock nofun _ _).serve hk ht hk' h hx
  | scrapPack =>
    exact (upholds_of_within (fun _ hu => bound_scrapPackBlock hu _) fun _ =>
      claim_scrapPackBlock nofun _).serve hk ht hk' h hx
  | clearWetted =>
    exact (upholds_of_within (fun _ hu => bound_clearWettedBlock hu _ _) fun _ =>
      claim_clearWettedBlock nofun _ _).serve hk ht hk' h hx
  | findOldest => exact (upholds_of_aloof fun _ => claim_findOldestBlock _ _).serve hk ht hk' h hx
  | checkIn =>
    exact (upholds_of_within (fun _ hu => bound_checkInBlock hu _ _ _ _ _) fun _ =>
      claim_checkInBlock nofun _ _ _ _ _).serve hk ht hk' h hx
  | readOrder => exact (upholds_of_aloof fun _ => claim_readOrderBlock _ _).serve hk ht hk' h hx
  | setPoint =>
    exact (upholds_of_within (fun _ hu => bound_setPointBlock hu.bound _ _) fun _ =>
      claim_setPointBlock nofun _ _).serve hk ht hk' h hx
  | setLevel =>
    exact (upholds_of_within (fun _ hu => bound_setLevelBlock hu.bound _ _) fun _ =>
      claim_setLevelBlock nofun _ _).serve hk ht hk' h hx
  | cancel =>
    exact (upholds_of_within (fun _ hu => bound_cancelBlock hu _) fun _ =>
      claim_endOrderBlock nofun nofun nofun (Or.inr nofun) (fun n u => work_unconfirmLoaded nofun n u) _).serve
      hk ht hk' h hx
  | depart =>
    exact (upholds_of_within (fun _ hu => bound_departBlock hu _) fun _ =>
      claim_endOrderBlock nofun nofun nofun (Or.inr nofun) (fun n u => work_departLoaded nofun n u) _).serve
      hk ht hk' h hx
  | confirmProposal =>
    exact (upholds_of_within (fun _ hu => bound_confirmProposalBlock hu _ _) fun _ =>
      claim_confirmProposalBlock nofun nofun nofun (Or.inr nofun) _ _).serve hk ht hk' h hx
  | rejectProposal =>
    exact (upholds_of_within (fun _ hu => bound_rejectProposalBlock hu.bound _ _) fun _ =>
      claim_rejectProposalBlock nofun _ _).serve hk ht hk' h hx
  | goOnShift =>
    exact (upholds_of_within (fun _ hu => bound_goOnShiftBlock hu.bound _ _) fun _ =>
      claim_goOnShiftBlock nofun _ _).serve hk ht hk' h hx
  | goOffShift =>
    exact (upholds_of_within (fun _ hu => bound_goOffShiftBlock hu.bound _) fun _ =>
      claim_goOffShiftBlock nofun _).serve hk ht hk' h hx
  | pollTask =>
    exact (upholds_of_within (fun _ hu => bound_pollTaskBlock hu.bound _) fun _ =>
      claim_pollTaskBlock nofun _).serve hk ht hk' h hx
  | accept =>
    exact (upholds_of_within (fun _ hu => bound_acceptBlock hu.bound _ _) fun _ =>
      claim_acceptBlock nofun (Or.inr nofun) _ _).serve hk ht hk' h hx
  | decline =>
    exact (upholds_of_within (fun _ hu => bound_declineBlock hu.bound _ _) fun _ =>
      claim_declineBlock nofun (Or.inr nofun) _ _).serve hk ht hk' h hx
  | lifted => exact (upholds_lifted _ _).serve hk ht hk' h hx
  | dropped =>
    exact (upholds_of_within (fun _ hu => bound_droppedBlock hu _ _) fun _ =>
      claim_droppedBlock nofun nofun nofun (Or.inr nofun) _ _).serve hk ht hk' h hx
  | reportMissing =>
    exact (upholds_of_within (fun _ hu => bound_reportMissingBlock hu _) fun _ =>
      claim_reportMissingBlock nofun nofun nofun (Or.inr nofun) _).serve hk ht hk' h hx
  | reportPosition =>
    exact (upholds_of_within (fun _ hu => bound_reportPositionBlock hu.bound _ _) fun _ =>
      claim_reportPositionBlock nofun _ _).serve hk ht hk' h hx
  | setWatch => exact (upholds_of_aloof fun _ => claim_setWatchBlock _ _ _ _ _).serve hk ht hk' h hx
  | readWatch => exact (upholds_of_aloof fun _ => claim_readWatchBlock _).serve hk ht hk' h hx
  | clearWatch => exact (upholds_of_aloof fun _ => claim_clearWatchBlock _).serve hk ht hk' h hx
  | restart => exact (upholds_of_aloof fun _ => claim_restartBlock).serve hk ht hk' h hx
  | requestPeriod => exact workLaw_requestPeriod hk ht h hx
  | readPeriod => exact workLaw_readPeriod hk ht h hx
  | powerOn => exact workLaw_powerOn h hx
  | resetPin => exact workLaw_resetPin hk hk' h hx
  | partStop => exact workLaw_partStop h hx
  | startupCheckEnd => exact workLaw_startupCheckEnd hk' h hx
  | supplyDip => exact workLaw_of_aloof hk hk' h (claims_supplyDip s) hx
  | supplyRecovery => exact workLaw_supplyRecovery hk ht hk' h hx
  | pinChange => exact workLaw_of_aloof hk hk' h (claims_pinChange _ _ s) hx
  | debounceExpiry => exact workLaw_of_aloof hk hk' h (claims_debounceExpiry _ s) hx
  | wettingSweepStack => exact workLaw_wettingSweepStack hk ht hk' h hx
  | scanStart => exact workLaw_of_aloof hk hk' h (claims_scanStart s) hx
  | firstPassVisit => exact workLaw_of_aloof hk hk' h (claims_visit .first _ s) hx
  | secondPassVisit => exact workLaw_of_aloof hk hk' h (claims_visit .second _ s) hx
  | passEnd => exact workLaw_passEnd hk ht hk' h hx
  | taskOffer => exact workLaw_taskOffer hk ht hk' h hx
  | offerLapse => exact workLaw_offerLapse hk ht hk' h hx
  | taskLapse => exact workLaw_taskLapse hk ht hk' h hx
  | carryOverdue => exact workLaw_carryOverdue hk ht hk' h hx
  | proposalExpiry => exact workLaw_proposalExpiry hk hk' h hx

/-- Every step keeps the laws between the records. -/
theorem step_keeps_workLaw (hk : keyLaw s) (ht : tierLaw s) (hclosed : closedLaw s) (h : workLaw s)
    (hx : step s = .next t) : workLaw t := by
  unfold step at hx
  split at hx
  · cases hx
    exact workLaw_tick hk ht ((claim_tick (A := within) nofun nofun s).toWork.keeps (fun _ _ _ hc => hc.keyLaw) hk) h
  next c rest _ => exact exec_keeps_workLaw (s := { s with pending := rest }) hk ht hclosed h hx

end

/-- Settles O9: each elementary change keeps the limits of an order, and each command the laws that tie the records. -/
theorem ordersKeepTheirLimits : Obligations.OrdersKeepTheirLimits :=
  ⟨fun _ _ hk ho hx => step_keeps_orderLaw hk ho hx,
    fun _ _ hk hstack hclosed h hx => step_keeps_workLaw hk hstack.1 hclosed h hx⟩

end Sys2Proof.Proofs
end
